-- ==== Sys2Proof/Word.lean ====
section
/-! DEFINITION. The word types of the Utkora 7416 and the closed sets of names its commands speak of
(ports, links, regions, roles, kinds). Nothing here has behaviour: every rule of the manual is in Machine/. -/

namespace Sys2Proof

/-- One byte of the control link (R189). -/
abbrev Byte := BitVec 8

/-- A value of the frame counter, 0..4,294,967,295; differences wrap modulo 2^32 (R48). -/
abbrev FrameNo := BitVec 32

/-- A ms number of the Clock Unit's timebase; differences wrap modulo 2^64 (R82). -/
abbrev Ms := BitVec 64

/-- CP0 to CP5 (R189). -/
abbrev PortId := Fin 6

/-- PL0 to PL7 (R63). -/
abbrev LinkId := Fin 8

/-- Region ids 0..32 (R1). -/
abbrev RegionId := Fin 33

/-- The 36 monitors in the order of the table of R59. -/
abbrev MonitorId := Fin 36

/-- One of the eight fill patterns (R5). -/
abbrev PatternId := Fin 8

/-- The picture inputs (R54). -/
inductive InputId where
  | pa
  | pb
  deriving DecidableEq, Repr

/-- Port roles, in the order of R192. -/
inductive Role where
  | director
  | scoring
  | replay
  | sponsor
  | messages
  | general
  deriving DecidableEq, Repr

/-- Fault policy of a region (R2). -/
inductive FaultPolicy where
  | hold
  | fallback
  deriving DecidableEq, Repr

/-- View binding of a region, in the order of R2. -/
inductive ViewBinding where
  | none
  | mainClock
  | possession
  | score
  | period
  deriving DecidableEq, Repr

/-- The two internal engines that claim regions (R18). -/
inductive Engine where
  | rotation
  | message
  deriving DecidableEq, Repr

/-- Flow mode of a panel link (R69). -/
inductive FlowMode where
  | strict
  | oneAhead
  deriving DecidableEq, Repr

/-- The possession arrow of the score record (R100). -/
inductive Arrow where
  | home
  | away
  | none
  deriving DecidableEq, Repr

/-- Style of a crowd message (R151). -/
inductive Style where
  | normal
  | stoppage
  deriving DecidableEq, Repr

/-- Kind of an asset (R170). -/
inductive AssetKind where
  | image
  | glyphSet
  deriving DecidableEq, Repr

/-- The link field of SetLinkMode: one link or All (R77). -/
inductive LinkSel where
  | one (k : LinkId)
  | all
  deriving DecidableEq, Repr

/-- A named value as a request carries it: one of the field's values, or a code beyond them, which the
owning block refuses with BadValue (R190). -/
inductive Named (α : Type) where
  | known (a : α)
  | unknown (code : Nat)
  deriving DecidableEq, Repr

/-- The content field of a Claim (R26): the kinds of R19 with their own fields, or a kind beyond them. -/
inductive ContentField where
  | picture (source : Named InputId)
  | asset (id : Nat)
  | fill (pattern : Nat)
  | spot
  | crawl
  | unknown (code : Nat)
  deriving DecidableEq, Repr

/-- The fields of DefineRegion (R6); an optional field that is absent takes its default of R2. -/
structure DefineFields where
  id : Nat
  layer : Nat
  col : Nat
  row : Nat
  width : Nat
  height : Nat
  dwell : Option Nat
  sponsor : Option Bool
  message : Option Bool
  stoppage : Option Bool
  policy : Option (Named FaultPolicy)
  holdLimit : Option Nat
  fill : Option Nat
  view : Option (Named ViewBinding)
  glyphSet : Option Nat
  deriving DecidableEq, Repr

/-- The fields of ScoreSet, each of which may be left out (R100). -/
structure ScoreFields where
  home : Option Nat
  away : Option Nat
  homeFouls : Option Nat
  awayFouls : Option Nat
  homeTimeouts : Option Nat
  awayTimeouts : Option Nat
  arrow : Option (Named Arrow)
  deriving DecidableEq, Repr

/-- The fields of ClockConfig, each of which may be left out (R92). -/
structure ClockFields where
  length : Option Nat
  possessionReset : Option Nat
  window : Option Nat
  hysteresis : Option Nat
  hornLength : Option Nat
  whistleStop : Option Bool
  flashLength : Option Nat
  deriving DecidableEq, Repr

/-- The fields of MessageConfig, each of which may be left out (R153). -/
structure MessageFields where
  maxLength : Option Nat
  continuation : Option Nat
  substitute : Option Nat
  speed : Option Nat
  holdLimit : Option Nat
  deriving DecidableEq, Repr

/-- The fields of UploadBegin (R176): dimensions for an Image, advance widths for a GlyphSet. -/
structure UploadFields where
  id : Nat
  kind : Named AssetKind
  dims : Option (Nat × Nat)
  widths : Option (List Nat)
  deriving DecidableEq, Repr

end Sys2Proof
end

