-- ==== Sys2Proof/Syntax.lean ====
section
/-! DEFINITION. The commands of the Utkora 7416: one constructor per row of spec/opcode_table.json, in the
table's order. The first 36 rows are events of the part's own time base, inputs, links and memory; the other
59 are requests, each carried by a valid frame with sequence number `q` that a port `p` receives (R189, R193).
Times `t` are counted in periods of the 10 MHz reference from the end of device reset (R45). -/

namespace Sys2Proof

/-- One command to the block. -/
inductive Instr where
  -- events
  | deviceReset (dirsel : Fin 8) (ratesel : Bool)
  | startupScanEnd (failedMarks : List Nat)
  | genlockEdge (t : Nat)
  | frameTimerExpiry (t : Nat)
  | genlockLost (t : Nat)
  | claimDurationEnd (r : RegionId)
  | spotComplete (r : RegionId)
  | passComplete (r : RegionId)
  | scoreFlashEnd
  | inputFrameArrival (i : InputId) (width height : Nat) (tiles : List Nat)
  | inputFrameDiscarded (i : InputId)
  | inputLost (i : InputId)
  | holdLimitFallback (r : RegionId)
  | slotStart (k : LinkId)
  | receiverStatus (k : LinkId) (ack room : Bool) (group : Fin 8) (hold : Byte) (afterLast : Bool)
  | slotEndNoStatus (k : LinkId)
  | linkHoldEnd (k : LinkId)
  | frameClose (k : LinkId)
  | linkDown (k : LinkId)
  | msStep
  | mainExpiry
  | possessionExpiry
  | hornEnd
  | whistle
  | heldEntryLapse (p : PortId) (tag : Nat)
  | pageProgramStart
  | pageProgramEnd (ok : Bool)
  | markProgramStart
  | markProgramEnd (ok : Bool)
  | reclaimBlockJudge
  | blockEraseEnd (ok : Bool)
  | operationTimeLimit
  | rxFrame (p : PortId) (bytes : List Byte)
  | rxByteGap (p : PortId)
  | silenceTimeout (p : PortId)
  | txFrameEnd (p : PortId)
  -- requests
  | defineRegion (p : PortId) (q : Byte) (d : DefineFields)
  | deleteRegion (p : PortId) (q : Byte) (id : Nat)
  | setBase (p : PortId) (q : Byte) (fill dwell : Option Nat)
  | setFill (p : PortId) (q : Byte) (pattern red green blue : Nat)
  | readRegion (p : PortId) (q : Byte) (id : Nat)
  | goLive (p : PortId) (q : Byte)
  | endLive (p : PortId) (q : Byte)
  | matchReset (p : PortId) (q : Byte)
  | setPortRole (p : PortId) (q : Byte) (port : Nat) (role : Named Role)
  | setPortTimeout (p : PortId) (q : Byte) (port ms : Nat)
  | setPriorityMap (p : PortId) (q : Byte) (port : Nat) (ranks : List Nat)
  | setEngineRank (p : PortId) (q : Byte) (engine : Named Engine) (rank : Nat)
  | readComposition (p : PortId) (q : Byte) (col row : Nat)
  | setInput (p : PortId) (q : Byte) (input : Named InputId) (limit : Nat)
  | setMonitor (p : PortId) (q : Byte) (monitor : Named MonitorId) (enable latch : Option Bool)
  | clearFaults (p : PortId) (q : Byte) (monitor : Option (Named MonitorId))
  | setLinkMode (p : PortId) (q : Byte) (link : Named LinkSel) (mode : Option (Named FlowMode)) (pattern : Option (List (Named Bool)))
  | readLink (p : PortId) (q : Byte) (link : Nat)
  | messageApprove (p : PortId) (q : Byte) (port tag : Nat)
  | messageReject (p : PortId) (q : Byte) (port tag : Nat)
  | messageConfig (p : PortId) (q : Byte) (f : MessageFields)
  | claim (p : PortId) (q : Byte) (region tag priority : Nat) (content : ContentField) (duration : Nat) (resume : Bool)
  | release (p : PortId) (q : Byte) (tag : Nat)
  | withdraw (p : PortId) (q : Byte)
  | resume (p : PortId) (q : Byte)
  | readClaims (p : PortId) (q : Byte) (port : Nat)
  | clockStart (p : PortId) (q : Byte)
  | clockStop (p : PortId) (q : Byte)
  | clockSet (p : PortId) (q : Byte) (main possession : Option Nat)
  | clockAdjust (p : PortId) (q : Byte) (delta : Int)
  | possessionReset (p : PortId) (q : Byte) (value : Option Nat)
  | nextPeriod (p : PortId) (q : Byte)
  | scoreSet (p : PortId) (q : Byte) (f : ScoreFields)
  | clockConfig (p : PortId) (q : Byte) (f : ClockFields)
  | readClock (p : PortId) (q : Byte)
  | clockMark (p : PortId) (q : Byte) (mark : Nat)
  | capture (p : PortId) (q : Byte)
  | takeCapture (p : PortId) (q : Byte)
  | rotationBegin (p : PortId) (q : Byte)
  | rotationContract (p : PortId) (q : Byte) (id : Nat) (name : Option (List Nat)) (target qmin : Option Nat)
  | rotationSpot (p : PortId) (q : Byte) (spot contract asset slot : Nat) (regions : List Nat)
  | rotationCommit (p : PortId) (q : Byte)
  | rotationDiscard (p : PortId) (q : Byte)
  | contractSuspend (p : PortId) (q : Byte) (id : Nat) (on : Bool)
  | readRotation (p : PortId) (q : Byte) (start : Option Nat)
  | readExposure (p : PortId) (q : Byte) (contract start : Option Nat)
  | uploadBegin (p : PortId) (q : Byte) (u : UploadFields)
  | uploadLoad (p : PortId) (q : Byte) (offset : Nat) (data : List Byte)
  | uploadCommit (p : PortId) (q : Byte)
  | uploadFinish (p : PortId) (q : Byte)
  | uploadAbort (p : PortId) (q : Byte)
  | assetRetire (p : PortId) (q : Byte) (id : Nat)
  | assetReclaim (p : PortId) (q : Byte)
  | assetList (p : PortId) (q : Byte) (startId startPage : Option Nat)
  | messageSubmit (p : PortId) (q : Byte) (tag : Nat) (text : List Nat) (style : Named Style) (repeats : Option Nat)
  | messageWithdraw (p : PortId) (q : Byte) (tag : Nat) (port : Option Nat)
  | readMessages (p : PortId) (q : Byte) (start : Option Nat)
  | portReset (p : PortId) (q : Byte) (port : Option Nat)
  | readStatus (p : PortId) (q : Byte)
  deriving DecidableEq, Repr

end Sys2Proof
end

