-- ==== Sys2Proof/Decode.lean ====
section
/-! DEFINITION. spec/opcode_table.json gives no row any bits (every row's "fields" is empty): the block's commands
are not words, so no word spells one. The byte frames of the control link are decoded in Machine/Wire.lean (R189 to R193). -/

namespace Sys2Proof

/-- The command a table word spells: none, since no row of the table has bits. -/
def decodeTableWord (_nbits _w : Nat) : Option Instr := none

end Sys2Proof
end

