-- ==== Sys2Proof/Config.lean ====
section
/-! DEFINITION. What device reset fixes by strap, and the values the manual leaves open. -/

namespace Sys2Proof

/-- Frames per second: RATESEL low selects 50, high selects 60 (R192). -/
def Config.fps (ratesel : Bool) : Nat := if ratesel then 60 else 50

/-- The frame period in periods of the 10 MHz reference (R45). -/
def Config.framePeriod (ratesel : Bool) : Nat := if ratesel then 166667 else 200000

/-- A header page of asset memory as named fields (R170, R171): the identity, the advance widths of a GlyphSet, and
which of the three state marks reads wholly programmed. -/
structure Header where
  id : Nat
  kind : AssetKind
  width : Nat
  height : Nat
  count : Nat
  widths : List Nat
  writing : Bool
  complete : Bool
  retired : Bool
  deriving DecidableEq, Repr

/-- What a read of one page finds (R187). -/
inductive PageReading where
  | erased
  | header (h : Header)
  | other
  deriving DecidableEq, Repr, Inhabited

/-- FREE VALUE. What a page reads as after a program or an erase of it failed or was cut off by device reset: the manual
does not say (R181, R185, R187). The argument numbers the event; nothing constrains the answer. -/
opaque Config.unknownPage : Nat → PageReading

/-- FREE VALUE. Whether a state mark reads wholly programmed after its program failed or was cut off by device reset (R171, R181). -/
opaque Config.unknownMark : Nat → Bool

/-- FREE VALUE. The first page AssetList gives for the longest run of Free pages when no page is Free: the manual states none (R186). -/
opaque Config.emptyRunPage : Nat

/-- FREE VALUE. What ReadComposition reports after the frame number while no map exists, before tick 1: the manual states nothing (R52, R53). -/
opaque Config.noMapFields : List Nat

/-- FREE VALUE. Whether RotationCommit compares the dimensions of each spot's asset with those of its regions and refuses a spot that differs:
R50 says that it checks this, R122, R124 and section 7.11 leave it to selection, and no rule says which holds. -/
opaque Config.commitComparesDimensions : Bool

end Sys2Proof
end

