-- ==== Sys2Proof/Machine/State.lean ====
section
/-! DEFINITION. The state of the Utkora 7416, block by block, as plain data, and its value right after device reset. -/

namespace Sys2Proof.Machine

/-! ### Link traffic (R189 to R197) -/

/-- The outcome of an answer, in the code order of R197. -/
inductive ResultCode where
  | done
  | notPermitted
  | unknownRequest
  | malformed
  | noSuchThing
  | badValue
  | exists_
  | full
  | busy
  | wrongMode
  | fixed
  | overlaps
  | pinned
  | noSpace
  | incomplete
  | clockRunning
  | atZero
  | starting
  | failed
  | withdrawn
  deriving DecidableEq, Repr

/-- The notice kinds, in the code order of R196. -/
inductive NoticeKind where
  | holding
  | displaced
  | preempted
  | ended
  | evicted
  | clockStarted
  | sourceFault
  | started
  | stopped
  | expired
  | possessionExpired
  | resync
  | unsupervised
  | periodChanged
  | captureReady
  | periodReport
  | contractReport
  | submitted
  | approved
  | rejected
  | lapsed
  | shown
  | markFailed
  | uploadFailed
  | reclaimFailed
  deriving DecidableEq, Repr

/-- The request field a BadValue answer names (R197). -/
inductive FieldName where
  | id
  | layer
  | col
  | row
  | width
  | height
  | faultPolicy
  | viewBinding
  | glyphSet
  | pattern
  | port
  | role
  | engine
  | input
  | monitor
  | link
  | flowMode
  | cadencePattern
  | tag
  | state
  | content
  | region
  | arrow
  | contractId
  | spotId
  | regionSet
  | asset
  | kind
  | advanceWidths
  | offset
  | data
  | text
  | style
  | period
  deriving DecidableEq, Repr

/-- One piece of a payload in the forms of R190: numbers, ms numbers, flags, named values (by place), glyph codes,
list counts, presence bytes, and the field name a refusal carries. -/
inductive Atom where
  | num (n : Int)
  | ms (n : Ms)
  | flag (b : Bool)
  | named (code : Nat)
  | glyph (code : Nat)
  | count (n : Nat)
  | absent
  | present
  | field (name : FieldName)
  deriving DecidableEq, Repr

/-- An answer made and not yet sent whole (R189, R194). `code` is the request code answered. `counted` says that its
request is one of the at most four outstanding ones (R194), `deferred` that it is a deferred request, outstanding until its answer is
sent (R192, R194). -/
structure Answer where
  seq : Byte
  code : Nat
  outcome : ResultCode
  adjusted : Bool
  noticesLost : Bool
  fields : List Atom
  counted : Bool
  deferred : Bool
  deriving DecidableEq, Repr

/-- A notice waiting to be sent (R196). -/
structure Notice where
  kind : NoticeKind
  fields : List Atom
  deriving DecidableEq, Repr

/-- The frame a transmitter is sending (R195); a notice frame carries the counter value it took at its start (R189). -/
inductive TxFrame where
  | answer (a : Answer)
  | notice (n : Notice) (number : Byte)
  deriving DecidableEq, Repr

/-- A deferred request, outstanding until the work it started ends (R194). A Withdraw carries the tags of the
holders it waits for and its two counts (R38); an upload request carries its code. -/
inductive OpenRequest where
  | withdraw (seq : Byte) (waiting : List Nat) (removed left : Nat)
  | upload (seq : Byte) (code : Nat)
  | reclaim (seq : Byte)
  deriving DecidableEq, Repr

/-- A control port (R189 to R202). `rx` holds the bytes of the frame being received, delimiter first. -/
structure Port where
  role : Role
  rx : List Byte
  silentTimer : Nat
  timeout : Nat
  silent : Bool
  withdrawn : Bool
  noticesLost : Bool
  noticeCounter : Byte
  requests : List OpenRequest
  answers : List Answer
  notices : List Notice
  line : Option TxFrame
  priorityMap : List Nat
  deriving DecidableEq, Repr

/-! ### The screen canvas (R1 to R17) -/

/-- Setup or Live (R14). -/
inductive Mode where
  | setup
  | live
  deriving DecidableEq, Repr

/-- A region record (R2, R3). -/
structure Region where
  layer : Nat
  col : Nat
  row : Nat
  width : Nat
  height : Nat
  dwell : Nat
  sponsor : Bool
  message : Bool
  stoppage : Bool
  policy : FaultPolicy
  holdLimit : Nat
  fill : Nat
  view : ViewBinding
  glyphSet : Option Nat
  lastChange : Option FrameNo
  deriving DecidableEq, Repr

/-- One solid colour (R5). -/
structure Colour where
  red : Nat
  green : Nat
  blue : Nat
  deriving DecidableEq, Repr

/-- The Region Table: mode, regions 0..32 and the fill-colour table. -/
structure Canvas where
  mode : Mode
  regions : Vector (Option Region) 33
  colours : Vector Colour 8
  deriving DecidableEq, Repr

/-! ### Claims (R18 to R44) -/

/-- Owner of a claim (R18). -/
inductive Claimant where
  | port (p : PortId)
  | engine (e : Engine)
  deriving DecidableEq, Repr

/-- What a claim supplies (R19). -/
inductive ClaimContent where
  | picture (i : InputId)
  | asset (id : Nat)
  | fill (pattern : PatternId)
  | spot
  | crawl
  deriving DecidableEq, Repr

/-- The leaving mark of a holder (R19). -/
inductive LeavingMark where
  | keep
  | dropRelease
  | dropClockStart
  deriving DecidableEq, Repr

/-- A live claim (R19). Its region and state are where it stands; its position is its place in the wait list.
`remaining` is absent when the claim is open. -/
structure Claim where
  claimant : Claimant
  tag : Nat
  rank : Nat
  content : ClaimContent
  duration : Nat
  remaining : Option Nat
  resume : Bool
  mark : Option LeavingMark
  deriving DecidableEq, Repr

/-- A region's holder slot and wait list (R23), with the wait count after its last evaluation (R35). -/
structure RegionClaims where
  holder : Option Claim
  waiting : List Claim
  seenWaiting : Nat
  deriving DecidableEq, Repr

/-- The Claim Arbiter. -/
structure Arbiter where
  claims : Vector RegionClaims 33
  rotationRank : Nat
  messageRank : Nat
  deriving DecidableEq, Repr

/-! ### Picture inputs and monitors (R54 to R61) -/

/-- An input frame: tiles in tile order, each as the number that stands for its pixel data, whose form the manual does not give. -/
structure Picture where
  width : Nat
  height : Nat
  tiles : List Nat
  deriving DecidableEq, Repr

/-- A picture input (R54). Its Lost and Short conditions are those of its two monitors. -/
structure PictureInput where
  latest : Option Picture
  arrival : FrameNo
  limit : Nat
  lostAt : FrameNo
  held : Option Picture
  deriving DecidableEq, Repr

/-- PA and PB. -/
structure Inputs where
  pa : PictureInput
  pb : PictureInput
  deriving DecidableEq, Repr

/-- A monitor (R59). -/
structure Monitor where
  condition : Bool
  enable : Bool
  latch : Bool
  latched : Bool
  deriving DecidableEq, Repr

/-! ### Asset library (R169 to R188) -/

/-- A programmed page of asset memory, or a copy of one: a header page, content bytes (offsets 0..4,095 that do not read FFh),
or a page whose reading is open (`Config.unknownPage`). -/
inductive Page where
  | header (h : Header)
  | content (cells : List Host.Cell)
  | unknown (k : Nat)
  deriving DecidableEq, Repr

/-- Standing of a page that is not Free (R169); an asset is named by its header page. -/
inductive PageStanding where
  | dirty
  | part (first : Nat)
  deriving DecidableEq, Repr

/-- State of a directory record (R171). -/
inductive AssetState where
  | writing
  | complete
  | retired
  deriving DecidableEq, Repr

/-- A directory record (R171). Pages held are the page map's; the mark is pending while the record is on the retire list. -/
structure AssetRecord where
  id : Nat
  kind : AssetKind
  width : Nat
  height : Nat
  first : Nat
  count : Nat
  state : AssetState
  deriving DecidableEq, Repr

/-- A page program of the upload (R174). -/
inductive Job where
  | header
  | page (n : Nat)
  | completeMark
  deriving DecidableEq, Repr

/-- What the memory is doing (R174). -/
inductive OpKind where
  | program (j : Job)
  | mark (first : Nat)
  | erase (block : Nat)
  deriving DecidableEq, Repr

/-- The operation in flight and the ms of its start (R174). -/
structure MemOp where
  kind : OpKind
  since : Ms
  deriving DecidableEq, Repr

/-- The upload record (R175). `job` is the page program requested and not ended, waiting behind marks or in flight.
`orphan` is set when the owner was lost while it ran (R182); `adjusted` says that UploadBegin clamped an advance width (R176). -/
structure Upload where
  owner : PortId
  id : Nat
  first : Nat
  count : Nat
  committed : Nat
  job : Option Job
  orphan : Bool
  adjusted : Bool
  deriving DecidableEq, Repr

/-- An AssetReclaim in flight (R184): who asked, the next block to judge, and what its answer will carry. -/
structure Reclaim where
  asker : PortId
  next : Nat
  erased : Nat
  failed : Nat
  freed : Nat
  removed : List Nat
  deriving DecidableEq, Repr

/-- The Asset Controller and its two memories. `nor` lists the programmed pages of asset memory (an unlisted page reads erased);
`copies` lists the pages show memory holds a copy of; `pageMap` lists the pages that are not Free. -/
structure Assets where
  nor : List (Nat × Page)
  copies : List (Nat × Page)
  pageMap : List (Nat × PageStanding)
  records : List AssetRecord
  retireList : List Nat
  buffer : List Host.Cell
  upload : Option Upload
  op : Option MemOp
  reclaim : Option Reclaim
  scanned : Bool
  scanFailures : Nat
  deriving DecidableEq, Repr

/-! ### The composed map (R49 to R53) -/

/-- The content pages of an asset as show memory held them when the map was built (R52). -/
structure AssetCopy where
  width : Nat
  pages : List Page
  deriving DecidableEq, Repr

/-- A glyph placed on a region: its left edge and top row in px from the region's top-left corner, its advance width and its drawing. -/
structure Glyph where
  code : Nat
  left : Int
  top : Nat
  advance : Nat
  drawing : Page
  deriving DecidableEq, Repr

/-- What a region supplies in one frame (R49, R52); `none` for a region with nothing to supply. -/
inductive PlaneContent where
  | none
  | picture (i : InputId) (held : Bool) (frame : Option Picture)
  | asset (id : Nat) (copy : AssetCopy)
  | spot (spot contract asset : Nat) (copy : AssetCopy)
  | view (v : ViewBinding) (blanked : Bool) (glyphs : List Glyph) (fill : Nat) (colour : Colour)
  | crawl (p : PortId) (tag : Nat) (glyphs : List Glyph) (fill : Nat) (colour : Colour)
  | fill (pattern : Nat) (colour : Colour)
  deriving DecidableEq, Repr

/-- A defined region as frame f was composed from it. -/
structure Plane where
  region : RegionId
  layer : Nat
  col : Nat
  row : Nat
  width : Nat
  height : Nat
  presentable : Bool
  content : PlaneContent
  deriving DecidableEq, Repr

/-- An entry of the spot list (R140). -/
structure SpotEntry where
  region : RegionId
  spot : Nat
  contract : Nat
  tiles : Nat
  deriving DecidableEq, Repr

/-- The composed map of a frame: the regions 1..32 highest layer first, region 0, region 0's own fill pattern, and the spot list.
The entry of each of the 768 tiles is a function of these (R51, R52). -/
structure ComposedMap where
  frame : FrameNo
  planes : List Plane
  base : Plane
  baseFill : Nat
  baseColour : Colour
  spots : List SpotEntry
  deriving DecidableEq, Repr

/-- The content recorded for one tile (R52). -/
inductive TileContent where
  | picture (i : InputId) (col row : Nat) (held : Bool) (tile : Nat)
  | asset (id : Nat) (col row : Nat) (pages : List Page)
  | spot (spot contract asset : Nat) (col row : Nat) (pages : List Page)
  | view (v : ViewBinding) (glyphs : List Glyph) (fill : Nat) (colour : Colour)
  | crawl (p : PortId) (tag : Nat) (glyphs : List Glyph) (fill : Nat) (colour : Colour)
  | fill (pattern : Nat) (colour : Colour)
  deriving DecidableEq, Repr

/-- The Frame Compositor: frame counter, times of the last tick, the last edge and the timer's last restart in reference
periods (R45), genlock state, and the maps it keeps. -/
structure Compositor where
  frame : FrameNo
  lastTick : Nat
  lastEdge : Nat
  timerStart : Nat
  locked : Bool
  map : Option ComposedMap
  previous : Option ComposedMap
  deriving DecidableEq, Repr

/-! ### Panel links (R63 to R81) -/

/-- A chunk of a tile packet: its scan group, the pixel rows of the tile it carries, each of 64 pixels, and whether it is marked last
(R67). -/
structure Chunk where
  group : Nat
  rows : List Nat
  last : Bool
  deriving DecidableEq, Repr

/-- The packet in progress: chain tile, frame number, its chunks in the order they are sent, and what they are cut from (R67). -/
structure Packet where
  tile : Nat
  frame : FrameNo
  chunks : List Chunk
  content : TileContent
  probe : Bool
  deriving DecidableEq, Repr

/-- A delivery record (R74): the chain tiles acknowledged; every other tile of the 96 is Stale. -/
structure DeliveryRecord where
  frame : FrameNo
  link : LinkId
  delivered : List Nat
  started : Nat
  nacks : Nat
  deriving DecidableEq, Repr

/-- Link settings taken and not yet in force (R77). -/
structure LinkSettings where
  mode : Option FlowMode
  pattern : Option (List Bool)
  deriving DecidableEq, Repr

/-- A panel link. `frame` is the frame it is sending, none before tick 1. `slot` numbers the slot now open, or the next one when
none is open. `holdFresh` is set while the slot is open in which the hold was set (R70). `attempts` counts those of `tile`, the tile
being worked on (R71). `probe` marks a probe frame, `quiet` a frame that carries no further packet (R76). `waiting` holds settings
taken since the last tick, `armed` those that take force at the next frame begin. -/
structure Link where
  down : Bool
  frame : Option FrameNo
  probe : Bool
  probeSent : Bool
  quiet : Bool
  slot : Nat
  slotOpen : Bool
  hold : Nat
  holdFresh : Bool
  room : Bool
  overrun : Bool
  group : Nat
  lastStatus : FrameNo
  mode : FlowMode
  pattern : List Bool
  waiting : LinkSettings
  armed : LinkSettings
  pacing : Nat
  forcedIdle : Bool
  tile : Nat
  attempts : Nat
  acked : List Nat
  spent : Bool
  started : Nat
  nacks : Nat
  packet : Option Packet
  record : Option DeliveryRecord
  deriving DecidableEq, Repr

/-! ### Clock, score and captures (R82 to R116) -/

/-- State of the main clock (R83). -/
inductive MainState where
  | stopped
  | running
  | expired
  deriving DecidableEq, Repr

/-- The clock record (R82, R83): R, P, C, L, W and H are `main`, `possession`, `correction`, `length`, `window` and `hysteresis`. -/
structure Clock where
  state : MainState
  main : Nat
  possession : Nat
  period : Nat
  correction : Int
  length : Nat
  possessionReset : Nat
  window : Nat
  hysteresis : Nat
  hornLength : Nat
  whistleStop : Bool
  horn : Option Ms
  unsupervised : Bool
  lastWhistle : Option Ms
  now : Ms
  deriving DecidableEq, Repr

/-- The score record (R100, R101); `flashUsed` counts the flash frames already used. -/
structure Score where
  home : Nat
  away : Nat
  homeFouls : Nat
  awayFouls : Nat
  homeTimeouts : Nat
  awayTimeouts : Nat
  arrow : Arrow
  flashLength : Nat
  flashLeft : Nat
  flashUsed : Nat
  deriving DecidableEq, Repr

/-- What made a capture (R109). -/
inductive CaptureSource where
  | whistle
  | expiry
  | possessionExpiry
  | request
  deriving DecidableEq, Repr

/-- A capture (R109). -/
structure Capture where
  number : Nat
  source : CaptureSource
  port : Option PortId
  frame : FrameNo
  ms : Ms
  main : Nat
  possession : Nat
  state : MainState
  period : Nat
  deriving DecidableEq, Repr

/-- The Capture Slots: the captures held, oldest first, each with its slot; the counter and the Overflow flag (R109). -/
structure Captures where
  held : List (Fin 2 × Capture)
  counter : Nat
  overflow : Bool
  deriving DecidableEq, Repr

/-! ### Sponsor rotation and exposure (R117 to R150) -/

/-- What RotationContract gives a contract (R117, R121). -/
structure ContractTerms where
  id : Nat
  name : List Nat
  target : Nat
  qmin : Nat
  deriving DecidableEq, Repr

/-- A spot (R118). Its position is its place in the list. -/
structure Spot where
  id : Nat
  contract : Nat
  asset : Nat
  slot : Nat
  regions : List Nat
  deriving DecidableEq, Repr

/-- A contract of the active rotation with its account (R117, R138). -/
structure Contract where
  terms : ContractTerms
  suspended : Bool
  accrued : Nat
  history : List (Nat × Nat)
  lastCredit : Option (Nat × FrameNo)
  cut : Nat
  shown : Nat
  deriving DecidableEq, Repr

/-- A rotation being built or staged (R119). -/
structure Plan where
  contracts : List ContractTerms
  spots : List Spot
  deriving DecidableEq, Repr

/-- The open build and its owner (R120). -/
structure Build where
  owner : PortId
  plan : Plan
  deriving DecidableEq, Repr

/-- A current spot and its frames run (R129). -/
structure CurrentSpot where
  spot : Nat
  run : Nat
  deriving DecidableEq, Repr

/-- The Rotation Engine (R119); `offering` marks the regions whose standing claim is being offered again (R35). -/
structure Rotation where
  contracts : List Contract
  spots : List Spot
  staged : Option Plan
  build : Option Build
  pointer : Nat
  current : Vector (Option CurrentSpot) 33
  offering : Vector Bool 33
  deriving DecidableEq, Repr

/-- The Exposure Counter beside the accounts (R138, R139). -/
structure Exposure where
  lastTallied : Option FrameNo
  records : List DeliveryRecord
  deriving DecidableEq, Repr

/-! ### Crowd messages (R151 to R168) -/

/-- A message entry (R151). Its state and region are where it stands: the Held order, the show order or a pass. -/
structure Entry where
  submitter : PortId
  tag : Nat
  text : List Nat
  style : Style
  repeats : Nat
  passesDone : Nat
  submitted : Ms
  truncated : Bool
  substituted : Nat
  deriving DecidableEq, Repr

/-- A current pass (R161); `withdrawing` says that its entry is Withdrawing rather than Showing. -/
structure Pass where
  entry : Entry
  withdrawing : Bool
  start : FrameNo
  textWidth : Nat
  speed : Nat
  length : Nat
  run : Nat
  abort : Bool
  deriving DecidableEq, Repr

/-- The settings of R153. -/
structure MessageSettings where
  maxLength : Nat
  continuation : Nat
  substitute : Nat
  speed : Nat
  holdLimit : Nat
  deriving DecidableEq, Repr

/-- The Message Engine: the Held order, the show order, the passes, the settings, and the regions whose standing claim is being offered again. -/
structure Messages where
  held : List Entry
  approved : List Entry
  passes : Vector (Option Pass) 33
  settings : MessageSettings
  offering : Vector Bool 33
  deriving DecidableEq, Repr

/-! ### The whole part -/

/-- The state of the part. `pending` is the model's queue of commands, first in, first out; `free` numbers the uses of the free
values of Config (the model's own field); everything else is the manual's. -/
structure State where
  pending : List Instr
  dirsel : Fin 8
  ratesel : Bool
  canvas : Canvas
  arbiter : Arbiter
  comp : Compositor
  inputs : Inputs
  monitors : Vector Monitor 36
  links : Vector Link 8
  clock : Clock
  score : Score
  captures : Captures
  rotation : Rotation
  exposure : Exposure
  messages : Messages
  assets : Assets
  ports : Vector Port 6
  free : Nat
  deriving DecidableEq, Repr

/-- Reasons to stop with a fault. There are none: no rule of the manual makes the part stop, and every command has a next state. -/
inductive Fault where
  deriving DecidableEq, Repr

/-- Reasons to refuse a command. -/
inductive Refusal where
  /-- Raised by an arm of `exec` whose command has no meaning yet; safe, since the model stops. No arm raises it in this model. -/
  | notModelled (mnemonic : String)
  deriving DecidableEq, Repr

/-! ### The state right after device reset -/

/-- The director port that DIRSEL selects: values 6 and 7 select CP0 (R192). -/
def directorOf (dirsel : Fin 8) : PortId := if h : dirsel.val < 6 then ⟨dirsel.val, h⟩ else 0

/-- Region 0 after device reset (R3, R17). -/
def Region.base : Region :=
  { layer := 0, col := 0, row := 0, width := 48, height := 16, dwell := 30, sponsor := false, message := false, stoppage := false,
    policy := .hold, holdLimit := 60, fill := 0, view := .none, glyphSet := none, lastChange := none }

/-- The Region Table after device reset (R17). -/
def Canvas.reset : Canvas :=
  { mode := .setup, regions := (Vector.replicate 33 none).set 0 (some Region.base), colours := Vector.replicate 8 ⟨0, 0, 0⟩ }

/-- The Claim Arbiter after device reset (R22, R44). -/
def Arbiter.reset : Arbiter :=
  { claims := Vector.replicate 33 ⟨none, [], 0⟩, rotationRank := 2, messageRank := 3 }

/-- The Frame Compositor after device reset (R46, R62): times count from the end of the reset. -/
def Compositor.reset : Compositor :=
  { frame := 0, lastTick := 0, lastEdge := 0, timerStart := 0, locked := true, map := none, previous := none }

/-- A picture input after device reset (R54); `lostAt` has no value until Lost rises (DESIGN CHOICE, log 4). -/
def PictureInput.reset : PictureInput := { latest := none, arrival := 0, limit := 10, lostAt := 0, held := none }

/-- A monitor after device reset (R62). -/
def Monitor.reset : Monitor := { condition := false, enable := true, latch := false, latched := false }

/-- No link settings waiting. -/
def LinkSettings.none : LinkSettings := { mode := .none, pattern := .none }

/-- A panel link after device reset (R80); what R80 does not name is at the value it has with nothing in progress (DESIGN CHOICE, log 36). -/
def Link.reset : Link :=
  { down := true, frame := none, probe := true, probeSent := false, quiet := false, slot := 0, slotOpen := false, hold := 0,
    holdFresh := false, room := true, overrun := false, group := 0, lastStatus := 0, mode := .strict,
    pattern := [true, true, true, true, true, true, true, true], waiting := .none, armed := .none, pacing := 0, forcedIdle := false,
    tile := 0, attempts := 0, acked := [], spent := false, started := 0, nacks := 0, packet := none, record := none }

/-- The clock after device reset (R108). -/
def Clock.reset : Clock :=
  { state := .stopped, main := 1200000, possession := 24000, period := 1, correction := 0, length := 1200000, possessionReset := 24000,
    window := 250, hysteresis := 50, hornLength := 1500, whistleStop := true, horn := none, unsupervised := false, lastWhistle := none, now := 0 }

/-- The score record after device reset (R108). -/
def Score.reset : Score :=
  { home := 0, away := 0, homeFouls := 0, awayFouls := 0, homeTimeouts := 0, awayTimeouts := 0, arrow := .none, flashLength := 45,
    flashLeft := 0, flashUsed := 0 }

/-- The Capture Slots after device reset (R116). -/
def Captures.reset : Captures := { held := [], counter := 0, overflow := false }

/-- The Rotation Engine after device reset (R137). -/
def Rotation.reset : Rotation :=
  { contracts := [], spots := [], staged := none, build := none, pointer := 0, current := Vector.replicate 33 none,
    offering := Vector.replicate 33 false }

/-- The Exposure Counter after device reset (R150). -/
def Exposure.reset : Exposure := { lastTallied := none, records := [] }

/-- The Message Engine after device reset (R153, R168). -/
def Messages.reset : Messages :=
  { held := [], approved := [], passes := Vector.replicate 33 none,
    settings := { maxLength := 120, continuation := 126, substitute := 63, speed := 4, holdLimit := 600 },
    offering := Vector.replicate 33 false }

/-- The Asset Controller at the end of device reset, its start-up scan about to run over asset memory `nor` (R172, R187). -/
def Assets.resetWith (nor : List (Nat × Page)) : Assets :=
  { nor := nor, copies := [], pageMap := [], records := [], retireList := [], buffer := [], upload := none, op := none, reclaim := none,
    scanned := false, scanFailures := 0 }

/-- A control port after device reset (R21, R192, R202). -/
def Port.reset (role : Role) : Port :=
  { role := role, rx := [], silentTimer := 0, timeout := 2000, silent := false, withdrawn := false, noticesLost := false,
    noticeCounter := 0, requests := [], answers := [], notices := [], line := none, priorityMap := [0, 1, 2, 3, 4, 5, 6, 7] }

/-- The part after a device reset that read the straps `dirsel` and `ratesel` and found `nor` in asset memory. The queue of commands
and the count of free values used are the model's own and are given. -/
def State.resetWith (pending : List Instr) (free : Nat) (nor : List (Nat × Page)) (dirsel : Fin 8) (ratesel : Bool) : State :=
  { pending := pending, dirsel := dirsel, ratesel := ratesel, canvas := .reset, arbiter := .reset, comp := .reset,
    inputs := ⟨.reset, .reset⟩, monitors := Vector.replicate 36 .reset, links := Vector.replicate 8 .reset, clock := .reset,
    score := .reset, captures := .reset, rotation := .reset, exposure := .reset, messages := .reset, assets := .resetWith nor,
    ports := (Vector.replicate 6 (Port.reset .general)).set (directorOf dirsel) (Port.reset .director), free := free }

/-- The part right after reset: DIRSEL 0, RATESEL high, asset memory fully erased (DESIGN CHOICE, log 1). -/
def State.reset : State := State.resetWith [] 0 [] 0 true

end Sys2Proof.Machine
end

