-- ==== Sys2Proof/Machine/Operands.lean ====
section
/-! DEFINITION. Shared pure operations: clamping, lists kept by a key, bytes of a buffer, the places of named values (R190),
and the atoms of optional fields. -/

namespace Sys2Proof.Machine

/-! ### Clamping (Conventions) -/

/-- `n` clamped to `lo..hi`. -/
def clamp (lo hi n : Nat) : Nat := max lo (min hi n)

/-- Whether clamping `n` to `lo..hi` changes it, which sets Adjusted (R197). -/
def clampHits (lo hi n : Nat) : Bool := decide (clamp lo hi n ≠ n)

/-- Whether clamping an optional field changes it. -/
def clampHitsOpt (lo hi : Nat) : Option Nat → Bool
  | none => false
  | some n => clampHits lo hi n

/-- The field clamped, or the value kept when it is left out. -/
def clampOr (lo hi : Nat) (kept : Nat) : Option Nat → Nat
  | none => kept
  | some n => clamp lo hi n

/-- `n` clamped to `lo..hi`, on integers. -/
def clampInt (lo hi n : Int) : Int := max lo (min hi n)

/-- `n` lies in `lo..hi`. -/
def inRange (lo hi n : Nat) : Bool := decide (lo ≤ n) && decide (n ≤ hi)

/-- `ceil(a / b)`. -/
def ceilDiv (a b : Nat) : Nat := (a + (b - 1)) / b

/-! ### Lists kept in rising key order -/

/-- The value at key `k`. -/
def keyGet {α : Type} (k : Nat) : List (Nat × α) → Option α
  | [] => none
  | (j, v) :: rest => if j = k then some v else keyGet k rest

/-- The list with `v` at key `k`, in key order. -/
def keySet {α : Type} (k : Nat) (v : α) : List (Nat × α) → List (Nat × α)
  | [] => [(k, v)]
  | (j, w) :: rest => if k < j then (k, v) :: (j, w) :: rest else if j = k then (k, v) :: rest else (j, w) :: keySet k v rest

/-- The list without key `k`. -/
def keyDrop {α : Type} (k : Nat) : List (Nat × α) → List (Nat × α)
  | [] => []
  | (j, w) :: rest => if j = k then rest else (j, w) :: keyDrop k rest

/-- Keys strictly rising: the canonical form of every keyed list of the model. -/
def keysRising {α : Type} : List (Nat × α) → Bool
  | [] => true
  | [_] => true
  | a :: b :: rest => decide (a.1 < b.1) && keysRising (b :: rest)

/-- One byte of a page: a byte nobody programmed reads all ones. -/
def cellRead (cells : List Host.Cell) (a : Nat) : Byte := (keyGet a cells).getD 0xFF#8

/-- A byte written into a page buffer; all ones is what an unlisted byte reads, so writing it removes the entry. -/
def cellWrite (cells : List Host.Cell) (a : Nat) (b : Byte) : List Host.Cell :=
  if b = 0xFF#8 then keyDrop a cells else keySet a b cells

/-- Bytes written one after another from offset `a` (R177). -/
def cellsWrite (cells : List Host.Cell) : Nat → List Byte → List Host.Cell
  | _, [] => cells
  | a, b :: bs => cellsWrite (cellWrite cells a b) (a + 1) bs

/-- The canonical form of a page's bytes: offsets rising and below 4,096, no entry all ones. -/
def cellsWf (cells : List Host.Cell) : Bool :=
  keysRising cells && cells.all (fun c => decide (c.1 < 4096) && decide (c.2 ≠ 0xFF#8))

/-- A list sorted by a key, entries of one key keeping their order. -/
def insertBy {α : Type} (key : α → Nat) (a : α) : List α → List α
  | [] => [a]
  | b :: rest => if key b < key a then b :: insertBy key a rest else a :: b :: rest

def sortBy {α : Type} (key : α → Nat) : List α → List α
  | [] => []
  | a :: rest => insertBy key a (sortBy key rest)

/-- Whether a list names something twice. -/
def hasRepeat : List Nat → Bool
  | [] => false
  | n :: rest => rest.contains n || hasRepeat rest

/-! ### Differences of wrapping counters -/

/-- The number of frames from `old` to `new`, modulo 2^32 (R48). -/
def framesSince (new old : FrameNo) : Nat := (new - old).toNat

/-- The number of ms from `old` to `new`, modulo 2^64 (R82). -/
def msSince (new old : Ms) : Nat := (new - old).toNat

/-- `now` has reached `due`: their difference modulo 2^64 is not negative (R82, R97). -/
def msReached (now due : Ms) : Bool := decide (msSince now due < 9223372036854775808)

/-! ### Places of named values (R190), each list in the order of the rule that gives it -/

/-- Outcome numbers (R197). -/
def ResultCode.code : ResultCode → Nat
  | .done => 0
  | .notPermitted => 1
  | .unknownRequest => 2
  | .malformed => 3
  | .noSuchThing => 4
  | .badValue => 5
  | .exists_ => 6
  | .full => 7
  | .busy => 8
  | .wrongMode => 9
  | .fixed => 10
  | .overlaps => 11
  | .pinned => 12
  | .noSpace => 13
  | .incomplete => 14
  | .clockRunning => 15
  | .atZero => 16
  | .starting => 17
  | .failed => 18
  | .withdrawn => 19

/-- Notice kind numbers (R196). -/
def NoticeKind.code : NoticeKind → Nat
  | .holding => 1
  | .displaced => 2
  | .preempted => 3
  | .ended => 4
  | .evicted => 5
  | .clockStarted => 6
  | .sourceFault => 7
  | .started => 8
  | .stopped => 9
  | .expired => 10
  | .possessionExpired => 11
  | .resync => 12
  | .unsupervised => 13
  | .periodChanged => 14
  | .captureReady => 15
  | .periodReport => 16
  | .contractReport => 17
  | .submitted => 18
  | .approved => 19
  | .rejected => 20
  | .lapsed => 21
  | .shown => 22
  | .markFailed => 23
  | .uploadFailed => 24
  | .reclaimFailed => 25

/-- Roles (R192). -/
def roleCode : Role → Nat
  | .director => 0
  | .scoring => 1
  | .replay => 2
  | .sponsor => 3
  | .messages => 4
  | .general => 5

/-- Modes (R14). -/
def modeCode : Mode → Nat
  | .setup => 0
  | .live => 1

/-- Fault policies (R2). -/
def policyCode : FaultPolicy → Nat
  | .hold => 0
  | .fallback => 1

/-- View bindings (R2). -/
def viewCode : ViewBinding → Nat
  | .none => 0
  | .mainClock => 1
  | .possession => 2
  | .score => 3
  | .period => 4

/-- The views of a composed map (R52). -/
def viewShownCode : ViewBinding → Nat
  | .none => 0
  | .mainClock => 0
  | .possession => 1
  | .score => 2
  | .period => 3

/-- Picture inputs (R19). -/
def inputCode : InputId → Nat
  | .pa => 0
  | .pb => 1

/-- Claimants: CP0..CP5, the Rotation Engine, the Message Engine (R19). -/
def claimantCode : Claimant → Nat
  | .port p => p.val
  | .engine .rotation => 6
  | .engine .message => 7

/-- Content kinds (R19). -/
def contentCode : ClaimContent → Nat
  | .picture _ => 0
  | .asset _ => 1
  | .fill _ => 2
  | .spot => 3
  | .crawl => 4

/-- Main clock states (R83). -/
def mainStateCode : MainState → Nat
  | .stopped => 0
  | .running => 1
  | .expired => 2

/-- Capture sources (R109); Live comes after them (R114). -/
def captureCode : CaptureSource → Nat
  | .whistle => 0
  | .expiry => 1
  | .possessionExpiry => 2
  | .request => 3

/-- Possession arrow values (R100). -/
def arrowCode : Arrow → Nat
  | .home => 0
  | .away => 1
  | .none => 2

/-- Message styles (R151). -/
def styleCode : Style → Nat
  | .normal => 0
  | .stoppage => 1

/-- Flow modes (R69). -/
def flowCode : FlowMode → Nat
  | .strict => 0
  | .oneAhead => 1

/-- Asset kinds (R171). -/
def kindCode : AssetKind → Nat
  | .image => 0
  | .glyphSet => 1

/-- Asset states (R171). -/
def assetStateCode : AssetState → Nat
  | .writing => 0
  | .complete => 1
  | .retired => 2

/-- The code of a field name. The manual gives no list for it (DESIGN CHOICE, log 7). -/
def FieldName.code : FieldName → Nat
  | .id => 0
  | .layer => 1
  | .col => 2
  | .row => 3
  | .width => 4
  | .height => 5
  | .faultPolicy => 6
  | .viewBinding => 7
  | .glyphSet => 8
  | .pattern => 9
  | .port => 10
  | .role => 11
  | .engine => 12
  | .input => 13
  | .monitor => 14
  | .link => 15
  | .flowMode => 16
  | .cadencePattern => 17
  | .tag => 18
  | .state => 19
  | .content => 20
  | .region => 21
  | .arrow => 22
  | .contractId => 23
  | .spotId => 24
  | .regionSet => 25
  | .asset => 26
  | .kind => 27
  | .advanceWidths => 28
  | .offset => 29
  | .data => 30
  | .text => 31
  | .style => 32
  | .period => 33

/-! ### Atoms of fields (R190) -/

/-- A natural number field. -/
def nat (n : Nat) : Atom := .num n

/-- A frame number field. -/
def frameAtom (f : FrameNo) : Atom := .num f.toNat

/-- A field that may be absent: a presence byte, then the field. -/
def optAtoms {α : Type} (f : α → List Atom) : Option α → List Atom
  | none => [.absent]
  | some a => .present :: f a

def optNat (n : Option Nat) : List Atom := optAtoms (fun n => [nat n]) n

def optFrame (f : Option FrameNo) : List Atom := optAtoms (fun f => [frameAtom f]) f

def optMs (m : Option Ms) : List Atom := optAtoms (fun m => [.ms m]) m

/-- A list: its count, then its items. -/
def listAtoms {α : Type} (f : α → List Atom) (l : List α) : List Atom := .count l.length :: l.flatMap f

/-- A text: a list of glyph codes. -/
def textAtoms (codes : List Nat) : List Atom := listAtoms (fun c => [Atom.glyph c]) codes

/-- A view binding as an answer gives it: a presence byte, 00h for none (R2, R190). A view keeps its place in R2's list, where none is the
first (DESIGN CHOICE, log 7). -/
def viewAtoms (v : ViewBinding) : List Atom := if v = .none then [.absent] else [.present, .named (viewCode v)]

/-- A possession arrow as an answer gives it: a presence byte, 00h for none (R100, R190). -/
def arrowAtoms (a : Arrow) : List Atom := if a = .none then [.absent] else [.present, .named (arrowCode a)]

/-! ### Lists of ids -/

def allPorts : List PortId := [0, 1, 2, 3, 4, 5]

def allLinks : List LinkId := [0, 1, 2, 3, 4, 5, 6, 7]

def allRegions : List RegionId :=
  [0, 1, 2, 3, 4, 5, 6, 7, 8, 9, 10, 11, 12, 13, 14, 15, 16, 17, 18, 19, 20, 21, 22, 23, 24, 25, 26, 27, 28, 29, 30, 31, 32]

def allMonitors : List MonitorId :=
  [0, 1, 2, 3, 4, 5, 6, 7, 8, 9, 10, 11, 12, 13, 14, 15, 16, 17, 18, 19, 20, 21, 22, 23, 24, 25, 26, 27, 28, 29, 30, 31, 32, 33, 34, 35]

def allInputs : List InputId := [.pa, .pb]

/-- The region a number field names, 0..32. -/
def toRegion (n : Nat) : Option RegionId := if h : n < 33 then some ⟨n, h⟩ else none

/-- The port a number field names, 0..5. -/
def toPort (n : Nat) : Option PortId := if h : n < 6 then some ⟨n, h⟩ else none

/-- The link a number field names, 0..7. -/
def toLink (n : Nat) : Option LinkId := if h : n < 8 then some ⟨n, h⟩ else none

end Sys2Proof.Machine
end

