-- ==== Sys2Proof/Machine/Ops.lean ====
section
/-! DEFINITION. The named operations over State that every block uses: reading and writing one port, link, region, monitor
or input; the notice queues, the answers and the transmitters (R194 to R197); the director port and the ports of a role;
and the directory lookups that claims, spots and regions make (R171). -/

namespace Sys2Proof.Machine

/-! ### One element of a bank -/

def State.port (s : State) (p : PortId) : Port := s.ports.get p

/-- The bank of ports with port `p` changed by `f`. -/
def updatePort (v : Vector Port 6) (p : PortId) (f : Port → Port) : Vector Port 6 := v.set p.val (f (v.get p)) p.isLt

def State.setPort (s : State) (p : PortId) (x : Port) : State := { s with ports := s.ports.set p.val x p.isLt }

def State.link (s : State) (k : LinkId) : Link := s.links.get k

def State.setLink (s : State) (k : LinkId) (x : Link) : State := { s with links := s.links.set k.val x k.isLt }

def State.region (s : State) (r : RegionId) : Option Region := s.canvas.regions.get r

def State.setRegion (s : State) (r : RegionId) (x : Option Region) : State :=
  { s with canvas := { s.canvas with regions := s.canvas.regions.set r.val x r.isLt } }

def State.claims (s : State) (r : RegionId) : RegionClaims := s.arbiter.claims.get r

def State.setClaims (s : State) (r : RegionId) (x : RegionClaims) : State :=
  { s with arbiter := { s.arbiter with claims := s.arbiter.claims.set r.val x r.isLt } }

def State.monitor (s : State) (m : MonitorId) : Monitor := s.monitors.get m

def State.setMonitor (s : State) (m : MonitorId) (x : Monitor) : State := { s with monitors := s.monitors.set m.val x m.isLt }

def State.input (s : State) : InputId → PictureInput
  | .pa => s.inputs.pa
  | .pb => s.inputs.pb

def State.setInput (s : State) (i : InputId) (x : PictureInput) : State :=
  match i with
  | .pa => { s with inputs := { s.inputs with pa := x } }
  | .pb => { s with inputs := { s.inputs with pb := x } }

def State.colour (s : State) (n : PatternId) : Colour := s.canvas.colours.get n

def State.currentSpot (s : State) (r : RegionId) : Option CurrentSpot := s.rotation.current.get r

def State.setCurrentSpot (s : State) (r : RegionId) (x : Option CurrentSpot) : State :=
  { s with rotation := { s.rotation with current := s.rotation.current.set r.val x r.isLt } }

def State.pass (s : State) (r : RegionId) : Option Pass := s.messages.passes.get r

def State.setPass (s : State) (r : RegionId) (x : Option Pass) : State :=
  { s with messages := { s.messages with passes := s.messages.passes.set r.val x r.isLt } }

/-- Whether an engine's standing claim on a region is being offered again (R35). -/
def State.offering (s : State) (e : Engine) (r : RegionId) : Bool :=
  match e with
  | .rotation => s.rotation.offering.get r
  | .message => s.messages.offering.get r

def State.setOffering (s : State) (e : Engine) (r : RegionId) (b : Bool) : State :=
  match e with
  | .rotation => { s with rotation := { s.rotation with offering := s.rotation.offering.set r.val b r.isLt } }
  | .message => { s with messages := { s.messages with offering := s.messages.offering.set r.val b r.isLt } }

/-! ### What blocks ask of each other -/

/-- The number of the current frame (R48). -/
def State.frame (s : State) : FrameNo := s.comp.frame

/-- Whether the main clock is Running (R83). -/
def State.running (s : State) : Bool := decide (s.clock.state = .running)

/-- Whether the device mode is Live (R14). -/
def State.live (s : State) : Bool := decide (s.canvas.mode = .live)

/-- A region with a view binding is fixed (R4). -/
def Region.fixed (g : Region) : Bool := decide (g.view ≠ .none)

/-- The director port (R192). -/
def State.director (s : State) : PortId := directorOf s.dirsel

/-- The ports that hold one of the roles, and the director port, in port order. -/
def State.portsOf (s : State) (roles : List Role) : List PortId :=
  allPorts.filter (fun p => roles.contains (s.port p).role || decide (p = s.director))

/-- The port that has the Scoring role (R192). -/
def State.scoringPort (s : State) : Option PortId := allPorts.find? (fun p => decide ((s.port p).role = .scoring))

/-! ### Notices (R196) -/

/-- A notice joins the queue of a port; a queue of 16 first loses its oldest, and NoticesLost is set (R196). -/
def noteTo (n : Notice) (x : Port) : Port :=
  if 16 ≤ x.notices.length then { x with notices := x.notices.tail ++ [n], noticesLost := true }
  else { x with notices := x.notices ++ [n] }

/-- A notice queued to one port. -/
def notify (p : PortId) (n : Notice) (s : State) : State := { s with ports := updatePort s.ports p (noteTo n) }

/-- A notice queued to several ports. -/
def notifyAll (ps : List PortId) (n : Notice) (s : State) : State :=
  { s with ports := ps.foldl (fun v p => updatePort v p (noteTo n)) s.ports }

/-! ### Answers (R194, R197) -/

/-- What a block says to a request: outcome, Adjusted and the answer's fields. -/
structure Reply where
  outcome : ResultCode
  adjusted : Bool
  fields : List Atom
  deriving DecidableEq, Repr

/-- A block answers a request as it is taken, or defers it (R194). -/
inductive Ans where
  | reply (r : Reply)
  | deferred (d : OpenRequest)
  deriving DecidableEq, Repr

def Ans.done (fields : List Atom) : Ans := .reply ⟨.done, false, fields⟩

/-- Done, with Adjusted set when `adjusted` (R197). -/
def Ans.doneAdjusted (adjusted : Bool) (fields : List Atom) : Ans := .reply ⟨.done, adjusted, fields⟩

/-- A refusal carries no Adjusted (R197). -/
def Ans.refuse (o : ResultCode) : Ans := .reply ⟨o, false, []⟩

/-- BadValue names the first field at fault (R197). -/
def Ans.badValue (f : FieldName) : Ans := .reply ⟨.badValue, false, [.field f]⟩

/-- The answer a port makes to a request, carrying NoticesLost as the flag stands (R196). -/
def Port.answerOf (x : Port) (q : Byte) (code : Nat) (counted deferred : Bool) (r : Reply) : Answer :=
  { seq := q, code := code, outcome := r.outcome, adjusted := r.adjusted, noticesLost := x.noticesLost, fields := r.fields,
    counted := counted, deferred := deferred }

/-- The answer of a request that is not deferred joins the list of answers waiting (R194). -/
def answerTo (q : Byte) (code : Nat) (counted : Bool) (r : Reply) (x : Port) : Port :=
  { x with answers := x.answers ++ [x.answerOf q code counted false r] }

/-- The answer of a deferred request joins the list of answers waiting; the request stays outstanding until it is sent (R194). -/
def answerDeferred (q : Byte) (code : Nat) (r : Reply) (x : Port) : Port :=
  { x with answers := x.answers ++ [x.answerOf q code true true r] }

def sendAnswer (p : PortId) (q : Byte) (code : Nat) (counted : Bool) (r : Reply) (s : State) : State :=
  { s with ports := updatePort s.ports p (answerTo q code counted r) }

/-- A deferred request is kept in the port's request queue (R194). -/
def deferTo (d : OpenRequest) (x : Port) : Port := { x with requests := x.requests ++ [d] }

/-- How many requests of a port are outstanding: deferred, answered and waiting to be sent, or being sent (R194). -/
def Port.outstanding (x : Port) : Nat :=
  x.requests.length + (x.answers.filter (fun a => a.counted)).length
    + (match x.line with
       | some (.answer a) => if a.counted then 1 else 0
       | some (.notice _ _) => 0
       | none => 0)

/-- A deferred request of a port is outstanding: its work goes on, or its answer waits or is being sent (R192, R194). -/
def Port.deferredOutstanding (x : Port) : Bool :=
  !x.requests.isEmpty || x.answers.any (fun a => a.deferred)
    || (match x.line with
        | some (.answer a) => a.deferred
        | some (.notice _ _) => false
        | none => false)

/-! ### The transmitter (R195) -/

/-- A free transmitter takes the oldest waiting answer, or else the oldest notice, which takes its number as it starts (R189, R195). -/
def startFrame (x : Port) : Port :=
  match x.line with
  | some _ => x
  | none =>
    match x.answers with
    | a :: rest => { x with answers := rest, line := some (.answer a) }
    | [] =>
      match x.notices with
      | n :: rest => { x with notices := rest, line := some (.notice n x.noticeCounter), noticeCounter := x.noticeCounter + 1 }
      | [] => x

/-- Every free transmitter starts its next frame. A step is whole, so transmitters look when it has ended (DESIGN CHOICE, log 8). -/
def pump (s : State) : State := { s with ports := allPorts.foldl (fun v p => updatePort v p startFrame) s.ports }

/-! ### The directory (R171) -/

/-- The record a request names by id: the Writing or Complete record of the id, or else a Retired one (R171). -/
def Assets.named (a : Assets) (id : Nat) : Option AssetRecord :=
  match a.records.find? (fun e => decide (e.id = id) && decide (e.state ≠ .retired)) with
  | some e => some e
  | none => a.records.find? (fun e => decide (e.id = id))

/-- The Complete record of an id. -/
def Assets.complete (a : Assets) (id : Nat) : Option AssetRecord :=
  a.records.find? (fun e => decide (e.id = id) && decide (e.state = .complete))

/-- The id names a Complete asset of the kind. -/
def Assets.isComplete (a : Assets) (k : AssetKind) (id : Nat) : Bool :=
  match a.complete id with
  | some e => decide (e.kind = k)
  | none => false

/-- The copy show memory holds of a page (R172). -/
def Assets.copyOf (a : Assets) (page : Nat) : Page := (keyGet page a.copies).getD (.content [])

/-- The advance widths of a Complete GlyphSet, from the show-memory copy of its header (R170, R172). -/
def Assets.advances (a : Assets) (id : Nat) : List Nat :=
  match a.complete id with
  | some e =>
    match a.copyOf e.first with
    | .header h => h.widths
    | .content _ => []
    | .unknown _ => []
  | none => []

/-- The advance width of a glyph code in a glyph set; a code the set does not give has none. -/
def advanceIn (widths : List Nat) (code : Nat) : Nat := widths.getD code 0

/-- The content pages of a Complete asset as show memory holds them (R172). -/
def Assets.contentOf (a : Assets) (id : Nat) : AssetCopy :=
  match a.complete id with
  | some e => { width := e.width, pages := (List.range (e.count - 1)).map (fun n => a.copyOf (e.first + 1 + n)) }
  | none => { width := 0, pages := [] }

end Sys2Proof.Machine
end

