-- ==== Sys2Proof/Machine/Flags.lean ====
section
/-! DEFINITION. The monitor table (R59 to R61): conditions, latches, and the SourceFault notice of a reported state
that passes from absent to present. -/

namespace Sys2Proof.Machine

/-! ### The 36 monitors, by their places in the table of R59 -/

def monLost : InputId → MonitorId
  | .pa => 0
  | .pb => 1

def monShort : InputId → MonitorId
  | .pa => 2
  | .pb => 3

def monGenlock : MonitorId := 4

def monDown (k : LinkId) : MonitorId := ⟨5 + k.val, by omega⟩

def monIncomplete (k : LinkId) : MonitorId := ⟨13 + k.val, by omega⟩

def monRetry (k : LinkId) : MonitorId := ⟨21 + k.val, by omega⟩

def monSilent (p : PortId) : MonitorId := ⟨29 + p.val, by omega⟩

def monUnsupervised : MonitorId := 35

/-- The reported state: the condition is present or the latched flag is set (R59). -/
def Monitor.reported (m : Monitor) : Bool := m.condition || m.latched

/-- A condition that rises sets the latched flag when the latch setting is on (R59). -/
def Monitor.rise (m : Monitor) : Monitor := { m with condition := true, latched := m.latched || m.latch }

/-- The SourceFault notice (R60): the monitor, the frame current at the rise, and the region R58 names, absent for the other monitors (DESIGN
CHOICE, log 7). -/
def sourceFault (m : MonitorId) (f : FrameNo) (r : Option RegionId) : Notice :=
  { kind := .sourceFault, fields := [.named m.val, frameAtom f] ++ optAtoms (fun r => [nat r.val]) r }

/-- A condition rises. A SourceFault goes to the director port when the reported state was absent and the enable is on (R60). -/
def raise (m : MonitorId) (r : Option RegionId) (s : State) : State :=
  let x := s.monitor m
  if x.condition then s
  else
    let t := s.setMonitor m x.rise
    if !x.reported && x.enable then notify s.director (sourceFault m s.frame r) t else t

/-- A condition clears; the latched flag stays (R59). -/
def lower (m : MonitorId) (s : State) : State := s.setMonitor m { s.monitor m with condition := false }

/-- Whether an input is treated as Lost: its Lost condition is present or latched (R55, R59). -/
def State.treatedLost (s : State) (i : InputId) : Bool := (s.monitor (monLost i)).reported

/-- The held frame is dropped when the input stops being treated as Lost (R57). -/
def dropHeld (i : InputId) (s : State) : State :=
  if s.treatedLost i then s else s.setInput i { s.input i with held := none }

/-- Both inputs. -/
def dropHeldAll (s : State) : State := dropHeld .pb (dropHeld .pa s)

/-- New monitor settings (R59, R60): turning the latch on latches a condition that is present, turning it off clears the latched flag. -/
def Monitor.withSettings (m : Monitor) (enable latch : Option Bool) : Monitor :=
  let e := enable.getD m.enable
  match latch with
  | none => { m with enable := e }
  | some true => { m with enable := e, latch := true, latched := m.latched || m.condition }
  | some false => { m with enable := e, latch := false, latched := false }

/-- SetMonitor (R60). -/
def onSetMonitor (monitor : Named MonitorId) (enable latch : Option Bool) (s : State) : State × Ans :=
  match monitor with
  | .unknown _ => (s, .badValue .monitor)
  | .known m => (dropHeldAll (s.setMonitor m ((s.monitor m).withSettings enable latch)), .done [])

/-- ClearFaults on one monitor: the latched flag is cleared, and set again while the condition is present with the latch on (R61). -/
def Monitor.cleared (m : Monitor) : Monitor := { m with latched := m.condition && m.latch }

/-- ClearFaults on a list of monitors. -/
def clearLatches (ms : List MonitorId) (v : Vector Monitor 36) : Vector Monitor 36 :=
  ms.foldl (fun w m => w.set m.val (Monitor.cleared (w.get m)) m.isLt) v

/-- ClearFaults (R61): the number of latched flags it cleared, counting those set again (DEDUCED, log 47). -/
def onClearFaults (monitor : Option (Named MonitorId)) (s : State) : State × Ans :=
  match monitor with
  | some (.unknown _) => (s, .badValue .monitor)
  | some (.known m) =>
    (dropHeldAll { s with monitors := clearLatches [m] s.monitors }, .done [nat ([m].filter (fun m => (s.monitor m).latched)).length])
  | none =>
    (dropHeldAll { s with monitors := clearLatches allMonitors s.monitors },
      .done [nat (allMonitors.filter (fun m => (s.monitor m).latched)).length])

end Sys2Proof.Machine
end

