-- ==== Sys2Proof/Machine/Arbiter.lean ====
section
/-! DEFINITION. Claims and Arbitration (R18 to R44): wait lists, the stages of an evaluation, the engines' standing claims,
and the claim requests. -/

namespace Sys2Proof.Machine

/-! ### Claims and lists -/

/-- Two claims are one when their claimant and tag agree (R19, R20). -/
def Claim.same (a b : Claim) : Bool := decide (a.claimant = b.claimant) && decide (a.tag = b.tag)

/-- The wait list with a joining claim after every entry of equal or higher rank (R23). -/
def insertClaim (c : Claim) : List Claim → List Claim
  | [] => [c]
  | w :: rest => if c.rank ≤ w.rank then w :: insertClaim c rest else c :: w :: rest

/-- The wait list without a claim; the entries behind it move up (R23). -/
def removeClaim (c : Claim) (l : List Claim) : List Claim := l.filter (fun w => !w.same c)

/-- The position of a claim, 1 being the head; 0 when it is not on the list (R19). -/
def positionOf (c : Claim) : List Claim → Nat
  | [] => 0
  | w :: rest =>
    if w.same c then 1
    else
      match positionOf c rest with
      | 0 => 0
      | n + 1 => n + 2

/-- Where a live claim stands: its region, whether it holds, and its position while it waits. -/
structure Standing where
  region : RegionId
  holding : Bool
  position : Nat
  claim : Claim
  deriving DecidableEq, Repr

/-- The live claims on one region. -/
def standings (r : RegionId) (x : RegionClaims) : List Standing :=
  (match x.holder with
   | some h => [⟨r, true, 0, h⟩]
   | none => []) ++ x.waiting.map (fun w => ⟨r, false, positionOf w x.waiting, w⟩)

/-- Every live claim of the part. -/
def State.standings (s : State) : List Standing := allRegions.flatMap (fun r => Machine.standings r (s.claims r))

/-- A port's claim set (R20). -/
def State.claimSet (s : State) (p : PortId) : List Standing :=
  s.standings.filter (fun e => decide (e.claim.claimant = .port p))

/-- The claim of a tag in a port's claim set. -/
def State.claimOf (s : State) (p : PortId) (tag : Nat) : Option Standing :=
  (s.claimSet p).find? (fun e => decide (e.claim.tag = tag))

/-- Every region's claims changed by `f`. -/
def mapClaims (f : RegionId → RegionClaims → RegionClaims) (s : State) : State :=
  { s with arbiter := { s.arbiter with
      claims := allRegions.foldl (fun v r => v.set r.val (f r (v.get r)) r.isLt) s.arbiter.claims } }

/-! ### Engines' interests (R126, R160) -/

/-- The Rotation Engine's interest in a region (R126). -/
def rotationInterest (s : State) (r : RegionId) : Bool :=
  match s.region r with
  | some g => g.sponsor && s.rotation.spots.any (fun t => t.regions.contains r.val)
  | none => false

/-- An Approved entry is eligible when it is Normal, or Stoppage while the main clock is not Running (R160). -/
def Entry.eligible (running : Bool) (e : Entry) : Bool := decide (e.style = .normal) || !running

/-- The Message Engine's interest in a region (R160). -/
def messageInterest (s : State) (r : RegionId) : Bool :=
  match s.region r with
  | some g => g.message && ((s.pass r).isSome || s.messages.approved.any (Entry.eligible s.running))
  | none => false

/-- An engine's interest in a region. -/
def State.interest (s : State) : Engine → RegionId → Bool
  | .rotation => rotationInterest s
  | .message => messageInterest s

/-- An engine's rank (R22). -/
def State.engineRank (s : State) : Engine → Nat
  | .rotation => s.arbiter.rotationRank
  | .message => s.arbiter.messageRank

/-- An engine's standing claim on a region as it is offered (R18). -/
def engineClaim (s : State) (e : Engine) (r : RegionId) : Claim :=
  { claimant := .engine e, tag := r.val, rank := s.engineRank e,
    content := (match e with
                | .rotation => .spot
                | .message => .crawl),
    duration := 0, remaining := none, resume := true, mark := none }

/-- Whether an engine's claim holds a region. -/
def RegionClaims.heldBy (x : RegionClaims) (c : Claimant) : Bool :=
  match x.holder with
  | some h => decide (h.claimant = c)
  | none => false

/-- Whether an engine's claim waits on a region. -/
def RegionClaims.awaitedBy (x : RegionClaims) (c : Claimant) : Bool := x.waiting.any (fun w => decide (w.claimant = c))

/-! ### Claim notices (R43) -/

/-- A claim notice carries the region, the tag and the frame, and further fields; an engine claim produces none (R43). -/
def claimNotice (kind : NoticeKind) (r : RegionId) (c : Claim) (fields : List Atom) (s : State) : State :=
  match c.claimant with
  | .port p => notify p { kind := kind, fields := [nat r.val, nat c.tag, frameAtom s.frame] ++ fields } s
  | .engine _ => s

/-- An engine that lost a standing claim offers it again at the following ticks while its interest stands (R35). -/
def engineLost (e : Engine) (r : RegionId) (s : State) : State := s.setOffering e r (s.interest e r)

/-! ### Deferred Withdraws (R38) -/

/-- A holder of a tag has left: a Withdraw that waits for it counts it. -/
def OpenRequest.holderLeft (tag : Nat) : OpenRequest → OpenRequest
  | .withdraw q waiting removed left =>
    if waiting.contains tag then .withdraw q (waiting.erase tag) removed (left + 1) else .withdraw q waiting removed left
  | .upload q code => .upload q code
  | .reclaim q => .reclaim q

/-- A Withdraw that waits for no holder any more. -/
def OpenRequest.withdrawEnded : OpenRequest → Bool
  | .withdraw _ waiting _ _ => waiting.isEmpty
  | .upload _ _ => false
  | .reclaim _ => false

/-- The answer of an ended Withdraw: the waiting claims removed and the holders that left (R38). -/
def answerWithdraw (d : OpenRequest) (x : Port) : Port :=
  match d with
  | .withdraw q _ removed left => answerDeferred q 24 ⟨.done, false, [nat removed, nat left]⟩ x
  | .upload _ _ => x
  | .reclaim _ => x

/-- A holder of a port has left: its deferred Withdraws that end are answered. Two that end at one evaluation are answered in the order they
were taken (DESIGN CHOICE, log 38). -/
def holderLeft (tag : Nat) (x : Port) : Port :=
  let requests := x.requests.map (OpenRequest.holderLeft tag)
  (requests.filter OpenRequest.withdrawEnded).foldl (fun y d => answerWithdraw d y)
    { x with requests := requests.filter (fun d => !d.withdrawEnded) }

/-! ### Joining and leaving a wait list (R25, R32, R34) -/

/-- A claim pushed off a full list is dropped, and its claimant is told (R25). -/
def evict (r : RegionId) (c : Claim) (rank : Nat) (s : State) : State :=
  match c.claimant with
  | .port _ => claimNotice .evicted r c [nat rank] s
  | .engine e => engineLost e r s

/-- A claim joins a wait list under the eviction rule; the answer says whether it joined (R25). -/
def joinWait (r : RegionId) (c : Claim) (s : State) : State × Bool :=
  let x := s.claims r
  if x.waiting.length < 4 then (s.setClaims r { x with waiting := insertClaim c x.waiting }, true)
  else
    match x.waiting.getLast? with
    | none => (s, false)
    | some last =>
      if last.rank < c.rank then
        (evict r last c.rank (s.setClaims r { x with waiting := insertClaim c x.waiting.dropLast }), true)
      else (s, false)

/-- A holder that left was dropped: a port's deferred Withdraws see it, an engine that was not released offers again (R35, R38). -/
def dropped (r : RegionId) (h : Claim) (released : Bool) (s : State) : State :=
  match h.claimant with
  | .port p => { s with ports := updatePort s.ports p (holderLeft h.tag) }
  | .engine e => if released then s else engineLost e r s

/-- Reason codes of Displaced: Higher, ClockStart, Fallback; and of Ended: Duration, Fallback (R43). -/
def reasonHigher : Atom := .named 0
def reasonClockStart : Atom := .named 1
def reasonFallback : Atom := .named 2
def reasonEndDuration : Atom := .named 0
def reasonEndFallback : Atom := .named 1

/-- A holder that left goes back to waiting with Displaced, or, when it does not join, is dropped with the notice `fail` (R32). The Evicted of a
claim it pushes off comes first, and the position is that at which it joins, before a promotion (DESIGN CHOICE, log 41). -/
def goBack (r : RegionId) (h : Claim) (reason : Atom) (failKind : NoticeKind) (failFields : List Atom) (s : State) : State :=
  let c := { h with mark := none }
  match joinWait r c s with
  | (t, true) => claimNotice .displaced r c ([reason] ++ optNat c.remaining ++ [nat (positionOf c (t.claims r).waiting)]) t
  | (t, false) => dropped r c false (claimNotice failKind r c failFields t)

/-- Why a holder leaves at the leave stage, by the first line of R32's table that applies. -/
inductive LeaveCause where
  | released
  | duration
  | clockStart
  | keep
  | fallback
  deriving DecidableEq, Repr

/-- Whether a region is in Fallback for an input at the current tick (R56). -/
def inFallback (s : State) (g : Region) (i : InputId) : Bool :=
  s.treatedLost i
    && (match g.policy with
        | .fallback => true
        | .hold => decide (g.holdLimit ≤ framesSince s.frame (s.input i).lostAt))

/-- A Picture holder of a region in Fallback for its input (R32). -/
def holderInFallback (s : State) (g : Region) (h : Claim) : Bool :=
  match h.content with
  | .picture i => inFallback s g i
  | .asset _ => false
  | .fill _ => false
  | .spot => false
  | .crawl => false

/-- The cause for which a holder leaves at the leave stage, if any (R32). -/
def leaveCause (s : State) (g : Region) (h : Claim) : Option LeaveCause :=
  if h.mark = some .dropRelease then some .released
  else if h.remaining = some 0 then some .duration
  else if h.mark = some .dropClockStart then some .clockStart
  else if h.mark = some .keep then some .keep
  else if holderInFallback s g h then some .fallback
  else none

/-- A holder leaves at the leave stage and its fate is settled (R32). -/
def leave (r : RegionId) (h : Claim) (cause : LeaveCause) (s : State) : State :=
  let t := s.setClaims r { s.claims r with holder := none }
  match cause with
  | .released => dropped r h true t
  | .duration => dropped r h false (claimNotice .ended r h [reasonEndDuration] t)
  | .clockStart => dropped r h false (claimNotice .clockStarted r h [] t)
  | .keep => goBack r h reasonClockStart .clockStarted [] t
  | .fallback =>
    if h.resume then goBack r h reasonFallback .ended [reasonEndFallback] t
    else dropped r h false (claimNotice .ended r h [reasonEndFallback] t)

/-! ### The evaluation of a region (R30 to R34) -/

/-- The dwell has passed when there is no last change, or it lies at least the dwell back (R30). -/
def dwellPassed (g : Region) (f : FrameNo) : Bool :=
  match g.lastChange with
  | none => true
  | some lc => decide (g.dwell ≤ framesSince f lc)

/-- The count stage: a holder with a duration has its remaining reduced by 1 (R31). -/
def countStage (x : RegionClaims) : RegionClaims :=
  match x.holder with
  | none => x
  | some h => { x with holder := some { h with remaining := h.remaining.map (fun n => n - 1) } }

/-- Whether a waiting claim is eligible at an evaluation (R24). -/
def eligible (s : State) (g : Region) (c : Claim) : Bool :=
  !(g.stoppage && s.running)
    && (match c.content with
        | .picture i => !s.treatedLost i
        | .asset _ => true
        | .fill _ => true
        | .spot => true
        | .crawl => true)

/-- The region's candidate: its first eligible waiting claim (R24). -/
def candidate (s : State) (r : RegionId) (g : Region) : Option Claim := (s.claims r).waiting.find? (eligible s g)

/-- A claim becomes holder: it leaves the list, lc becomes f, and its port receives Holding (R33). -/
def promote (r : RegionId) (c : Claim) (s : State) : State :=
  let x := s.claims r
  let t := s.setClaims r { x with holder := some c, waiting := removeClaim c x.waiting }
  let u := match t.region r with
    | some g => t.setRegion r (some { g with lastChange := some t.frame })
    | none => t
  claimNotice .holding r c ([nat c.rank] ++ optNat c.remaining) u

/-- A holder is displaced by a candidate of higher rank (R34). -/
def displace (r : RegionId) (h c : Claim) (s : State) : State :=
  let back := { h with mark := none }
  let t := s.setClaims r { s.claims r with holder := none }
  let preempted (u : State) : State := dropped r back false (claimNotice .preempted r back (optNat back.remaining ++ [nat c.rank]) u)
  if h.resume then
    match joinWait r back t with
    | (u, true) =>
      let position := positionOf back (removeClaim c (u.claims r).waiting)
      promote r c (claimNotice .displaced r back ([reasonHigher] ++ optNat back.remaining ++ [nat position]) u)
    | (u, false) => promote r c (preempted u)
  else promote r c (preempted t)

/-- What the arbiter did in one evaluation: the holder that left and the claim that became holder. -/
structure Verdict where
  left : Option Claim
  became : Option Claim
  deriving DecidableEq, Repr

/-- The count and leave stages (R31, R32): the holder that left, if one did. -/
def leaveStage (r : RegionId) (g : Region) (s : State) : State × Option Claim :=
  let t := s.setClaims r (countStage (s.claims r))
  match (t.claims r).holder with
  | none => (t, none)
  | some h =>
    match leaveCause t g h with
    | none => (t, none)
    | some cause => (leave r h cause t, some h)

/-- The replace or promote stage, `passed` being the dwell test made when the evaluation began (R33). -/
def replaceStage (r : RegionId) (g : Region) (passed : Bool) (left : Option Claim) (s : State) : State × Verdict :=
  match (s.claims r).holder, candidate s r g with
  | _, none => (s, ⟨left, none⟩)
  | some h, some c => if decide (h.rank < c.rank) && passed then (displace r h c s, ⟨some h, some c⟩) else (s, ⟨left, none⟩)
  | none, some c => if passed then (promote r c s, ⟨left, some c⟩) else (s, ⟨left, none⟩)

/-- The arbiter's evaluation of a defined, non-fixed region at the current tick (R30). -/
def arbitrate (r : RegionId) (g : Region) (s : State) : State × Verdict :=
  let passed := dwellPassed g s.frame
  match leaveStage r g s with
  | (t, left) => replaceStage r g passed left t

/-! ### Standing claims of the engines (R35, R126, R160) -/

/-- An engine offers its standing claim: an arrival under R25; a Full refusal is offered again at the following ticks (R35). -/
def offer (e : Engine) (r : RegionId) (s : State) : State :=
  match joinWait r (engineClaim s e r) s with
  | (t, joined) => t.setOffering e r (!joined)

/-- The holder gets the leaving mark Drop, cause Release (R28). -/
def markDrop (x : RegionClaims) : RegionClaims :=
  match x.holder with
  | none => x
  | some h => { x with holder := some { h with mark := some .dropRelease } }

/-- An engine releases its interest in a region: a waiting claim goes at once, a holder is marked, an offer stops. -/
def releaseEngine (e : Engine) (r : RegionId) (s : State) : State :=
  let x := s.claims r
  let y := if x.heldBy (.engine e) then markDrop x else x
  (s.setClaims r { y with waiting := y.waiting.filter (fun w => !decide (w.claimant = .engine e)) }).setOffering e r false

/-- An engine settles its interest in a region (R126, R160). -/
def settle (e : Engine) (r : RegionId) (s : State) : State :=
  if s.interest e r then
    if (s.claims r).heldBy (.engine e) || (s.claims r).awaitedBy (.engine e) then s else offer e r s
  else releaseEngine e r s

/-- An engine settles every region, in ascending id: no rule orders them (DESIGN CHOICE, log 37). -/
def settleAll (e : Engine) (s : State) : State := allRegions.foldl (fun t r => settle e r t) s

/-- The offers outstanding when the tick began are made again (R35), while the interest stands and no claim has taken their place. -/
def reoffer (due : List (Engine × RegionId)) (s : State) : State :=
  due.foldl (fun t d => if t.offering d.1 d.2 then settle d.1 d.2 t else t) s

/-- The standing claims being offered again, Rotation Engine first, in region order; the Message Engine has by then offered at the settling
that ends each evaluation (DESIGN CHOICE, log 37). -/
def State.dueOffers (s : State) : List (Engine × RegionId) :=
  (allRegions.filter (s.offering .rotation)).map (fun r => (Engine.rotation, r))
    ++ (allRegions.filter (s.offering .message)).map (fun r => (Engine.message, r))

/-! ### Clock start (R36) -/

/-- Started marks the holder of a stoppage-only region, unless it carries Drop (R36). -/
def markStarted (x : RegionClaims) : RegionClaims :=
  match x.holder with
  | none => x
  | some h =>
    if h.mark = some .dropRelease ∨ h.mark = some .dropClockStart then x
    else { x with holder := some { h with mark := some (if h.resume then .keep else .dropClockStart) } }

/-- The Claim Arbiter's part of Started: every stoppage-only region (R36). -/
def startedClaims (s : State) : State :=
  mapClaims
    (fun r x =>
      match s.region r with
      | some g => if g.stoppage then markStarted x else x
      | none => x) s

/-! ### Claim requests (R26 to R29, R38, R39) -/

/-- Content rights of the roles (R26, check 2). -/
def contentAllowed (role : Role) (content : ContentField) : Bool :=
  match role, content with
  | .director, .picture _ => true
  | .director, .asset _ => true
  | .director, .fill _ => true
  | .replay, .picture _ => true
  | .replay, .fill _ => true
  | .sponsor, .asset _ => true
  | .sponsor, .fill _ => true
  | _, _ => false

/-- Checks 7 to 9 of R26: the content a claim on region `g` would supply, or the refusal. -/
def checkContent (s : State) (g : Region) : ContentField → Except Ans ClaimContent
  | .picture (.known i) => .ok (.picture i)
  | .picture (.unknown _) => .error (.badValue .content)
  | .fill n => if h : n < 8 then .ok (.fill ⟨n, h⟩) else .error (.badValue .content)
  | .asset id =>
    match s.assets.named id with
    | none => .error (.refuse .noSuchThing)
    | some e =>
      if e.state = .complete ∧ e.kind = .image ∧ e.width = g.width ∧ e.height = g.height then .ok (.asset id)
      else .error (.badValue .content)
  | .spot => .error (.badValue .content)
  | .crawl => .error (.badValue .content)
  | .unknown _ => .error (.badValue .content)

/-- The rank of a request priority in a port's map (R21, R26). -/
def Port.rankOf (x : Port) (priority : Nat) : Nat := x.priorityMap.getD (clamp 0 7 priority) 0

/-- Check 12 of R26: a list of four whose last entry the rank does not exceed. -/
def waitFull (x : RegionClaims) (rank : Nat) : Bool :=
  match x.waiting.getLast? with
  | none => false
  | some last => decide (4 ≤ x.waiting.length) && decide (rank ≤ last.rank)

/-- Claim (R26, R27). After rank and position the answer carries the stored duration, which may have been clamped (R197; DEDUCED, log 13). -/
def onClaim (p : PortId) (region tag priority : Nat) (content : ContentField) (duration : Nat) (resume : Bool) (s : State) : State × Ans :=
  if (s.port p).withdrawn then (s, .refuse .withdrawn)
  else if !contentAllowed (s.port p).role content then (s, .refuse .notPermitted)
  else
    match toRegion region with
    | none => (s, .badValue .region)
    | some r =>
      match s.region r with
      | none => (s, .refuse .noSuchThing)
      | some g =>
        if g.fixed then (s, .refuse .fixed)
        else if !inRange 1 65535 tag then (s, .badValue .tag)
        else
          match checkContent s g content with
          | .error a => (s, a)
          | .ok c =>
            let rank := (s.port p).rankOf priority
            if (s.claimOf p tag).isSome then (s, .refuse .exists_)
            else if 16 ≤ (s.claimSet p).length then (s, .refuse .full)
            else if waitFull (s.claims r) rank then (s, .refuse .full)
            else
              let d := clamp 0 65535 duration
              let k : Claim :=
                { claimant := .port p, tag := tag, rank := rank, content := c, duration := d,
                  remaining := if d = 0 then none else some d, resume := resume, mark := none }
              let t := (joinWait r k s).1
              (t, .doneAdjusted (clampHits 0 7 priority || clampHits 0 65535 duration)
                    [nat rank, nat (positionOf k (t.claims r).waiting), nat d])

/-- Release (R28). -/
def onRelease (p : PortId) (tag : Nat) (s : State) : State × Ans :=
  match s.claimOf p tag with
  | none => (s, .refuse .noSuchThing)
  | some e =>
    let x := s.claims e.region
    if e.holding then (s.setClaims e.region (markDrop x), .done [])
    else (s.setClaims e.region { x with waiting := removeClaim e.claim x.waiting }, .done [])

/-- A port's claims on one region are released: waiting claims go, a holder is marked Drop (R28, R38, R41). -/
def releasePort (p : PortId) (x : RegionClaims) : RegionClaims :=
  let y := if x.heldBy (.port p) then markDrop x else x
  { y with waiting := y.waiting.filter (fun w => !decide (w.claimant = .port p)) }

/-- Every claim of a port is released as Release would (R38, R41, R42). -/
def releaseClaims (p : PortId) (s : State) : State := mapClaims (fun _ x => releasePort p x) s

/-- Withdraw (R38): answered at once when no holder has to leave, deferred until the last has left otherwise. -/
def onWithdraw (p : PortId) (q : Byte) (s : State) : State × Ans :=
  let set := s.claimSet p
  let holders := (set.filter (fun e => e.holding)).map (fun e => e.claim.tag)
  let removed := (set.filter (fun e => !e.holding)).length
  let t := releaseClaims p (s.setPort p { s.port p with withdrawn := true })
  if holders.isEmpty then (t, .done [nat removed, nat 0]) else (t, .deferred (.withdraw q holders removed 0))

/-- Resume (R39). -/
def onResume (p : PortId) (s : State) : State × Ans := (s.setPort p { s.port p with withdrawn := false }, .done [])

/-- A claim's content as a record (R19). -/
def contentAtoms : ClaimContent → List Atom
  | .picture i => [.named 0, .named (inputCode i)]
  | .asset id => [.named 1, nat id]
  | .fill n => [.named 2, nat n.val]
  | .spot => [.named 3]
  | .crawl => [.named 4]

/-- A leaving mark: Keep, or Drop with its cause Release or ClockStart (R19). It is sent as a named value, Keep 0 or Drop 1, and after a Drop its
cause as a second one, Release 0 or ClockStart 1 (DESIGN CHOICE, log 7). -/
def markAtoms : LeavingMark → List Atom
  | .keep => [.named 0]
  | .dropRelease => [.named 1, .named 0]
  | .dropClockStart => [.named 1, .named 1]

/-- One line of ReadClaims (R29). -/
def standingAtoms (e : Standing) : List Atom :=
  [nat e.claim.tag, nat e.region.val, nat e.claim.rank] ++ contentAtoms e.claim.content
    ++ [.named (if e.holding then 1 else 0)] ++ optNat (if e.holding then none else some e.position)
    ++ optNat e.claim.remaining ++ [.flag e.claim.resume] ++ optAtoms markAtoms e.claim.mark

/-- ReadClaims (R29). -/
def onReadClaims (p : PortId) (port : Nat) (s : State) : State × Ans :=
  if port ≠ p.val ∧ (s.port p).role ≠ .director then (s, .refuse .notPermitted)
  else
    match toPort port with
    | none => (s, .badValue .port)
    | some n =>
      let set := sortBy (fun e => e.claim.tag) (s.claimSet n)
      (s, .done (listAtoms standingAtoms set ++ [.flag (s.port n).withdrawn, nat set.length]))

/-- SetPriorityMap (R21). A list of other than eight ranks is not the request's fields in their sizes; the answer is this
block's, so that it counts as an outstanding request (R193, R194; DESIGN CHOICE, log 9). -/
def onSetPriorityMap (port : Nat) (ranks : List Nat) (s : State) : State × Ans :=
  if ranks.length ≠ 8 then (s, .refuse .malformed)
  else
    match toPort port with
    | none => (s, .badValue .port)
    | some n =>
      (s.setPort n { s.port n with priorityMap := ranks.map (clamp 0 7) }, .doneAdjusted (ranks.any (clampHits 0 7)) (listAtoms (fun r => [nat r]) (ranks.map (clamp 0 7))))

/-- An engine's claims on one region take a new rank: a holder keeps its place, a waiting claim is put back as if it had just arrived (R22). -/
def rerank (e : Engine) (rank : Nat) (x : RegionClaims) : RegionClaims :=
  let holder := x.holder.map (fun h => if h.claimant = .engine e then { h with rank := rank } else h)
  let mine := x.waiting.filter (fun w => decide (w.claimant = .engine e))
  let others := x.waiting.filter (fun w => !decide (w.claimant = .engine e))
  { x with holder := holder, waiting := mine.foldl (fun l w => insertClaim { w with rank := rank } l) others }

/-- SetEngineRank (R22). -/
def onSetEngineRank (engine : Named Engine) (rank : Nat) (s : State) : State × Ans :=
  match engine with
  | .unknown _ => (s, .badValue .engine)
  | .known e =>
    let n := clamp 0 7 rank
    let t : State :=
      match e with
      | .rotation => { s with arbiter := { s.arbiter with rotationRank := n } }
      | .message => { s with arbiter := { s.arbiter with messageRank := n } }
    (mapClaims (fun _ x => rerank e n x) t, .doneAdjusted (clampHits 0 7 rank) [nat n])

end Sys2Proof.Machine
end

