-- ==== Sys2Proof/Machine/Pages.lean ====
section
/-! DEFINITION. Answers whose lists are continued (R194): as many whole items as the 1,024 payload bytes hold. -/

namespace Sys2Proof.Machine

/-- The bytes an atom takes (R190). -/
def Atom.size : Atom → Nat
  | .num _ => 4
  | .ms _ => 8
  | .flag _ => 1
  | .named _ => 1
  | .glyph _ => 1
  | .count _ => 2
  | .absent => 1
  | .present => 1
  | .field _ => 1

def atomsSize (l : List Atom) : Nat := (l.map Atom.size).foldl (fun a b => a + b) 0

/-- How many items fit whole, in order, in `room` bytes. -/
def fitting : Nat → List (List Atom) → Nat
  | _, [] => 0
  | room, a :: rest => if atomsSize a ≤ room then fitting (room - atomsSize a) rest + 1 else 0

/-- The lists with the first `skip` items passed over and `take` items carried, counted across them in order (R194). -/
def slices : Nat → Nat → List (List (List Atom)) → List (List (List Atom))
  | _, _, [] => []
  | skip, take, l :: rest =>
    let shown := (l.drop skip).take take
    shown :: slices (skip - l.length) (take - shown.length) rest

/-- How many items an answer carries from `start` on: all that remain when they fit before an absent continuation, else as many as fit
before a continuation of `moreSize` bytes. Two payload bytes are the flags and the request code (R189), and each list has its count. -/
def pageCount (head : List Atom) (lists : List (List (List Atom))) (start moreSize : Nat) : Nat :=
  let room := 1022 - atomsSize head - 2 * lists.length
  let left := lists.flatten.drop start
  if atomsSize left.flatten + 1 ≤ room then left.length else fitting (room - moreSize) left

/-- A continued answer: the fields outside its lists, then items from `start`, then where a further request continues (R194). -/
def pageAnswer (head : List Atom) (lists : List (List (List Atom))) (start moreSize : Nat) (more : Nat → List Atom) : List Atom :=
  let n := pageCount head lists start moreSize
  head ++ (slices start n lists).flatMap (fun l => .count l.length :: l.flatten)
    ++ (if start + n < lists.flatten.length then more (start + n) else [.absent])

/-- A continued answer whose start is the number of items to pass over (R194). -/
def countedPage (head : List Atom) (lists : List (List (List Atom))) (start : Option Nat) : List Atom :=
  pageAnswer head lists (start.getD 0) 5 (fun n => [.present, nat n])

end Sys2Proof.Machine
end

