-- ==== Sys2Proof/Machine/Assets.lean ====
section
/-! DEFINITION. Asset Library (R169 to R188): the page map, uploads, the retire list, reclaims, the memory's operations
and the start-up scan. -/

namespace Sys2Proof.Machine

def setAssets (a : Assets) (s : State) : State := { s with assets := a }

/-! ### Pages and runs (R169, R170) -/

/-- Pages of asset memory and blocks of 16 pages (R169). -/
def pageTotal : Nat := 16384
def blockTotal : Nat := 1024

/-- Page count of an Image and of a GlyphSet (R170). -/
def pageCountOf (k : AssetKind) (width height : Nat) : Nat :=
  match k with
  | .image => 1 + 2 * width * height
  | .glyphSet => 33

/-- What a read of a page finds. The manual gives no form for a header or for the check over its identity: a page whose header program ended well
passes its check, and no content page reads as a header (R170, R187; DESIGN CHOICE, log 27). -/
def Page.reading : Page → PageReading
  | .header h => .header h
  | .content cells => if cells.isEmpty then .erased else .other
  | .unknown k => Config.unknownPage k

/-- What a read of page `p` of asset memory finds; an unlisted page reads erased. -/
def norReading (nor : List (Nat × Page)) (p : Nat) : PageReading :=
  match keyGet p nor with
  | none => .erased
  | some x => x.reading

/-- Asset memory with page `p` programmed; a page programmed all ones still reads erased and is not listed. -/
def norSet (p : Nat) (x : Page) (nor : List (Nat × Page)) : List (Nat × Page) :=
  if x = .content [] then keyDrop p nor else keySet p x nor

/-- The header of a page changed by `f`, where a header can be read. -/
def norMark (p : Nat) (f : Header → Header) (nor : List (Nat × Page)) : List (Nat × Page) :=
  match norReading nor p with
  | .header h => keySet p (.header (f h)) nor
  | .erased => nor
  | .other => nor

/-- The lowest page at which a run of `count` Free pages begins, from `at` on, the pages not Free being listed in order (R176). -/
def firstFitFrom (count : Nat) : Nat → List (Nat × PageStanding) → Option Nat
  | at_, [] => if at_ + count ≤ pageTotal then some at_ else none
  | at_, (k, _) :: rest => if at_ + count ≤ k then some at_ else firstFitFrom count (max at_ (k + 1)) rest

def firstFit (count : Nat) (map : List (Nat × PageStanding)) : Option Nat := firstFitFrom count 0 map

/-- The longest run of Free pages, as (length, first page) (R186); of equal runs the lowest (DESIGN CHOICE, log 47). -/
def longestRunFrom : Nat → Nat × Nat → List (Nat × PageStanding) → Nat × Nat
  | at_, best, [] => if best.1 < pageTotal - at_ then (pageTotal - at_, at_) else best
  | at_, best, (k, _) :: rest => longestRunFrom (max at_ (k + 1)) (if best.1 < k - at_ then (k - at_, at_) else best) rest

/-- The pages of a run, part of the asset of header page `first`. -/
def runPart (first count : Nat) : List (Nat × PageStanding) := (List.range count).map (fun n => (first + n, .part first))

/-- The page map with a run joined to an asset. -/
def allocate (first count : Nat) (map : List (Nat × PageStanding)) : List (Nat × PageStanding) :=
  (runPart first count).foldl (fun m e => keySet e.1 e.2 m) map

/-- Show memory without the copies of a run (R172). -/
def discardCopies (first count : Nat) (copies : List (Nat × Page)) : List (Nat × Page) :=
  copies.filter (fun e => !(decide (first ≤ e.1) && decide (e.1 < first + count)))

/-! ### Records (R171) -/

/-- The record of a header page. -/
def Assets.record (a : Assets) (first : Nat) : Option AssetRecord := a.records.find? (fun e => decide (e.first = first))

/-- The record of a header page takes a state. -/
def setState (first : Nat) (st : AssetState) (l : List AssetRecord) : List AssetRecord :=
  l.map (fun e => if e.first = first then { e with state := st } else e)

/-- A record becomes Retired and its copy is discarded; `pending` puts it on the retire list (R172, R174, R180, R181). -/
def retireRecord (first count : Nat) (pending : Bool) (a : Assets) : Assets :=
  { a with records := setState first .retired a.records, copies := discardCopies first count a.copies,
           retireList := if pending then a.retireList ++ [first] else a.retireList }

/-- Pages held by a record (R171). -/
def Assets.held (a : Assets) (first : Nat) : Nat := (a.pageMap.filter (fun e => decide (e.2 = .part first))).length

/-! ### Pins (R173) -/

/-- The claims, spots and regions that refer to an asset (R173). -/
def claimPins (s : State) (id : Nat) : Nat := (s.standings.filter (fun e => decide (e.claim.content = .asset id))).length

def spotPins (s : State) (id : Nat) : Nat :=
  let spots := s.rotation.spots ++ (s.rotation.staged.map (fun t => t.spots)).getD [] ++ (s.rotation.build.map (fun b => b.plan.spots)).getD []
  (spots.filter (fun t => decide (t.asset = id))).length

def regionPins (s : State) (id : Nat) : Nat :=
  (allRegions.filter (fun r =>
    match s.region r with
    | some g => decide (g.glyphSet = some id)
    | none => false)).length

/-- An asset is pinned (R173). -/
def pinned (s : State) (id : Nat) : Bool := decide (0 < claimPins s id + spotPins s id + regionPins s id)

/-! ### The end of an upload (R175, R180 to R182) -/

/-- The upload request a port waits for, answered and no longer outstanding (R194); nothing for a port that was reset. -/
def answerUpload (r : Reply) (x : Port) : Port :=
  match x.requests.find? (fun d =>
      match d with
      | .upload _ _ => true
      | .withdraw _ _ _ _ => false
      | .reclaim _ => false) with
  | some (.upload q code) => answerDeferred q code r { x with requests := x.requests.erase (.upload q code) }
  | _ => x

/-- The deferred upload request of a port is answered. -/
def tellUpload (p : PortId) (r : Reply) (s : State) : State := { s with ports := updatePort s.ports p (answerUpload r) }

/-- The upload closes and the buffer returns to all ones (R175). -/
def closeUpload (a : Assets) : Assets := { a with upload := none, buffer := [] }

/-- An upload is aborted: its record is Retired with its mark pending (R180, R182). -/
def abortUpload (u : Upload) (a : Assets) : Assets := closeUpload (retireRecord u.first u.count true a)

/-- The owner of the open upload is lost: aborted at once, or after the program in flight (R182). -/
def uploadOwnerLost (p : PortId) (s : State) : State :=
  match s.assets.upload with
  | none => s
  | some u =>
    if u.owner ≠ p then s
    else if u.job.isNone then setAssets (abortUpload u s.assets) s
    else setAssets { s.assets with upload := some { u with orphan := true } } s

/-! ### Starting operations (R174) -/

/-- The memory is idle and no mark is pending. -/
def Assets.free (a : Assets) : Bool := a.op.isNone && a.retireList.isEmpty

/-- A page program is asked for: it starts at once on an idle memory with no mark pending, and waits otherwise (R174). -/
def askProgram (j : Job) (now : Ms) (u : Upload) (a : Assets) : Assets :=
  { a with upload := some { u with job := some j }, op := if a.free then some ⟨.program j, now⟩ else a.op }

/-- A page program that waited behind pending marks starts (R174). -/
def programStart (s : State) : State :=
  match s.assets.upload with
  | none => s
  | some u =>
    match u.job with
    | none => s
    | some j => if s.assets.free then setAssets { s.assets with op := some ⟨.program j, s.clock.now⟩ } s else s

/-- The Retired mark at the head of the retire list is programmed (R174). -/
def markStart (s : State) : State :=
  match s.assets.op, s.assets.retireList with
  | none, first :: _ => setAssets { s.assets with op := some ⟨.mark first, s.clock.now⟩ } s
  | _, _ => s

/-! ### The end of a page program (R176 to R182) -/

/-- The page of a job. -/
def Job.target (u : Upload) : Job → Nat
  | .header => u.first
  | .page n => n
  | .completeMark => u.first

/-- Operations a notice names, in the order of R181. -/
def Job.code : Job → Nat
  | .header => 0
  | .page _ => 1
  | .completeMark => 2

/-- The memory after a successful program of the upload. -/
def programDone (j : Job) (u : Upload) (a : Assets) : Assets :=
  match j with
  | .header => { a with nor := norSet u.first (a.copyOf u.first) a.nor, upload := some { u with job := none } }
  | .page n =>
    { a with nor := norSet n (.content a.buffer) a.nor, buffer := [], upload := some { u with job := none, committed := u.committed + 1 } }
  | .completeMark =>
    closeUpload { a with nor := norMark u.first (fun h => { h with complete := true }) a.nor, records := setState u.first .complete a.records }

/-- The glyph codes, of 256, whose stored advance width is the greatest, 64 px (R170). -/
def fullWidthCodes (widths : List Nat) : List Nat := (List.range 256).filter (fun c => decide (widths.getD c 0 = 64))

/-- What the answer of a GlyphSet's UploadBegin reports of the advance widths stored: 64, and the codes that store it. A clamped width is
among them, and every other is stored as it was sent (R176, R197); 256 numbers would not fit an answer (R194; DEDUCED, log 13). An Image has
none. -/
def storedWidths : Page → List Atom
  | .header h =>
    match h.kind with
    | .glyphSet => nat 64 :: textAtoms (fullWidthCodes h.widths)
    | .image => []
  | .content _ => []
  | .unknown _ => []

/-- The answer of a successful program (R176, R178, R179); `head` is the copy of the header page as it was programmed. -/
def programReply (j : Job) (u : Upload) (head : Page) : Reply :=
  match j with
  | .header => ⟨.done, u.adjusted, [nat u.first, nat u.count] ++ storedWidths head⟩
  | .page n => ⟨.done, false, [nat n, nat (u.committed + 1)]⟩
  | .completeMark => ⟨.done, false, [nat u.id, nat u.first, nat u.count]⟩

/-- What a failed or cut-off program leaves in asset memory: free values (R181). -/
def programSpoil (j : Job) (u : Upload) (k : Nat) (nor : List (Nat × Page)) : List (Nat × Page) :=
  match j with
  | .header => keySet u.first (.unknown k) nor
  | .page n => keySet n (.unknown k) nor
  | .completeMark => norMark u.first (fun h => { h with complete := Config.unknownMark k }) nor

/-- The ports an UploadFailed goes to: the owner and the director port, or the director port alone when the owner was lost (R181). -/
def uploadFailedPorts (s : State) (u : Upload) : List PortId :=
  if u.orphan ∨ u.owner = s.director then [s.director] else [u.owner, s.director]

/-- A failed page program (R181). -/
def programFailed (j : Job) (u : Upload) (s : State) : State :=
  let a := closeUpload (retireRecord u.first u.count false { s.assets with op := none })
  let t : State := { s with assets := { a with nor := programSpoil j u s.free a.nor }, free := s.free + 1 }
  notifyAll (uploadFailedPorts s u) { kind := .uploadFailed, fields := [nat u.id, .named j.code, nat (j.target u)] }
    (tellUpload u.owner ⟨.failed, false, []⟩ t)

/-- The page program in flight ends (R174, R176 to R182); an upload whose owner was lost is then aborted. -/
def programEnd (ok : Bool) (s : State) : State :=
  match s.assets.op, s.assets.upload with
  | some ⟨.program j, _⟩, some u =>
    if ok then
      let done := programDone j u { s.assets with op := none }
      let a := if u.orphan then abortUpload u done else done
      tellUpload u.owner (programReply j u (s.assets.copyOf u.first)) (setAssets a s)
    else programFailed j u s
  | _, _ => s

/-! ### The end of a mark program (R174) -/

/-- The mark program in flight ends: the record leaves the retire list, and a failure queues MarkFailed (R174). -/
def markEnd (ok : Bool) (s : State) : State :=
  match s.assets.op with
  | some ⟨.mark first, _⟩ =>
    let a := s.assets
    let t := setAssets
      { a with op := none, retireList := a.retireList.erase first,
               nor := if ok then norMark first (fun h => { h with retired := true }) a.nor else a.nor } s
    if ok then t
    else
      let id := ((a.record first).map (fun e => e.id)).getD 0
      notify s.director { kind := .markFailed, fields := [nat id, nat first] } t
  | _ => s

/-! ### Reclaim (R184, R185) -/

/-- A page lies in a block (R169). -/
def inBlock (b p : Nat) : Bool := decide (p / 16 = b)

/-- A standing that lets a block be erased: Dirty, or part of a Retired record. -/
def Assets.disposable (a : Assets) : PageStanding → Bool
  | .dirty => true
  | .part first =>
    match a.record first with
    | some e => decide (e.state = .retired)
    | none => false

/-- A block qualifies (R184). -/
def Assets.qualifies (a : Assets) (b : Nat) : Bool :=
  let pages := a.pageMap.filter (fun e => inBlock b e.1)
  !pages.isEmpty && pages.all (fun e => a.disposable e.2)

/-- The Retired records whose header page lies in a block (R184, R185). -/
def Assets.leaving (a : Assets) (b : Nat) : List AssetRecord := a.records.filter (fun e => inBlock b e.first && decide (e.state = .retired))

/-- Pages of the records that left, outside the block, become Dirty (R184, R185). -/
def dirtied (gone : List AssetRecord) (map : List (Nat × PageStanding)) : List (Nat × PageStanding) :=
  map.map (fun e => if gone.any (fun x => decide (e.2 = .part x.first)) then (e.1, .dirty) else e)

/-- The directory and page map after a block's erase: its pages become Free, or Dirty when it failed (R184, R185). -/
def afterErase (b : Nat) (ok : Bool) (a : Assets) : Assets :=
  let gone := a.leaving b
  let rest := dirtied gone (a.pageMap.filter (fun e => !inBlock b e.1))
  let map := if ok then rest else (List.range 16).foldl (fun m n => keySet (16 * b + n) .dirty m) rest
  { a with op := none, pageMap := map, records := a.records.filter (fun e => !(inBlock b e.first && decide (e.state = .retired))) }

/-- What a failed or cut-off erase leaves in asset memory: sixteen free values. -/
def eraseSpoil (b k : Nat) (nor : List (Nat × Page)) : List (Nat × Page) :=
  (List.range 16).foldl (fun l n => keySet (16 * b + n) (.unknown (k + n)) l) nor

/-- The count of a reclaim after a block's erase; records that leave with one block stand in the order in which they were made (DESIGN CHOICE,
log 28). -/
def Reclaim.count (x : Reclaim) (ok : Bool) (freed : Nat) (gone : List AssetRecord) : Reclaim :=
  { x with erased := if ok then x.erased + 1 else x.erased, failed := if ok then x.failed else x.failed + 1,
           freed := if ok then x.freed + freed else x.freed, removed := x.removed ++ gone.map (fun e => e.id) }

/-- How many ids the answer of a reclaim has room for: 1,024 payload bytes, less flags, code, three numbers and the list's count, at 4 bytes
an id (R189, R190, R194). -/
def removedRoom : Nat := 252

/-- What the deferred answer of a reclaim carries (R184), the ids as far as the payload holds them: every answer fits within 1,024 payload
bytes (R194; DEDUCED, log 28). -/
def Reclaim.reply (x : Reclaim) : Reply :=
  ⟨.done, false, [nat x.erased, nat x.failed, nat x.freed] ++ listAtoms (fun n => [nat n]) (x.removed.take removedRoom)⟩

/-- The reclaim request a port waits for is answered; nothing for a port that was reset. -/
def answerReclaim (r : Reply) (x : Port) : Port :=
  match x.requests.find? (fun d =>
      match d with
      | .upload _ _ => false
      | .withdraw _ _ _ _ => false
      | .reclaim _ => true) with
  | some (.reclaim q) => answerDeferred q 53 r { x with requests := x.requests.erase (.reclaim q) }
  | _ => x

/-- The reclaim goes on, or ends with the last block and is answered (R184). -/
def reclaimOn (x : Reclaim) (s : State) : State :=
  if x.next < blockTotal then setAssets { s.assets with reclaim := some x } s
  else { s with assets := { s.assets with reclaim := none }, ports := updatePort s.ports x.asker (answerReclaim x.reply) }

/-- The reclaim judges its next block, on an idle memory with no mark pending (R184). -/
def judgeBlock (s : State) : State :=
  match s.assets.reclaim with
  | none => s
  | some x =>
    if !s.assets.free then s
    else if s.assets.qualifies x.next then
      setAssets { s.assets with op := some ⟨.erase x.next, s.clock.now⟩, reclaim := some { x with next := x.next + 1 } } s
    else reclaimOn { x with next := x.next + 1 } s

/-- The ports a ReclaimFailed goes to (R185): the director port once where it asked for the reclaim itself (DESIGN CHOICE, log 51). -/
def reclaimFailedPorts (s : State) (x : Reclaim) : List PortId := if x.asker = s.director then [s.director] else [x.asker, s.director]

/-- The block erase in flight ends (R184, R185). -/
def eraseEnd (ok : Bool) (s : State) : State :=
  match s.assets.op, s.assets.reclaim with
  | some ⟨.erase b, _⟩, some x =>
    let a := s.assets
    let freed := (a.pageMap.filter (fun e => inBlock b e.1)).length
    let y := x.count ok freed (a.leaving b)
    let n := afterErase b ok a
    if ok then reclaimOn y (setAssets { n with nor := a.nor.filter (fun e => !inBlock b e.1) } s)
    else
      let t : State := { s with assets := { n with nor := eraseSpoil b s.free a.nor }, free := s.free + 16 }
      reclaimOn y (notifyAll (reclaimFailedPorts s x) { kind := .reclaimFailed, fields := [nat b] } t)
  | _, _ => s

/-! ### Time limits (R174) -/

/-- The time limit of an operation, in ms (R174). -/
def OpKind.limit : OpKind → Nat
  | .program _ => 20
  | .mark _ => 20
  | .erase _ => 4000

/-- The operation in flight has reached its time limit. -/
def Assets.overdue (a : Assets) (now : Ms) : Bool :=
  match a.op with
  | none => false
  | some o => decide (o.kind.limit ≤ msSince now o.since)

/-- The operation in flight ends with the given result. -/
def opEnd (ok : Bool) (s : State) : State :=
  match s.assets.op with
  | none => s
  | some o =>
    match o.kind with
    | .program _ => programEnd ok s
    | .mark _ => markEnd ok s
    | .erase _ => eraseEnd ok s

/-- The operation in flight fails when its time limit has passed (R174). -/
def timeLimit (s : State) : State := if s.assets.overdue s.clock.now then opEnd false s else s

/-! ### Upload requests (R176 to R180) -/

/-- Checks 1 and 2 of UploadBegin: the kind, the dimensions and the widths, or the field at fault (R176). An Image without dimensions names the
width, and what the kind has no use for is not looked at (DESIGN CHOICE, log 26). -/
def uploadShape (u : UploadFields) : Except FieldName (AssetKind × Nat × Nat × List Nat) :=
  if !inRange 1 255 u.id then .error .id
  else
    match u.kind with
    | .unknown _ => .error .kind
    | .known .image =>
      match u.dims with
      | none => .error .width
      | some (w, h) => if !inRange 1 48 w then .error .width else if !inRange 1 16 h then .error .height else .ok (.image, w, h, [])
    | .known .glyphSet =>
      match u.widths with
      | none => .error .advanceWidths
      | some l => if l.length = 256 then .ok (.glyphSet, 0, 0, l) else .error .advanceWidths

/-- Whether UploadBegin clamps an advance width; its deferred answer carries it as Adjusted (R176). -/
def widthsHit (l : List Nat) : Bool := l.any (clampHits 0 64)

/-- Whether an id names a Writing or Complete record (R171). -/
def Assets.live (a : Assets) (id : Nat) : Bool := a.records.any (fun e => decide (e.id = id) && decide (e.state ≠ .retired))

/-- UploadBegin (R176). -/
def onUploadBegin (p : PortId) (q : Byte) (f : UploadFields) (s : State) : State × Ans :=
  match uploadShape f with
  | .error n => (s, .badValue n)
  | .ok (kind, w, h, widths) =>
    let a := s.assets
    let count := pageCountOf kind w h
    if a.upload.isSome || a.reclaim.isSome then (s, .refuse .busy)
    else if a.live f.id then (s, .refuse .exists_)
    else
      match firstFit count a.pageMap with
      | none => (s, .refuse .noSpace)
      | some first =>
        let head : Header :=
          { id := f.id, kind := kind, width := w, height := h, count := count, widths := widths.map (clamp 0 64),
            writing := true, complete := false, retired := false }
        let record : AssetRecord := { id := f.id, kind := kind, width := w, height := h, first := first, count := count, state := .writing }
        let upload : Upload :=
          { owner := p, id := f.id, first := first, count := count, committed := 0, job := none, orphan := false, adjusted := widthsHit widths }
        let b : Assets :=
          { a with pageMap := allocate first count a.pageMap, records := a.records ++ [record], copies := keySet first (.header head) a.copies,
                   buffer := [] }
        (setAssets (askProgram .header s.clock.now upload b) s, .deferred (.upload q 47))

/-- The open upload when the port owns it, or the refusal (R175); an upload whose owner was lost belongs to no port. -/
def ownUpload (p : PortId) (s : State) : Except Ans Upload :=
  match s.assets.upload with
  | none => .error (.refuse .noSuchThing)
  | some u => if u.owner = p ∧ u.orphan = false then .ok u else .error (.refuse .busy)

/-- UploadLoad (R177). An offset above 4,095 is named, and else the data, also where the two together pass 4,096 (DESIGN CHOICE, log 26); BadValue
comes before Busy (DESIGN CHOICE, log 19). -/
def onUploadLoad (p : PortId) (offset : Nat) (data : List Byte) (s : State) : State × Ans :=
  match ownUpload p s with
  | .error r => (s, r)
  | .ok u =>
    if 4095 < offset then (s, .badValue .offset)
    else if !inRange 1 256 data.length || decide (4096 < offset + data.length) then (s, .badValue .data)
    else if u.job.isSome then (s, .refuse .busy)
    else (setAssets { s.assets with buffer := cellsWrite s.assets.buffer offset data } s, .done [])

/-- UploadCommit (R178); Busy comes before Full, in the order of the rule (DESIGN CHOICE, log 19). -/
def onUploadCommit (p : PortId) (q : Byte) (s : State) : State × Ans :=
  match ownUpload p s with
  | .error r => (s, r)
  | .ok u =>
    if u.job.isSome || s.assets.reclaim.isSome then (s, .refuse .busy)
    else if u.count - 1 ≤ u.committed then (s, .refuse .full)
    else
      let n := u.first + 1 + u.committed
      (setAssets (askProgram (.page n) s.clock.now u { s.assets with copies := norSet n (.content s.assets.buffer) s.assets.copies }) s,
        .deferred (.upload q 49))

/-- UploadFinish (R179); Busy comes before Incomplete, in the order of the rule (DESIGN CHOICE, log 19). -/
def onUploadFinish (p : PortId) (q : Byte) (s : State) : State × Ans :=
  match ownUpload p s with
  | .error r => (s, r)
  | .ok u =>
    if u.job.isSome || s.assets.reclaim.isSome then (s, .refuse .busy)
    else if u.committed < u.count - 1 then (s, .refuse .incomplete)
    else (setAssets (askProgram .completeMark s.clock.now u s.assets) s, .deferred (.upload q 50))

/-- UploadAbort (R180). -/
def onUploadAbort (p : PortId) (s : State) : State × Ans :=
  match ownUpload p s with
  | .error r => (s, r)
  | .ok u => if u.job.isSome then (s, .refuse .busy) else (setAssets (abortUpload u s.assets) s, .done [])

/-! ### Library requests (R183, R184, R186) -/

/-- AssetRetire (R183); the answer carries the state with Done alone (DESIGN CHOICE, log 45). -/
def onAssetRetire (id : Nat) (s : State) : State × Ans :=
  if !inRange 1 255 id then (s, .badValue .id)
  else
    match s.assets.named id with
    | none => (s, .refuse .noSuchThing)
    | some e =>
      match e.state with
      | .writing => (s, .refuse .busy)
      | .retired => (s, .done [.named (assetStateCode .retired)])
      | .complete =>
        if pinned s id then (s, .refuse .pinned)
        else (setAssets (retireRecord e.first e.count true s.assets) s, .done [.named (assetStateCode .retired)])

/-- AssetReclaim (R184): answered at once when no block qualifies on an idle memory, deferred otherwise. -/
def onAssetReclaim (p : PortId) (q : Byte) (s : State) : State × Ans :=
  let a := s.assets
  let x : Reclaim := { asker := p, next := 0, erased := 0, failed := 0, freed := 0, removed := [] }
  if a.reclaim.isSome || (match a.upload with
                          | some u => u.job.isSome
                          | none => false) then (s, .refuse .busy)
  else if a.free && !a.pageMap.any (fun e => a.qualifies (e.1 / 16)) then (s, .reply x.reply)
  else (setAssets { a with reclaim := some x } s, .deferred (.reclaim q))

/-- A record as AssetList gives it (R186). -/
def recordAtoms (s : State) (e : AssetRecord) : List Atom :=
  [nat e.id, .named (kindCode e.kind)] ++ (match e.kind with
                                           | .image => [.present, nat e.width, nat e.height]
                                           | .glyphSet => [.absent])
    ++ [nat e.first, nat e.count, nat (s.assets.held e.first), .named (assetStateCode e.state), .flag (s.assets.retireList.contains e.first)]
    ++ (if e.state = .complete then [.present, nat (claimPins s e.id), nat (spotPins s e.id), nat (regionPins s e.id)] else [.absent])

/-- The records in the order of AssetList: by id, and within an id by first page (R186). -/
def listOrder (l : List AssetRecord) : List AssetRecord := sortBy (fun e => e.id) (sortBy (fun e => e.first) l)

/-- A record stands before the place a start id and page give in the order of AssetList (R186). -/
def AssetRecord.before (id page : Nat) (e : AssetRecord) : Bool := decide (e.id < id) || (decide (e.id = id) && decide (e.first < page))

/-- The totals every AssetList answer carries (R186). An upload whose owner was lost is given with the port that owned it (DESIGN CHOICE,
log 25), and a reclaim whose last block is being erased with 1,024 as the next block (DESIGN CHOICE, log 47). -/
def libraryTotals (a : Assets) : List Atom :=
  let run := longestRunFrom 0 (0, Config.emptyRunPage) a.pageMap
  [nat (pageTotal - a.pageMap.length), nat (a.pageMap.filter (fun e => decide (e.2 = .dirty))).length, nat run.1, nat run.2,
    nat a.retireList.length]
    ++ optAtoms (fun (u : Upload) => [nat u.owner.val, nat u.id, nat u.committed]) a.upload
    ++ optAtoms (fun (x : Reclaim) => [nat x.next]) a.reclaim

/-- AssetList (R186, R194). -/
def onAssetList (startId startPage : Option Nat) (s : State) : State × Ans :=
  let records := listOrder s.assets.records
  let start := (records.filter (AssetRecord.before (startId.getD 0) (startPage.getD 0))).length
  let more (n : Nat) : List Atom :=
    match records[n]? with
    | some e => [.present, nat e.id, nat e.first]
    | none => [.absent]
  (s, .done (pageAnswer (libraryTotals s.assets) [records.map (recordAtoms s)] start 9 more))

/-! ### The start-up scan (R187) -/

/-- A valid header at page `p` (R187), of a page that reads as a header and so has passed the check over its identity (DESIGN CHOICE, log 27). -/
def headerValid (p : Nat) (h : Header) : Bool :=
  (match h.kind with
   | .image => inRange 1 48 h.width && inRange 1 16 h.height
   | .glyphSet => true)
    && decide (h.count = pageCountOf h.kind h.width h.height) && decide (p + h.count ≤ pageTotal)

/-- The state a header reads: its last mark programmed (R171). -/
def headerState (h : Header) : Option AssetState :=
  if h.retired then some .retired else if h.complete then some .complete else if h.writing then some .writing else none

/-- The scan as it walks: the next page to read, and what it has made. -/
structure Scan where
  next : Nat
  assets : Assets
  deriving DecidableEq, Repr

/-- The directory record of a header found at page `p`. -/
def headerRecord (p : Nat) (st : AssetState) (h : Header) : AssetRecord :=
  { id := h.id, kind := h.kind, width := h.width, height := h.height, first := p, count := h.count, state := st }

/-- The show-memory copies of a run, from asset memory (R172). -/
def runCopies (first count : Nat) (head : Header) (nor : List (Nat × Page)) : List (Nat × Page) :=
  (first, .header head) :: nor.filter (fun e => decide (first < e.1) && decide (e.1 < first + count))

/-- The scan meets a page that is not a valid header: Free when it reads erased, and Dirty otherwise (R187). -/
def Scan.other (x : Scan) (p : Nat) (r : PageReading) : Scan :=
  if r = .erased then { x with next := p + 1 }
  else { next := p + 1, assets := { x.assets with pageMap := x.assets.pageMap ++ [(p, .dirty)] } }

/-- The scan meets a whole run that it retires: its Retired mark is programmed, or the failure is counted (R187). -/
def Scan.retire (failed : List Nat) (x : Scan) (p : Nat) (h : Header) : Scan :=
  let a := x.assets
  let b : Assets := { a with pageMap := a.pageMap ++ runPart p h.count, records := a.records ++ [headerRecord p .retired h] }
  { next := p + h.count,
    assets := if failed.contains p then { b with scanFailures := b.scanFailures + 1 }
              else { b with nor := norMark p (fun g => { g with retired := true }) b.nor } }

/-- One valid header of the scan (R187). -/
def Scan.header (nor : List (Nat × Page)) (failed : List Nat) (x : Scan) (p : Nat) (h : Header) : Scan :=
  let a := x.assets
  match headerState h with
  | none => x.other p .other
  | some .retired =>
    { next := p + 1, assets := { a with pageMap := a.pageMap ++ [(p, .part p)], records := a.records ++ [headerRecord p .retired h] } }
  | some .writing => x.retire failed p h
  | some .complete =>
    if (a.complete h.id).isSome then x.retire failed p h
    else
      { next := p + h.count,
        assets := { a with pageMap := a.pageMap ++ runPart p h.count, records := a.records ++ [headerRecord p .complete h],
                           copies := a.copies ++ runCopies p h.count h nor } }

/-- The scan reads a listed page of asset memory that it has not passed; an unlisted page is Free (R187). -/
def Scan.page (nor : List (Nat × Page)) (failed : List Nat) (x : Scan) (e : Nat × Page) : Scan :=
  if e.1 < x.next then x
  else
    match e.2.reading with
    | .header h => if headerValid e.1 h then x.header nor failed e.1 h else x.other e.1 .other
    | .erased => x.other e.1 .erased
    | .other => x.other e.1 .other

/-- The start-up scan ends (R187); `failed` lists the header pages whose Retired mark it failed to program. -/
def scanEnd (failed : List Nat) (s : State) : State :=
  if s.assets.scanned then s
  else
    let nor := s.assets.nor
    let x := nor.foldl (Scan.page nor failed) { next := 0, assets := s.assets }
    setAssets { x.assets with scanned := true } s

/-! ### Device reset (R187) -/

/-- What a device reset leaves in asset memory: what stood there, with an operation in flight cut off (free values, log 15). -/
def norAtReset (s : State) : List (Nat × Page) :=
  match s.assets.op, s.assets.upload with
  | some ⟨.program j, _⟩, some u => programSpoil j u s.free s.assets.nor
  | some ⟨.mark first, _⟩, _ => norMark first (fun h => { h with retired := Config.unknownMark s.free }) s.assets.nor
  | some ⟨.erase b, _⟩, _ => eraseSpoil b s.free s.assets.nor
  | _, _ => s.assets.nor

end Sys2Proof.Machine
end

