-- ==== Sys2Proof/Machine/Captures.lean ====
section
/-! DEFINITION. The Capture Slots (R109 to R116): the capture event, and the requests Capture and TakeCapture. -/

namespace Sys2Proof.Machine

/-- The capture counter after one more event: from 65535 it goes to 1 (R109). -/
def nextCaptureNumber (n : Nat) : Nat := if 65535 ≤ n then 1 else n + 1

/-- The lowest-numbered free slot, if one is free (R110). -/
def freeSlot (held : List (Fin 2 × Capture)) : Option (Fin 2) :=
  if !held.any (fun e => decide (e.1 = 0)) then some 0
  else if !held.any (fun e => decide (e.1 = 1)) then some 1
  else none

/-- The capture the Clock Unit hands over: the clock as the event leaves it (R105, R109). -/
def captureNow (source : CaptureSource) (port : Option PortId) (number : Nat) (s : State) : Capture :=
  { number := number, source := source, port := port, frame := s.frame, ms := s.clock.now, main := s.clock.main,
    possession := s.clock.possession, state := s.clock.state, period := s.clock.period }

/-- The CaptureReady notice of a stored capture (R111), the port sent as a number (DESIGN CHOICE, log 7). -/
def captureReady (c : Capture) (held : Nat) : Notice :=
  { kind := .captureReady,
    fields := [nat c.number, .named (captureCode c.source)] ++ optAtoms (fun (p : PortId) => [nat p.val]) c.port
      ++ [frameAtom c.frame, nat held] }

def setCaptures (x : Captures) (s : State) : State := { s with captures := x }

/-- A capture event (R110): the counter rises; the capture is stored with its CaptureReady, or is lost and Overflow is set. -/
def captureEvent (source : CaptureSource) (port : Option PortId) (s : State) : State :=
  let n := nextCaptureNumber s.captures.counter
  let c := captureNow source port n s
  match freeSlot s.captures.held with
  | none => setCaptures { s.captures with counter := n, overflow := true } s
  | some slot =>
    let held := s.captures.held ++ [(slot, c)]
    notifyAll (s.portsOf [.replay, .scoring]) (captureReady c held.length) (setCaptures { s.captures with held := held, counter := n } s)

/-- Capture (R112). -/
def onCapture (p : PortId) (s : State) : State × Ans :=
  let stored := (freeSlot s.captures.held).isSome
  let t := captureEvent .request (some p) s
  (t, .done [nat t.captures.counter, .flag stored, .flag t.captures.overflow])

/-- The fields of a capture, in the order of R109; a live snapshot has no number and no port, and source Live (R113, R114). The port is sent
as a number, and a snapshot has its fields in the order of a capture's (DESIGN CHOICE, log 7). -/
def captureAtoms (number : Option Nat) (source : Nat) (c : Capture) : List Atom :=
  optNat number ++ [.named source] ++ optAtoms (fun (p : PortId) => [nat p.val]) c.port
    ++ [frameAtom c.frame, .ms c.ms, nat c.main, nat c.possession, .named (mainStateCode c.state), nat c.period]

/-- The source of the oldest capture held, or none (R113). -/
def oldestSource (held : List (Fin 2 × Capture)) : List Atom :=
  optAtoms (fun (e : Fin 2 × Capture) => [.named (captureCode e.2.source)]) held.head?

/-- The place of source Live, after the sources of R109 (R114). -/
def captureLive : Nat := 4

/-- TakeCapture (R113, R114). A snapshot's answer has the order of R113's (DESIGN CHOICE, log 7). -/
def onTakeCapture (s : State) : State × Ans :=
  let x := s.captures
  let t := setCaptures { x with held := x.held.tail, overflow := false } s
  match x.held with
  | e :: rest =>
    (t, .done (captureAtoms (some e.2.number) (captureCode e.2.source) e.2 ++ oldestSource rest ++ [.flag x.overflow, nat rest.length]))
  | [] =>
    (t, .done (captureAtoms none captureLive (captureNow .request none 0 s) ++ oldestSource [] ++ [.flag x.overflow, nat 0]))

end Sys2Proof.Machine
end

