-- ==== Sys2Proof/Machine/Canvas.lean ====
section
/-! DEFINITION. The Screen Canvas (R1 to R17): defining, deleting and reading regions, the fill colours and GoLive. -/

namespace Sys2Proof.Machine

/-- A region covers a tile when the tile's column and row lie in its rectangle (R1). -/
def Region.covers (g : Region) (c r : Nat) : Bool :=
  decide (g.col ≤ c) && decide (c < g.col + g.width) && decide (g.row ≤ r) && decide (r < g.row + g.height)

/-- Two rectangles share a tile (R1, R7). -/
def Region.overlaps (a b : Region) : Bool :=
  decide (a.col < b.col + b.width) && decide (b.col < a.col + a.width)
    && decide (a.row < b.row + b.height) && decide (b.row < a.row + a.height)

/-- The record DefineRegion would store: absent fields take their defaults of R2, numeric settings are clamped (R6). -/
def defineRecord (d : DefineFields) (policy : FaultPolicy) (view : ViewBinding) : Region :=
  { layer := d.layer, col := d.col, row := d.row, width := d.width, height := d.height,
    dwell := clampOr 0 600 30 d.dwell, sponsor := d.sponsor.getD false, message := d.message.getD false,
    stoppage := d.stoppage.getD false, policy := policy, holdLimit := clampOr 0 300 60 d.holdLimit,
    fill := clampOr 0 7 0 d.fill, view := view, glyphSet := d.glyphSet, lastChange := none }

/-- Check 4 of R7: the first geometry field at fault, in the order col, row, width, height. A sum that passes the grid is laid to the
width or the height (DEDUCED, log 10). -/
def badGeometry (d : DefineFields) : Option FieldName :=
  if !inRange 0 47 d.col then some .col
  else if !inRange 0 15 d.row then some .row
  else if !inRange 1 48 d.width || decide (48 < d.col + d.width) then some .width
  else if !inRange 1 16 d.height || decide (16 < d.row + d.height) then some .height
  else none

/-- Check 8 of R7: the lowest other defined region of the same layer that shares a tile. -/
def overlapping (s : State) (id : RegionId) (g : Region) : Option RegionId :=
  allRegions.find? (fun r =>
    decide (r ≠ id)
      && (match s.region r with
          | some o => decide (o.layer = g.layer) && o.overlaps g
          | none => false))

/-- The region has a holder or at least one waiting claim. -/
def RegionClaims.busy (x : RegionClaims) : Bool := x.holder.isSome || !x.waiting.isEmpty

/-- A changed region: no claim stands on it, and both engines settle their interest in it (R8, R9), the Rotation Engine first (DESIGN CHOICE,
log 37). Its wait count is 0 until its next evaluation (DESIGN CHOICE, log 42). -/
def regionChanged (r : RegionId) (g : Option Region) (s : State) : State :=
  let t := (s.setRegion r g).setClaims r { s.claims r with seenWaiting := 0 }
  settle .message r (settle .rotation r t)

/-- Checks 5 to 9 of R7 on the record that would be stored. -/
def defineChecked (d : DefineFields) (r : RegionId) (g : Region) (s : State) : State × Ans :=
  if g.fixed && (g.sponsor || g.message || g.stoppage) then (s, .badValue .viewBinding)
  else if (g.fixed || g.message) && g.glyphSet.isNone then (s, .badValue .glyphSet)
  else if (match g.glyphSet with
           | some a => !s.assets.isComplete .glyphSet a
           | none => false) then (s, .badValue .glyphSet)
  else
    match overlapping s r g with
    | some o => (s, .reply ⟨.overlaps, false, [nat o.val]⟩)
    | none =>
      if (s.claims r).busy then (s, .refuse .busy)
      else
        (regionChanged r (some g) s,
          .doneAdjusted (clampHitsOpt 0 600 d.dwell || clampHitsOpt 0 300 d.holdLimit || clampHitsOpt 0 7 d.fill)
            [nat g.dwell, nat g.holdLimit, nat g.fill])

/-- DefineRegion (R6, R7, R8). The values stored that its answer reports are the three R6 clamps (DESIGN CHOICE, log 13). -/
def onDefineRegion (d : DefineFields) (s : State) : State × Ans :=
  if s.live then (s, .refuse .wrongMode)
  else
    match toRegion d.id with
    | none => (s, .badValue .id)
    | some r =>
      if r = 0 then (s, .badValue .id)
      else if !inRange 1 3 d.layer then (s, .badValue .layer)
      else
        match badGeometry d with
        | some f => (s, .badValue f)
        | none =>
          match d.policy.getD (.known .hold), d.view.getD (.known .none) with
          | .unknown _, _ => (s, .badValue .faultPolicy)
          | .known _, .unknown _ => (s, .badValue .viewBinding)
          | .known policy, .known view => defineChecked d r (defineRecord d policy view) s

/-- DeleteRegion (R9). -/
def onDeleteRegion (id : Nat) (s : State) : State × Ans :=
  if s.live then (s, .refuse .wrongMode)
  else
    match toRegion id with
    | none => (s, .badValue .id)
    | some r =>
      if r = 0 then (s, .badValue .id)
      else if (s.region r).isNone then (s, .refuse .noSuchThing)
      else if (s.claims r).busy then (s, .refuse .busy)
      else (regionChanged r none s, .done [])

/-- SetBase (R10). -/
def onSetBase (fill dwell : Option Nat) (s : State) : State × Ans :=
  if s.live then (s, .refuse .wrongMode)
  else
    match s.region 0 with
    | none => (s, .refuse .noSuchThing)
    | some g =>
      let h := { g with fill := clampOr 0 7 g.fill fill, dwell := clampOr 0 600 g.dwell dwell }
      (s.setRegion 0 (some h), .doneAdjusted (clampHitsOpt 0 7 fill || clampHitsOpt 0 600 dwell) [nat h.fill, nat h.dwell])

/-- SetFill (R11). -/
def onSetFill (pattern red green blue : Nat) (s : State) : State × Ans :=
  if h : pattern < 8 then
    let c : Colour := ⟨clamp 0 255 red, clamp 0 255 green, clamp 0 255 blue⟩
    ({ s with canvas := { s.canvas with colours := s.canvas.colours.set pattern c h } },
      .doneAdjusted (clampHits 0 255 red || clampHits 0 255 green || clampHits 0 255 blue) [nat c.red, nat c.green, nat c.blue])
  else (s, .badValue .pattern)

/-- The fields of a region record, in the order of R2. R12 returns the fields of R3 for region 0, and R3 names them in another order and without the
last-change frame: the model gives region 0's record in the order of R2 and with its last-change frame too, so that the answer has one form (DESIGN
CHOICE, log 7). -/
def regionAtoms (g : Region) : List Atom :=
  [nat g.layer, nat g.col, nat g.row, nat g.width, nat g.height, nat g.dwell, .flag g.sponsor, .flag g.message, .flag g.stoppage,
    .named (policyCode g.policy), nat g.holdLimit, nat g.fill] ++ viewAtoms g.view ++ optNat g.glyphSet ++ optFrame g.lastChange

/-- A holder as ReadRegion gives it: claimant, tag and content kind (R12). The claimant, a port too, is the named value of R19's list (DESIGN CHOICE,
log 7). -/
def holderAtoms (c : Claim) : List Atom := [.named (claimantCode c.claimant), nat c.tag, .named (contentCode c.content)]

/-- ReadRegion (R12, R35). The flag that says whether the region is defined stands alone before its record, its holder and its wait count: no
presence byte follows it, and nothing follows it for a region that is not defined (DESIGN CHOICE, log 7). -/
def onReadRegion (id : Nat) (s : State) : State × Ans :=
  match toRegion id with
  | none => (s, .badValue .id)
  | some r =>
    match s.region r with
    | none => (s, .done [.flag false])
    | some g =>
      (s, .done ([.flag true] ++ regionAtoms g ++ optAtoms holderAtoms (s.claims r).holder ++ [nat (s.claims r).seenWaiting]))

/-- GoLive (R15). -/
def onGoLive (s : State) : State × Ans := ({ s with canvas := { s.canvas with mode := .live } }, .done [])

end Sys2Proof.Machine
end

