-- ==== Sys2Proof/Machine/Tiles.lean ====
section
/-! DEFINITION. What a composed map gives at each tile (R49 to R52): the supplying region and the content it supplies. -/

namespace Sys2Proof.Machine

/-- A plane covers a tile when the tile lies in its rectangle (R1). -/
def Plane.covers (p : Plane) (c r : Nat) : Bool :=
  decide (p.col ≤ c) && decide (c < p.col + p.width) && decide (p.row ≤ r) && decide (r < p.row + p.height)

/-- A picture supplies input tile (column, row) when it has that tile (R50). -/
def Picture.has (f : Picture) (c r : Nat) : Bool := decide (c < f.width) && decide (r < f.height)

/-- The tile of a picture at a column and row, in tile order (R54). -/
def Picture.at (f : Picture) (c r : Nat) : Nat := f.tiles.getD (r * f.width + c) 0

/-- A presentable plane leaves a tile empty outside its picture, or everywhere in a blanked Possession view (R50). -/
def Plane.transparent (p : Plane) (c r : Nat) : Bool :=
  match p.content with
  | .picture _ _ none => true
  | .picture _ _ (some f) => !f.has (c - p.col) (r - p.row)
  | .view _ blanked _ _ _ => blanked
  | .none => true
  | .asset _ _ => false
  | .spot _ _ _ _ => false
  | .crawl _ _ _ _ _ => false
  | .fill _ _ => false

/-- A plane supplies a tile it covers when it is presentable and not transparent there (R51). -/
def Plane.supplies (p : Plane) (c r : Nat) : Bool := p.covers c r && p.presentable && !p.transparent c r

/-- The plane of the supplying region of a tile: the first from the highest layer down, or the base (R51). -/
def ComposedMap.supplier (m : ComposedMap) (c r : Nat) : Plane := (m.planes.find? (fun p => p.supplies c r)).getD m.base

/-- The supplying region of a tile. -/
def ComposedMap.region (m : ComposedMap) (c r : Nat) : RegionId := (m.supplier c r).region

/-- A glyph falls on the tile at column `c` and row `r` of its region. The glyph's cell is taken as its advance width by 64 px (DEDUCED, log 12). -/
def Glyph.onTile (g : Glyph) (c r : Nat) : Bool :=
  decide (g.left < 64 * (c : Int) + 64) && decide (64 * (c : Int) < g.left + g.advance)
    && decide (g.top < 64 * r + 64) && decide (64 * r < g.top + 64)

/-- The two content pages of tile (c, r) of an asset (R170). -/
def AssetCopy.tile (a : AssetCopy) (c r : Nat) : List Page := (a.pages.drop (2 * (r * a.width + c))).take 2

/-- What a plane supplies at a tile it supplies (R50, R52); `back` is what stands in for a plane with nothing there. -/
def Plane.at (p : Plane) (back : TileContent) (c r : Nat) : TileContent :=
  let tc := c - p.col
  let tr := r - p.row
  match p.content with
  | .picture i held (some f) => .picture i tc tr held (f.at tc tr)
  | .picture _ _ none => back
  | .asset id copy => .asset id tc tr (copy.tile tc tr)
  | .spot spot contract asset copy => .spot spot contract asset tc tr (copy.tile tc tr)
  | .view v _ glyphs fill colour => .view v (glyphs.filter (fun g => g.onTile tc tr)) fill colour
  | .crawl q tag glyphs fill colour => .crawl q tag (glyphs.filter (fun g => g.onTile tc tr)) fill colour
  | .fill n colour => .fill n colour
  | .none => back

/-- The content of a tile in a composed map; region 0 falls back on its own fill pattern (R51, R52). -/
def ComposedMap.content (m : ComposedMap) (c r : Nat) : TileContent :=
  let p := m.supplier c r
  let back : TileContent := .fill m.baseFill m.baseColour
  if p.transparent c r then back else p.at back c r

/-- The link that serves a tile row (R63). -/
def linkOfRow (r : Nat) : Nat := r / 2

/-- The chain index of a tile on its link (R63). -/
def chainIndex (c r : Nat) : Nat := if r % 2 = 0 then c else 48 + c

/-- The column and row of chain tile `i` of link `k` (R63). -/
def chainTile (k i : Nat) : Nat × Nat := if i < 48 then (i, 2 * k) else (i - 48, 2 * k + 1)

end Sys2Proof.Machine
end

