-- ==== Sys2Proof/Machine/Exposure.lean ====
section
/-! DEFINITION. Exposure Accounting (R138 to R148): the tally of a frame, expected exposure, lag and rollover. -/

namespace Sys2Proof.Machine

/-- The largest accrued exposure and history total (R138). -/
def exposureMax : Nat := 4294967295

/-! ### The tally (R139 to R143) -/

/-- A tile is delivered when the record of the link that serves its row marks it delivered (R74). -/
def deliveredIn (records : List DeliveryRecord) (c r : Nat) : Bool :=
  records.any (fun d => decide (d.link.val = linkOfRow r) && d.delivered.contains (chainIndex c r))

/-- The tiles of a plane, as columns and rows. -/
def Plane.tiles (p : Plane) : List (Nat × Nat) :=
  (List.range p.height).flatMap (fun y => (List.range p.width).map (fun x => (p.col + x, p.row + y)))

/-- Vr: the tiles of region r that r supplied and a link delivered (R141). -/
def visibleTiles (m : ComposedMap) (records : List DeliveryRecord) (r : RegionId) : Nat :=
  match m.planes.find? (fun p => decide (p.region = r)) with
  | none => 0
  | some p => (p.tiles.filter (fun t => decide (m.region t.1 t.2 = r) && deliveredIn records t.1 t.2)).length

/-- qr = floor(256 × Vr / Tr) (R141). -/
def visibility (m : ComposedMap) (records : List DeliveryRecord) (e : SpotEntry) : Nat := 256 * visibleTiles m records e.region / e.tiles

/-- The credit of a spot-list entry under a contract's Qmin (R141). -/
def entryCredit (m : ComposedMap) (records : List DeliveryRecord) (qmin : Nat) (e : SpotEntry) : Nat :=
  let q := visibility m records e
  if qmin ≤ q then q else 0

/-- A contract's frame credit: the sum over its spot-list entries, capped at 256 (R142). -/
def frameCredit (m : ComposedMap) (records : List DeliveryRecord) (c : Contract) : Nat :=
  min 256 (((m.spots.filter (fun e => decide (e.contract = c.terms.id))).map (entryCredit m records c.terms.qmin)).foldl (fun a b => a + b) 0)

/-- A contract that appears in the spot list. -/
def inSpotList (m : ComposedMap) (c : Contract) : Bool := m.spots.any (fun e => decide (e.contract = c.terms.id))

/-- One account after the tally of a frame: it accrues in Live, and in Setup its last credit becomes 0 (R143). -/
def tallyContract (live : Bool) (m : ComposedMap) (records : List DeliveryRecord) (c : Contract) : Contract :=
  if inSpotList m c then
    if live then
      { c with accrued := min exposureMax (c.accrued + frameCredit m records c), lastCredit := some (frameCredit m records c, m.frame) }
    else { c with lastCredit := some (0, m.frame) }
  else c

/-- The tally of a frame from its kept map and its eight records (R140 to R143); the map is kept no longer (R52). -/
def tally (m : ComposedMap) (records : List DeliveryRecord) (s : State) : State :=
  { s with
    rotation := { s.rotation with contracts := s.rotation.contracts.map (tallyContract s.live m records) }
    exposure := { s.exposure with lastTallied := some m.frame }
    comp := { s.comp with previous := none } }

/-- The kept map of a frame: that of the frame before, until it is tallied (R52). -/
def keptMap (s : State) (f : FrameNo) : Option ComposedMap :=
  match s.comp.previous with
  | some m => if m.frame = f then some m else none
  | none => none

/-- A delivery record is handed over; with all eight of its frame the tally is taken and they are released (R139). -/
def takeRecord (d : DeliveryRecord) (s : State) : State :=
  let records := s.exposure.records ++ [d]
  let mine := records.filter (fun x => decide (x.frame = d.frame))
  let t := { s with exposure := { s.exposure with records := records } }
  if mine.length = 8 then
    let u := { t with exposure := { t.exposure with records := records.filter (fun x => !decide (x.frame = d.frame)) } }
    match keptMap u d.frame with
    | some m => tally m mine u
    | none => u
  else t

/-! ### Expected exposure and lag (R145 to R147) -/

/-- The target in exposure units (R145). -/
def targetUnits (fps : Nat) (c : ContractTerms) : Nat := c.target * 256 * fps

/-- elapsed = L − R, clamped to 0..L (R146). -/
def elapsed (k : Clock) : Nat := k.length - k.main

/-- Expected exposure: floor(target × elapsed / L) (R146). -/
def expected (fps : Nat) (k : Clock) (c : ContractTerms) : Nat := targetUnits fps c * elapsed k / k.length

/-- Lag: expected less accrued, clamped to a 32-bit signed range (R147). -/
def lag (fps : Nat) (k : Clock) (c : Contract) : Int :=
  clampInt (-2147483648) 2147483647 ((expected fps k c.terms : Int) - (c.accrued : Int))

/-! ### Rollover (R148) -/

/-- A total added to the history entry of period p, or a new entry in period order (R148). -/
def addHistory (p total : Nat) (h : List (Nat × Nat)) : List (Nat × Nat) :=
  keySet p (min exposureMax ((keyGet p h).getD 0 + total)) h

/-- The rollover of one account: A goes to history and becomes 0, last credit is kept (R148). -/
def rollContract (p : Nat) (c : Contract) : Contract := { c with history := addHistory p c.accrued c.history, accrued := 0 }

end Sys2Proof.Machine
end

