-- ==== Sys2Proof/Machine/Rotation.lean ====
section
/-! DEFINITION. Sponsor Rotation (R117 to R135): the build, replacement and period boundary, the engine's part of an evaluation,
and the rotation requests; and ReadExposure (R149). -/

namespace Sys2Proof.Machine

/-! ### Contracts and spots -/

/-- A contract as it is added to the active rotation (R125). -/
def Contract.fresh (t : ContractTerms) : Contract :=
  { terms := t, suspended := false, accrued := 0, history := [], lastCredit := none, cut := 0, shown := 0 }

/-- A contract of the active rotation by id. -/
def Rotation.contract (x : Rotation) (id : Nat) : Option Contract := x.contracts.find? (fun c => decide (c.terms.id = id))

/-- A spot of the active rotation by id. -/
def Rotation.spot (x : Rotation) (id : Nat) : Option Spot := x.spots.find? (fun t => decide (t.id = id))

/-- One contract of the active rotation changed by `f`. -/
def changeContract (id : Nat) (f : Contract → Contract) (s : State) : State :=
  { s with rotation := { s.rotation with contracts := s.rotation.contracts.map (fun c => if c.terms.id = id then f c else c) } }

/-- The cut and shown counts saturate at 65535 (R117). -/
def Contract.countCut (c : Contract) : Contract := { c with cut := min 65535 (c.cut + 1) }

def Contract.countShown (c : Contract) : Contract := { c with shown := min 65535 (c.shown + 1) }

/-- The region a spot is showing in, or none (R118). -/
def showingIn (s : State) (spot : Nat) : Option RegionId :=
  allRegions.find? (fun r =>
    match s.currentSpot r with
    | some x => decide (x.spot = spot)
    | none => false)

/-- A spot's run length in a region: the greater of its slot length and the region's dwell (R129). -/
def runLength (g : Region) (t : Spot) : Nat := max t.slot g.dwell

/-! ### The engine's part of an evaluation (R127 to R130) -/

/-- Before the leave stage: the frames run of a region the engine held rises, and the spot completes at its run length (R129). -/
def countSpot (r : RegionId) (g : Region) (s : State) : State :=
  if (s.claims r).heldBy (.engine .rotation) then
    match s.currentSpot r with
    | none => s
    | some x =>
      match s.rotation.spot x.spot with
      | none => s.setCurrentSpot r none
      | some t =>
        if runLength g t ≤ x.run + 1 then changeContract t.contract Contract.countShown (s.setCurrentSpot r none)
        else s.setCurrentSpot r (some { x with run := x.run + 1 })
  else s

/-- The engine's claim left the region: a spot that has not completed is cut (R130). -/
def cutSpot (r : RegionId) (s : State) : State :=
  match s.currentSpot r with
  | none => s
  | some x =>
    match s.rotation.spot x.spot with
    | none => s.setCurrentSpot r none
    | some t => changeContract t.contract Contract.countCut (s.setCurrentSpot r none)

/-- Whether a spot is a candidate for a region (R128). -/
def spotCandidate (s : State) (r : RegionId) (g : Region) (t : Spot) : Bool :=
  t.regions.contains r.val
    && (match s.assets.complete t.asset with
        | some e => decide (e.width = g.width) && decide (e.height = g.height)
        | none => false)
    && (match s.rotation.contract t.contract with
        | some c => !c.suspended
        | none => false)
    && (showingIn s t.id).isNone

/-- The lag of a spot's contract at this moment (R128, R147). -/
def spotLag (s : State) (t : Spot) : Int :=
  match s.rotation.contract t.contract with
  | some c => lag (Config.fps s.ratesel) s.clock c
  | none => 0

/-- The greatest of a list of lags, or 0 when none is above 0. -/
def greatestLag (l : List Int) : Int := l.foldl max 0

/-- The positions of the active rotation taken cyclically after the pointer, with their spots (R128). -/
def cyclicSpots (x : Rotation) : List (Nat × Spot) :=
  let all := (List.range x.spots.length).zip x.spots |>.map (fun e => (e.1 + 1, e.2))
  all.filter (fun e => decide (x.pointer < e.1)) ++ all.filter (fun e => !decide (x.pointer < e.1))

/-- The spot a selection chooses for a region, with its position (R128). -/
def chooseSpot (s : State) (r : RegionId) (g : Region) : Option (Nat × Spot) :=
  let candidates := (cyclicSpots s.rotation).filter (fun e => spotCandidate s r g e.2)
  let best := greatestLag (candidates.map (fun e => spotLag s e.2))
  if 0 < best then candidates.find? (fun e => decide (spotLag s e.2 = best)) else candidates.head?

/-- A selection for a region (R128). -/
def selectSpot (r : RegionId) (g : Region) (s : State) : State :=
  match chooseSpot s r g with
  | none => s
  | some e =>
    ({ s with rotation := { s.rotation with pointer := e.1 } }).setCurrentSpot r (some { spot := e.2.id, run := 0 })

/-- The Rotation Engine acts on the result of an evaluation: a cut, a settling after a Drop, a selection (R126, R127, R130). A claim
that left under a Keep mark and became holder again at the same evaluation (R37) has its spot cut and a fresh one selected there (DESIGN CHOICE,
log 49). -/
def rotationAct (r : RegionId) (g : Region) (v : Verdict) (s : State) : State :=
  let t :=
    match v.left with
    | none => s
    | some h =>
      if h.claimant = .engine .rotation then
        let u := cutSpot r s
        if h.mark = some .dropRelease then settle .rotation r u else u
      else s
  if (t.claims r).heldBy (.engine .rotation) && (t.currentSpot r).isNone then selectSpot r g t else t

/-! ### Replacement and period boundary (R125, R132, R133) -/

/-- Cause codes of ContractReport (R133). -/
def causeCommit : Nat := 0
def causePromotion : Nat := 1

def historyAtoms (h : List (Nat × Nat)) : List Atom := listAtoms (fun e => [nat e.1, nat e.2]) h

/-- A ContractReport (R133). -/
def contractReport (f : FrameNo) (cause : Nat) (c : Contract) : Notice :=
  { kind := .contractReport,
    fields := [frameAtom f, nat c.terms.id] ++ textAtoms c.terms.name ++ [nat c.accrued, nat c.cut, nat c.shown]
      ++ historyAtoms c.history ++ [.named cause] }

/-- A PeriodReport, with the period total noted before the rollover (R132, R133). -/
def periodReport (f : FrameNo) (p : Nat) (c : Contract) : Notice :=
  { kind := .periodReport,
    fields := [frameAtom f, nat p, nat c.terms.id] ++ textAtoms c.terms.name ++ [nat c.terms.target, nat c.accrued, nat c.cut, nat c.shown] }

/-- Notices about contracts go to every Sponsor port and to the director port, in order (R133). -/
def notifySponsors (ns : List Notice) (s : State) : State := ns.foldl (fun t n => notifyAll (t.portsOf [.sponsor]) n t) s

/-- The contracts of a new rotation: carried with their accounts, or added fresh (R125). -/
def carriedContracts (x : Rotation) (plan : Plan) : List Contract :=
  plan.contracts.map (fun t =>
    match x.contract t.id with
    | some c => { c with terms := t }
    | none => Contract.fresh t)

/-- The contracts a new rotation drops, in the old order (R125). -/
def droppedContracts (x : Rotation) (plan : Plan) : List Contract :=
  x.contracts.filter (fun c => !plan.contracts.any (fun t => decide (t.id = c.terms.id)))

/-- The active rotation is replaced: one step, taken whole (R125); the engine then settles its regions in ascending id (R126; DESIGN CHOICE,
log 37). -/
def replaceRotation (plan : Plan) (cause : Nat) (s : State) : State :=
  let t := notifySponsors ((droppedContracts s.rotation plan).map (contractReport s.frame cause)) s
  settleAll .rotation
    { t with rotation := { t.rotation with
        contracts := carriedContracts s.rotation plan, spots := plan.spots, pointer := 0, current := Vector.replicate 33 none } }

/-- Steps 1 and 3 of a period boundary on one contract: rollover, and the counts become 0 (R132). -/
def closePeriod (p : Nat) (c : Contract) : Contract := { rollContract p c with cut := 0, shown := 0 }

/-- A period boundary closing period p (R132). -/
def periodBoundary (p : Nat) (s : State) : State :=
  let t := notifySponsors (s.rotation.contracts.map (periodReport s.frame p)) s
  let u := { t with rotation := { t.rotation with contracts := t.rotation.contracts.map (closePeriod p) } }
  match u.rotation.staged with
  | none => u
  | some plan => replaceRotation plan causePromotion { u with rotation := { u.rotation with staged := none } }

/-- EndLive (R16). -/
def onEndLive (s : State) : State × Ans :=
  if s.live then
    if s.running then (s, .refuse .clockRunning)
    else (periodBoundary s.clock.period { s with canvas := { s.canvas with mode := .setup } }, .done [])
  else (s, .done [])

/-! ### Rotation requests (R120 to R124, R131, R134) -/

/-- The open build when the port owns it, or the refusal (R121 to R124). -/
def ownBuild (p : PortId) (s : State) : Except Ans Build :=
  match s.rotation.build with
  | none => .error (.refuse .noSuchThing)
  | some b => if b.owner = p then .ok b else .error (.refuse .busy)

def setBuild (b : Option Build) (s : State) : State := { s with rotation := { s.rotation with build := b } }

/-- RotationBegin (R120). -/
def onRotationBegin (p : PortId) (s : State) : State × Ans :=
  match s.rotation.build with
  | some _ => (s, .refuse .busy)
  | none =>
    ({ s with rotation := { s.rotation with build := some ⟨p, ⟨[], []⟩⟩, staged := none } }, .done [.flag s.rotation.staged.isSome])

/-- RotationContract (R121); the stored values its answer reports begin with the id (DESIGN CHOICE, log 7). -/
def onRotationContract (p : PortId) (id : Nat) (name : Option (List Nat)) (target qmin : Option Nat) (s : State) : State × Ans :=
  match ownBuild p s with
  | .error a => (s, a)
  | .ok b =>
    if !inRange 1 255 id then (s, .badValue .contractId)
    else if b.plan.contracts.any (fun c => decide (c.id = id)) then (s, .refuse .exists_)
    else if 32 ≤ b.plan.contracts.length then (s, .refuse .full)
    else
      let given := name.getD []
      let c : ContractTerms := { id := id, name := given.take 16, target := clampOr 0 3600 0 target, qmin := clampOr 0 256 192 qmin }
      let plan := { b.plan with contracts := b.plan.contracts ++ [c] }
      (setBuild (some { b with plan := plan }) s,
        .doneAdjusted (decide (16 < given.length) || clampHitsOpt 0 3600 target || clampHitsOpt 0 256 qmin)
          ([nat c.id] ++ textAtoms c.name ++ [nat c.target, nat c.qmin, nat plan.contracts.length]))

/-- Check 4 of R122. -/
def badRegionSet (l : List Nat) : Bool := l.isEmpty || decide (8 < l.length) || l.any (fun n => !inRange 1 32 n) || hasRepeat l

/-- RotationSpot (R122). -/
def onRotationSpot (p : PortId) (spot contract asset slot : Nat) (regions : List Nat) (s : State) : State × Ans :=
  match ownBuild p s with
  | .error a => (s, a)
  | .ok b =>
    if !inRange 1 255 spot then (s, .badValue .spotId)
    else if !inRange 1 255 contract then (s, .badValue .contractId)
    else if badRegionSet regions then (s, .badValue .regionSet)
    else if (s.assets.named asset).isNone then (s, .refuse .noSuchThing)
    else if !s.assets.isComplete .image asset then (s, .badValue .asset)
    else if b.plan.spots.any (fun t => decide (t.id = spot)) then (s, .refuse .exists_)
    else if 64 ≤ b.plan.spots.length then (s, .refuse .full)
    else
      let t : Spot := { id := spot, contract := contract, asset := asset, slot := clamp 60 7200 slot, regions := regions }
      let plan := { b.plan with spots := b.plan.spots ++ [t] }
      (setBuild (some { b with plan := plan }) s,
        .doneAdjusted (clampHits 60 7200 slot) [nat plan.spots.length, nat plan.spots.length, nat t.slot])

/-- RotationDiscard (R123). -/
def onRotationDiscard (p : PortId) (s : State) : State × Ans :=
  match ownBuild p s with
  | .error a => (s, a)
  | .ok _ => (setBuild none s, .done [])

/-- A defined region of a spot's set has other dimensions than the spot's asset (R50). -/
def spotMisfits (s : State) (t : Spot) : Bool :=
  match s.assets.complete t.asset with
  | none => false
  | some e =>
    t.regions.any (fun n =>
      match toRegion n with
      | none => false
      | some r =>
        match s.region r with
        | none => false
        | some g => !(decide (e.width = g.width) && decide (e.height = g.height)))

/-- The first spot of a plan, with its position, whose contract is not in the plan or whose asset is not Complete (R124). Whether a spot is
also refused here for the dimensions of its asset, as R50 has it and R122, R124 and R128 do not, is a free value (DESIGN CHOICE, log 39). -/
def badSpot (s : State) (plan : Plan) : Option (Nat × Spot) :=
  ((List.range plan.spots.length).zip plan.spots).find? (fun e =>
    !plan.contracts.any (fun c => decide (c.id = e.2.contract)) || (s.assets.complete e.2.asset).isNone
      || (spotMisfits s e.2 && Config.commitComparesDimensions))

/-- RotationCommit (R50, R124): applied Active in Setup, Staged in Live. The answer in Setup reports the ContractReport notices queued as
their number, one for each contract dropped and without a presence byte, the answer in Live nothing in its place, and a refusal gives the field spot id, the id and the position (DESIGN CHOICE, log 7). -/
def onRotationCommit (p : PortId) (s : State) : State × Ans :=
  match ownBuild p s with
  | .error a => (s, a)
  | .ok b =>
    match badSpot s b.plan with
    | some e => (s, .reply ⟨.badValue, false, [.field .spotId, nat e.2.id, nat (e.1 + 1)]⟩)
    | none =>
      let t := setBuild none s
      if s.live then ({ t with rotation := { t.rotation with staged := some b.plan } }, .done [.named 1])
      else (replaceRotation b.plan causeCommit t, .done [.named 0, nat (droppedContracts s.rotation b.plan).length])

/-- ContractSuspend (R131). -/
def onContractSuspend (id : Nat) (on : Bool) (s : State) : State × Ans :=
  match s.rotation.contract id with
  | none => (s, .refuse .noSuchThing)
  | some _ => (changeContract id (fun c => { c with suspended := on }) s, .done [.flag on])

/-- A port that owned the open build is lost: the build is discarded (R135). -/
def buildOwnerLost (p : PortId) (s : State) : State :=
  match s.rotation.build with
  | some b => if b.owner = p then setBuild none s else s
  | none => s

/-- The state of an engine's claim on a region: Waiting, Holding, or being offered again; none otherwise (R134, R166). -/
def claimStateCode (s : State) (e : Engine) (r : RegionId) : Option Nat :=
  if (s.claims r).awaitedBy (.engine e) then some 0
  else if (s.claims r).heldBy (.engine e) then some 1
  else if s.offering e r then some 2
  else none

/-- A region the Rotation Engine claims, as ReadRotation gives it (R134). R134 does not list the region's id there: the model gives it first, so that
the item says whose it is (DESIGN CHOICE, log 7). -/
def rotationRegionAtoms (s : State) (r : RegionId) : List (List Atom) :=
  match claimStateCode s .rotation r with
  | none => []
  | some code =>
    [[nat r.val, .named code] ++
      (match s.currentSpot r, s.region r with
       | some x, some g =>
         match s.rotation.spot x.spot with
         | some t => [.present, nat x.spot, nat x.run, nat (runLength g t)]
         | none => [.absent]
       | _, _ => [.absent])]

/-- ReadRotation (R134, R194), the regions the engine claims in ascending id (DESIGN CHOICE, log 7). Whether a staged rotation exists, and whether a
build is open, is each sent as the presence byte of what follows, without a flag before it (DESIGN CHOICE, log 7). -/
def onReadRotation (start : Option Nat) (s : State) : State × Ans :=
  let x := s.rotation
  let head := [nat x.pointer] ++ optAtoms (fun (t : Plan) => [nat t.contracts.length, nat t.spots.length]) x.staged
    ++ optAtoms (fun (b : Build) => [nat b.owner.val, nat b.plan.contracts.length, nat b.plan.spots.length]) x.build
  let contracts := x.contracts.map (fun c =>
    [nat c.terms.id] ++ textAtoms c.terms.name ++ [nat c.terms.target, nat c.terms.qmin, .flag c.suspended, nat c.cut, nat c.shown])
  let spots := x.spots.map (fun t =>
    [nat t.id, nat t.contract, nat t.asset, nat t.slot] ++ listAtoms (fun n => [nat n]) t.regions
      ++ optAtoms (fun (r : RegionId) => [nat r.val]) (showingIn s t.id))
  (s, .done (countedPage head [contracts, spots, allRegions.flatMap (rotationRegionAtoms s)] start))

/-- One account as ReadExposure gives it (R149). -/
def accountAtoms (s : State) (c : Contract) : List Atom :=
  let fps := Config.fps s.ratesel
  [nat c.terms.id] ++ textAtoms c.terms.name
    ++ [nat c.terms.target, nat (targetUnits fps c.terms), nat c.terms.qmin, .flag c.suspended, nat c.accrued,
        nat (expected fps s.clock c.terms), .num (lag fps s.clock c)]
    ++ optAtoms (fun (x : Nat × FrameNo) => [nat x.1, frameAtom x.2]) c.lastCredit ++ historyAtoms c.history ++ [nat c.cut, nat c.shown]

/-- ReadExposure (R149, R194). -/
def onReadExposure (contract start : Option Nat) (s : State) : State × Ans :=
  let head := [.named (modeCode s.canvas.mode), nat (Config.fps s.ratesel), nat s.clock.length, nat s.clock.main, nat (elapsed s.clock)]
    ++ optFrame s.exposure.lastTallied
  match contract with
  | none => (s, .done (countedPage head [s.rotation.contracts.map (accountAtoms s)] start))
  | some id =>
    if !inRange 1 255 id then (s, .badValue .contractId)
    else
      match s.rotation.contract id with
      | none => (s, .refuse .noSuchThing)
      | some c => (s, .done (countedPage head [[accountAtoms s c]] start))

end Sys2Proof.Machine
end

