-- ==== Sys2Proof/Machine/Messages.lean ====
section
/-! DEFINITION. Crowd Messages (R151 to R168): the queue, approval, crawl passes, the engine's part of an evaluation,
and the message requests. -/

namespace Sys2Proof.Machine

/-! ### The queue (R151, R152) -/

/-- An entry of a submitter and tag. -/
def Entry.is (p : PortId) (tag : Nat) (e : Entry) : Bool := decide (e.submitter = p) && decide (e.tag = tag)

/-- The entries being shown, with their passes. -/
def State.passList (s : State) : List Pass := allRegions.filterMap s.pass

/-- The number of entries in the queue, in every state (R152). -/
def State.queueLength (s : State) : Nat := s.messages.held.length + s.messages.approved.length + s.passList.length

/-- Whether a port has an entry of a tag in the queue (R154). -/
def State.hasEntry (s : State) (p : PortId) (tag : Nat) : Bool :=
  s.messages.held.any (Entry.is p tag) || s.messages.approved.any (Entry.is p tag) || s.passList.any (fun x => x.entry.is p tag)

/-- The region whose pass shows an entry (R151). -/
def State.passOf (s : State) (p : PortId) (tag : Nat) : Option RegionId :=
  allRegions.find? (fun r =>
    match s.pass r with
    | some x => x.entry.is p tag
    | none => false)

/-- The place of an entry in the show order, 1 being the head; 0 when it is not there. -/
def showPosition (p : PortId) (tag : Nat) : List Entry → Nat
  | [] => 0
  | e :: rest =>
    if e.is p tag then 1
    else
      match showPosition p tag rest with
      | 0 => 0
      | n + 1 => n + 2

def setHeld (l : List Entry) (s : State) : State := { s with messages := { s.messages with held := l } }

def setApproved (l : List Entry) (s : State) : State := { s with messages := { s.messages with approved := l } }

/-- A message notice: submitter, tag, frame, and further fields (R165). -/
def messageNotice (kind : NoticeKind) (e : Entry) (f : FrameNo) (fields : List Atom) : Notice :=
  { kind := kind, fields := [nat e.submitter.val, nat e.tag, frameAtom f] ++ fields }

/-- A notice to an entry's submitter (R165). -/
def tellSubmitter (kind : NoticeKind) (e : Entry) (fields : List Atom) (s : State) : State :=
  notify e.submitter (messageNotice kind e s.frame fields) s

/-! ### Submitting (R153 to R155) -/

/-- The reference glyph set: that of the lowest-numbered defined message-carrying region (R153). -/
def State.referenceSet (s : State) : Option Nat :=
  (allRegions.filterMap (fun r =>
    match s.region r with
    | some g => if g.message then g.glyphSet else none
    | none => none)).head?

/-- The text of a submission after the cut and the substitution, whether it was cut, and how many codes were replaced (R155). -/
def makeText (set : MessageSettings) (reference : Option (List Nat)) (text : List Nat) : List Nat × Bool × Nat :=
  let cut := decide (set.maxLength < text.length)
  let kept := if cut then text.take (set.maxLength - 1) else text
  let tail := if cut then [set.continuation] else []
  match reference with
  | none => (kept ++ tail, cut, 0)
  | some widths =>
    (kept.map (fun c => if advanceIn widths c = 0 then set.substitute else c) ++ tail, cut,
      (kept.filter (fun c => decide (advanceIn widths c = 0))).length)

/-- MessageSubmit (R154, R155). The answer's last field is the stored repeats, which may have been clamped (R197; DEDUCED, log 13). -/
def onMessageSubmit (p : PortId) (tag : Nat) (text : List Nat) (style : Named Style) (repeats : Option Nat) (s : State) : State × Ans :=
  if !inRange 1 65535 tag then (s, .badValue .tag)
  else if text.isEmpty then (s, .badValue .text)
  else if text.any (fun c => !inRange 0 255 c) then (s, .badValue .text)
  else
    match style with
    | .unknown _ => (s, .badValue .style)
    | .known y =>
      if s.hasEntry p tag then (s, .refuse .exists_)
      else if 48 ≤ s.queueLength then (s, .refuse .full)
      else
        match makeText s.messages.settings (s.referenceSet.map s.assets.advances) text with
        | (stored, cut, substituted) =>
          let e : Entry :=
            { submitter := p, tag := tag, text := stored, style := y, repeats := clampOr 1 9 1 repeats, passesDone := 0,
              submitted := s.clock.now, truncated := cut, substituted := substituted }
          let answer := Ans.doneAdjusted (cut || decide (0 < substituted) || clampHitsOpt 1 9 repeats)
            [nat tag, nat stored.length, .flag cut, nat substituted, nat e.repeats]
          if p = s.director then (settleAll .message (setApproved (s.messages.approved ++ [e]) s), answer)
          else
            (notify s.director
                (messageNotice .submitted e s.frame
                  [.named (styleCode y), nat e.repeats, nat stored.length, .flag cut, nat substituted])
                (setHeld (s.messages.held ++ [e]) s), answer)

/-- MessageConfig (R153). -/
def onMessageConfig (f : MessageFields) (s : State) : State × Ans :=
  let x := s.messages.settings
  let y : MessageSettings :=
    { maxLength := clampOr 16 240 x.maxLength f.maxLength, continuation := clampOr 0 255 x.continuation f.continuation,
      substitute := clampOr 0 255 x.substitute f.substitute, speed := clampOr 1 16 x.speed f.speed,
      holdLimit := clampOr 0 3600 x.holdLimit f.holdLimit }
  ({ s with messages := { s.messages with settings := y } },
    .doneAdjusted (clampHitsOpt 16 240 f.maxLength || clampHitsOpt 0 255 f.continuation || clampHitsOpt 0 255 f.substitute
        || clampHitsOpt 1 16 f.speed || clampHitsOpt 0 3600 f.holdLimit)
      [nat y.maxLength, nat y.continuation, nat y.substitute, nat y.speed, nat y.holdLimit])

/-! ### Approval (R156 to R159) -/

/-- Entry states in an answer (R151). -/
def stateHeld : Nat := 0
def stateApproved : Nat := 1
def stateShowing : Nat := 2
def stateWithdrawing : Nat := 3

/-- The state of a pass's entry. -/
def Pass.stateCode (x : Pass) : Nat := if x.withdrawing then stateWithdrawing else stateShowing

/-- The port and tag a message request names, or the refusal (R156, R159). Where both are out of range the port is named, first in the sentence of
those rules, though MessageWithdraw lists the tag first (DESIGN CHOICE, log 19). -/
def namedEntry (port tag : Nat) : Except Ans PortId :=
  match toPort port with
  | none => .error (.badValue .port)
  | some n => if inRange 1 65535 tag then .ok n else .error (.badValue .tag)

/-- MessageApprove (R156). -/
def onMessageApprove (port tag : Nat) (s : State) : State × Ans :=
  match namedEntry port tag with
  | .error a => (s, a)
  | .ok n =>
    match s.messages.held.find? (Entry.is n tag) with
    | some e =>
      let shown := s.messages.approved ++ [e]
      let t := setApproved shown (setHeld (s.messages.held.filter (fun x => !x.is n tag)) s)
      (settleAll .message (tellSubmitter .approved e [nat shown.length] t), .done [.named stateApproved, .present, nat shown.length])
    | none =>
      if s.messages.approved.any (Entry.is n tag) then
        (s, .done [.named stateApproved, .present, nat (showPosition n tag s.messages.approved)])
      else
        match s.passList.find? (fun x => x.entry.is n tag) with
        | some x => (s, .done [.named x.stateCode, .absent])
        | none => (s, .refuse .noSuchThing)

/-- MessageReject (R157). -/
def onMessageReject (port tag : Nat) (s : State) : State × Ans :=
  match namedEntry port tag with
  | .error a => (s, a)
  | .ok n =>
    match s.messages.held.find? (Entry.is n tag) with
    | some e => (tellSubmitter .rejected e [] (setHeld (s.messages.held.filter (fun x => !x.is n tag)) s), .done [])
    | none => if s.hasEntry n tag then (s, .badValue .state) else (s, .refuse .noSuchThing)

/-- MessageWithdraw answers: removed, or finishing (R159). -/
def withdrawRemoved : Atom := .named 0
def withdrawFinishing : Atom := .named 1

/-- MessageWithdraw (R159). -/
def onMessageWithdraw (p : PortId) (tag : Nat) (port : Option Nat) (s : State) : State × Ans :=
  let named := port.getD p.val
  if named ≠ p.val ∧ p ≠ s.director then (s, .refuse .notPermitted)
  else
    match namedEntry named tag with
    | .error a => (s, a)
    | .ok n =>
      if s.messages.held.any (Entry.is n tag) then
        (setHeld (s.messages.held.filter (fun x => !x.is n tag)) s, .done [withdrawRemoved])
      else if s.messages.approved.any (Entry.is n tag) then
        (settleAll .message (setApproved (s.messages.approved.filter (fun x => !x.is n tag)) s), .done [withdrawRemoved])
      else
        match s.passOf n tag with
        | none => (s, .refuse .noSuchThing)
        | some r =>
          match s.pass r with
          | none => (s, .refuse .noSuchThing)
          | some x => (s.setPass r (some { x with withdrawing := true }), .done [withdrawFinishing])

/-! ### The hold limit (R158) -/

/-- Whether a Held entry has waited as long as the hold limit (R158). -/
def Entry.lapses (limit : Nat) (now : Ms) (e : Entry) : Bool :=
  decide (limit ≠ 0) && decide (limit * 1000 ≤ msSince now e.submitted)

/-- The Held entries that reach the hold limit are removed, each with a Lapsed notice, in the Held order (R158; the order of those notices, and
their place after the clock's of the same step, are a DESIGN CHOICE, log 41). -/
def lapseHeld (s : State) : State :=
  let limit := s.messages.settings.holdLimit
  let gone := s.messages.held.filter (Entry.lapses limit s.clock.now)
  gone.foldl (fun t e => tellSubmitter .lapsed e [nat limit] t)
    (setHeld (s.messages.held.filter (fun e => !e.lapses limit s.clock.now)) s)

/-! ### Passes (R161 to R164) -/

/-- Shown causes (R165). -/
def shownRepeats : Atom := .named 0
def shownWithdraw : Atom := .named 1

/-- An entry leaves the queue with a Shown notice (R163, R164). -/
def showEnded (cause : Atom) (e : Entry) (s : State) : State := tellSubmitter .shown e [cause, nat e.passesDone] s

/-- A pass is interrupted: uncounted, its entry goes to the head of the show order, or is removed when Withdrawing (R164). -/
def interruptPass (r : RegionId) (x : Pass) (s : State) : State :=
  let t := s.setPass r none
  if x.withdrawing then showEnded shownWithdraw x.entry t else setApproved (x.entry :: t.messages.approved) t

/-- A pass completes: it is counted, and its entry is removed or returns to the end of the show order (R163). -/
def completePass (r : RegionId) (x : Pass) (s : State) : State :=
  let t := s.setPass r none
  let e := { x.entry with passesDone := x.entry.passesDone + 1 }
  if x.withdrawing then showEnded shownWithdraw e t
  else if e.repeats ≤ e.passesDone then showEnded shownRepeats e t
  else setApproved (t.messages.approved ++ [e]) t

/-- Before the leave stage: frames run rises; an abort mark interrupts the pass, and else its length completes it (R163, R164). R164 gives the
evaluation of an abort and not the stage: it is where R163 counts, so that its Shown notice precedes the claim notices (DESIGN CHOICE, log 18). -/
def countPass (r : RegionId) (s : State) : State :=
  if (s.claims r).heldBy (.engine .message) then
    match s.pass r with
    | none => s
    | some x =>
      if x.abort then interruptPass r x s
      else if x.length ≤ x.run + 1 then completePass r x s
      else s.setPass r (some { x with run := x.run + 1 })
  else s

/-- The pass of an entry started now in a region (R161). -/
def newPass (s : State) (g : Region) (e : Entry) : Pass :=
  let width :=
    match g.glyphSet with
    | some set => (e.text.map (advanceIn (s.assets.advances set))).foldl (fun a b => a + b) 0
    | none => 0
  { entry := e, withdrawing := false, start := s.frame, textWidth := width, speed := s.messages.settings.speed,
    length := ceilDiv (width + g.width * 64) s.messages.settings.speed, run := 0, abort := false }

/-- The engine starts a pass of the first eligible entry in a region it holds with no current pass (R161). -/
def startPass (r : RegionId) (g : Region) (s : State) : State :=
  match s.messages.approved.find? (Entry.eligible s.running) with
  | none => s
  | some e => (setApproved (s.messages.approved.filter (fun x => !x.is e.submitter e.tag)) s).setPass r (some (newPass s g e))

/-- The Message Engine acts on the result of an evaluation: an interruption, a start, and the settling that ends it (R160, R161, R164). That
settling offers its claim also where the claim is being offered again, before any repeated offer of the tick (DESIGN CHOICE, log 37). -/
def messageAct (r : RegionId) (g : Region) (v : Verdict) (s : State) : State :=
  let t :=
    match v.left with
    | none => s
    | some h =>
      if h.claimant = .engine .message then
        match s.pass r with
        | some x => interruptPass r x s
        | none => s
      else s
  let u := if (t.claims r).heldBy (.engine .message) && (t.pass r).isNone then startPass r g t else t
  settle .message r u

/-- Started sets the abort mark of every Stoppage pass, and the engine settles (R160, R164). -/
def startedPasses (s : State) : State :=
  settleAll .message
    { s with messages := { s.messages with
        passes := allRegions.foldl (fun v r => v.set r.val
          (match v.get r with
           | some x => if x.entry.style = .stoppage then some { x with abort := true } else some x
           | none => none) r.isLt) s.messages.passes } }

/-- MatchReset: every entry is removed without notice, every pass ends uncounted, and the engine settles (R168). That a Holding claim supplies no tile
in the frame between does not reach back into the map of that frame, which is fixed when it is built (R52): a crawl in it stays until the next tick
(DEDUCED, log 53). -/
def resetMessages (s : State) : State :=
  settleAll .message { s with messages := { s.messages with held := [], approved := [], passes := Vector.replicate 33 none } }

/-! ### Reading the queue (R166) -/

/-- What every listed entry carries first (R166). -/
def entryAtoms (e : Entry) : List Atom :=
  [nat e.submitter.val, nat e.tag, .named (styleCode e.style), nat e.repeats] ++ textAtoms e.text ++ [.flag e.truncated, nat e.substituted]

/-- The time left before a Held entry lapses, in ms, or none (R166): 0 for an entry that has waited past a limit lowered since, until the next ms
step takes it (DESIGN CHOICE, log 50). -/
def timeLeft (limit : Nat) (now : Ms) (e : Entry) : Option Nat := if limit = 0 then none else some (limit * 1000 - msSince now e.submitted)

/-- ReadMessages (R166, R194). The engine's claim on a region is preceded by a presence byte, 00h for none (R190), and its states keep their places
in R166's list, where none is the first; the region's id, which R166 does not list there, stands before it (DESIGN CHOICE, log 7). -/
def onReadMessages (start : Option Nat) (s : State) : State × Ans :=
  let x := s.messages
  let set := x.settings
  let head := [nat set.maxLength, nat set.continuation, nat set.substitute, nat set.speed, nat set.holdLimit, nat s.queueLength]
  let held := x.held.map (fun e => entryAtoms e ++ optNat (timeLeft set.holdLimit s.clock.now e))
  let approved := x.approved.map (fun e => entryAtoms e ++ [nat e.passesDone, .flag (e.eligible s.running)])
  let passes := allRegions.flatMap (fun r =>
    match s.pass r with
    | none => []
    | some y =>
      [[nat r.val, nat y.entry.submitter.val, nat y.entry.tag, .named y.stateCode, nat y.entry.passesDone, frameAtom y.start,
        nat y.length, nat y.run, nat y.speed, .flag y.abort]])
  let regions := allRegions.flatMap (fun r =>
    match s.region r with
    | none => []
    | some g =>
      if g.message then
        [nat r.val :: optAtoms (fun n => [.named (n + 1)]) (claimStateCode s .message r)]
      else [])
  (s, .done (countedPage head [held, approved, passes, regions] start))

end Sys2Proof.Machine
end

