-- ==== Sys2Proof/Machine/Views.lean ====
section
/-! DEFINITION. The four views of the Clock Unit (R102 to R104) and the laying out of a line of glyphs (R104, R162). -/

namespace Sys2Proof.Machine

/-- Decimal digits of `n` as glyph codes, without leading zeros, for at most `fuel` digits. -/
def digits : Nat → Nat → List Nat
  | 0, _ => []
  | fuel + 1, n => if n < 10 then [48 + n] else digits fuel (n / 10) ++ [48 + n % 10]

/-- A number in decimal (R103). -/
def decimal (n : Nat) : List Nat := digits 10 n

/-- A number below 100 as two digits (R102). -/
def twoDigits (n : Nat) : List Nat := [48 + n / 10 % 10, 48 + n % 10]

/-- Seconds and tenths, rounded down, of a time in ms (R102, R103). -/
def tenths (ms : Nat) : List Nat := decimal (ms / 100 / 10) ++ [46, 48 + ms / 100 % 10]

/-- The MainClock view (R102). -/
def mainClockText (r : Nat) : List Nat :=
  if 60000 ≤ r then decimal (ceilDiv r 1000 / 60) ++ [58] ++ twoDigits (ceilDiv r 1000 % 60) else tenths r

/-- The Possession view (R103). -/
def possessionText (p : Nat) : List Nat := if 5000 ≤ p then decimal (ceilDiv p 1000) else tenths p

/-- The Score view (R103). -/
def scoreText (x : Score) : List Nat :=
  (if x.arrow = .home then [60] else []) ++ decimal x.home ++ [45] ++ decimal x.away ++ (if x.arrow = .away then [62] else [])

/-- The text of a view as the clock stands (R102, R103). -/
def viewText (k : Clock) (x : Score) : ViewBinding → List Nat
  | .none => []
  | .mainClock => mainClockText k.main
  | .possession => possessionText k.possession
  | .score => scoreText x
  | .period => decimal k.period

/-- The Score view's glyphs are left out in the odd groups of eight flash frames (R101). -/
def flashHides (x : Score) : Bool := decide (0 < x.flashLeft) && decide (x.flashUsed / 8 % 2 = 1)

/-- The Possession view is blanked while the clock is Running and P is greater than R (R104). -/
def possessionBlanked (k : Clock) : Bool := decide (k.state = .running) && decide (k.main < k.possession)

/-- The width of a line: the sum of its advance widths (R104, R161). -/
def lineWidth (widths : List Nat) (codes : List Nat) : Nat := (codes.map (advanceIn widths)).foldl (fun a b => a + b) 0

/-- The content page of a glyph set that holds a code's drawing (R170). -/
def Assets.drawing (a : Assets) (id code : Nat) : Page :=
  match a.complete id with
  | some e => a.copyOf (e.first + 1 + code / 8)
  | none => .content []

/-- A line of glyphs laid out from `left`; a glyph of advance width 0 takes no room and draws nothing (R104, R162). -/
def layLine (a : Assets) (set : Nat) (widths : List Nat) (top : Nat) : Int → List Nat → List Glyph
  | _, [] => []
  | left, code :: rest =>
    let w := advanceIn widths code
    if w = 0 then layLine a set widths top left rest
    else { code := code, left := left, top := top, advance := w, drawing := a.drawing set code } :: layLine a set widths top (left + w) rest

/-- The glyphs of a line that are not wholly cut off at the region's edges (R104, R162). -/
def cutLine (regionPx : Nat) (l : List Glyph) : List Glyph :=
  l.filter (fun g => decide (0 < g.left + g.advance) && decide (g.left < regionPx))

/-- The top pixel row of a line centred vertically (R104). -/
def lineTop (g : Region) : Nat := (g.height * 64 - 64) / 2

/-- A view's line, centred in its region, or at the left edge where it is wider (R104). -/
def viewGlyphs (s : State) (g : Region) : List Glyph :=
  match g.glyphSet with
  | none => []
  | some set =>
    let widths := s.assets.advances set
    let codes := viewText s.clock s.score g.view
    let px := g.width * 64
    let left := (px - lineWidth widths codes) / 2
    if g.view = .score ∧ flashHides s.score = true then []
    else cutLine px (layLine s.assets set widths (lineTop g) left codes)

/-- The crawl line of a pass: its left edge stands speed × k px left of the region's right edge (R162). -/
def crawlGlyphs (s : State) (g : Region) (x : Pass) : List Glyph :=
  match g.glyphSet with
  | none => []
  | some set =>
    let px := g.width * 64
    cutLine px (layLine s.assets set (s.assets.advances set) (lineTop g) ((px : Int) - (x.speed * x.run : Nat)) x.entry.text)

end Sys2Proof.Machine
end

