-- ==== Sys2Proof/Machine/Clock.lean ====
section
/-! DEFINITION. Game Clock, Possession Clock and Score (R82 to R108). -/

namespace Sys2Proof.Machine

def setClock (k : Clock) (s : State) : State := { s with clock := k }

/-! ### Notices (R106) -/

/-- The ports clock notices go to: the Scoring port, if there is one, and the director port (R106). -/
def State.clockPorts (s : State) : List PortId := s.portsOf [.scoring]

/-- A clock notice: frame, ms, main state, R, P, period, then further fields (R106). -/
def clockNotice (kind : NoticeKind) (fields : List Atom) (s : State) : Notice :=
  { kind := kind,
    fields := [frameAtom s.frame, .ms s.clock.now, .named (mainStateCode s.clock.state), nat s.clock.main, nat s.clock.possession,
      nat s.clock.period] ++ fields }

def tellClock (kind : NoticeKind) (fields : List Atom) (s : State) : State := notifyAll s.clockPorts (clockNotice kind fields s) s

/-- Causes of a Stopped notice (R106). -/
def stopRequest : Atom := .named 0
def stopWhistle : Atom := .named 1

/-! ### Horn and expiries (R95 to R97) -/

/-- The later of two ends, on their difference modulo 2^64 (R82, R97). -/
def laterMs (a b : Ms) : Ms := if msReached a b then a else b

/-- A horn pulse requested now: it never shortens one that sounds (R97). Between two ms steps it is now the ms of the first (DESIGN CHOICE,
log 46). -/
def Clock.sound (k : Clock) : Clock :=
  let due := k.now + BitVec.ofNat 64 k.hornLength
  { k with horn := some (match k.horn with
                         | none => due
                         | some e => laterMs e due) }

/-- The horn goes off at the ms step that reaches its end (R97). -/
def Clock.testHorn (k : Clock) : Clock :=
  match k.horn with
  | none => k
  | some e => if msReached k.now e then { k with horn := none } else k

/-- The main expiry (R95). -/
def mainExpiry (s : State) : State :=
  tellClock .expired [] (captureEvent .expiry none (setClock ({ s.clock with state := .expired, correction := 0 } : Clock).sound s))

/-- The possession expiry (R96). -/
def possessionExpiry (s : State) : State :=
  tellClock .possessionExpired [] (captureEvent .possessionExpiry none (setClock s.clock.sound s))

/-! ### The ms step (R82, R84, R85) -/

/-- A 100 ms boundary of the timebase (R82). -/
def boundaryMs (n : Ms) : Bool := decide (n.toNat % 100 = 0)

/-- One step of R and C while Running (R84, R85). -/
def Clock.lowerMain (k : Clock) : Clock :=
  if boundaryMs k.now && decide (0 < k.correction) then { k with correction := k.correction - 1 }
  else if boundaryMs k.now && decide (k.correction < 0) then { k with main := k.main - 2, correction := k.correction + 1 }
  else { k with main := k.main - 1 }

/-- The next ms of the timebase, with the counting down of a Running clock (R82, R84). -/
def Clock.count (k : Clock) : Clock :=
  let n : Clock := { k with now := k.now + 1 }
  if n.state = .running then { n.lowerMain with possession := n.possession - 1 } else n

/-- The ms step at which P reaches 0 by counting down (R84). -/
def Clock.possessionDue (k : Clock) : Bool := decide (k.state = .running) && decide (k.possession = 1)

/-- The ms step at which R reaches 0 (R84, R85). -/
def Clock.mainDue (k : Clock) : Bool := decide (k.state = .running) && decide (k.count.main = 0)

/-- The ms step at which the horn goes off, when no expiry requests a pulse at it (R97). -/
def Clock.hornDue (k : Clock) : Bool :=
  match k.horn with
  | none => false
  | some e => msReached (k.now + 1) e && !k.possessionDue && !k.mainDue

/-- The clock's part of a ms step: counting, the possession expiry before the main expiry, then the test of the horn's end (R84, R97). -/
def clockStep (s : State) : State :=
  let k := s.clock
  let t := setClock k.count s
  let u := if k.possessionDue then possessionExpiry t else t
  let v := if k.mainDue then mainExpiry u else u
  setClock v.clock.testHorn v

/-! ### Running and stopping (R86, R87, R98) -/

/-- ClockStart (R86); Started is handed to the Claim Arbiter and the Message Engine (R36, R105, R164), and its notice is queued after theirs
(DESIGN CHOICE, log 41). -/
def onClockStart (s : State) : State × Ans :=
  match s.clock.state with
  | .running => (s, .done [])
  | .expired => (s, .refuse .atZero)
  | .stopped =>
    if s.clock.main = 0 then (s, .refuse .atZero)
    else (tellClock .started [] (startedPasses (startedClaims (setClock { s.clock with state := .running } s))), .done [])

/-- A Running clock stops, with its notice (R87, R98). -/
def stopClock (s : State) : State := setClock { s.clock with state := .stopped } s

/-- ClockStop (R87). -/
def onClockStop (s : State) : State × Ans :=
  if s.running then (tellClock .stopped [stopRequest] (stopClock s), .done []) else (s, .done [])

/-- An edge less than 20 ms after the last whistle taken is ignored (R98). -/
def whistleIgnored (k : Clock) : Bool :=
  match k.lastWhistle with
  | none => false
  | some w => decide (msSince k.now w < 20)

/-- A whistle taken (R98): its capture records the clock after the stop. CaptureReady is queued before Stopped (DESIGN CHOICE, log 41). -/
def whistleTaken (s : State) : State :=
  let t := setClock { s.clock with lastWhistle := some s.clock.now } s
  if t.clock.whistleStop && t.running then tellClock .stopped [stopWhistle] (captureEvent .whistle none (stopClock t))
  else captureEvent .whistle none t

/-- A falling edge on the whistle line (R98). -/
def whistleEdge (s : State) : State := if whistleIgnored s.clock then s else whistleTaken s

/-! ### Setting the clock (R88 to R92) -/

/-- R and P ranges (R83). -/
def mainMax : Nat := 5999999
def possessionMax : Nat := 99999

/-- An Expired clock whose R is made above 0 becomes Stopped (R88, R89, R94). -/
def Clock.revive (k : Clock) : Clock := if k.state = .expired ∧ 0 < k.main then { k with state := .stopped } else k

/-- ClockSet (R88): Malformed before ClockRunning where both apply (DESIGN CHOICE, log 19). -/
def onClockSet (main possession : Option Nat) (s : State) : State × Ans :=
  if main.isNone && possession.isNone then (s, .refuse .malformed)
  else if s.running then (s, .refuse .clockRunning)
  else
    let k : Clock :=
      { s.clock with main := clampOr 0 mainMax s.clock.main main, possession := clampOr 0 possessionMax s.clock.possession possession,
                     correction := 0 }
    (setClock k.revive s, .doneAdjusted (clampHitsOpt 0 mainMax main || clampHitsOpt 0 possessionMax possession) [nat k.main, nat k.possession])

/-- ClockAdjust (R89); a Running clock brought to 0 expires at once. -/
def onClockAdjust (delta : Int) (s : State) : State × Ans :=
  let d := clampInt (-600000) 600000 delta
  let sum := (s.clock.main : Int) + d
  let r := (clampInt 0 mainMax sum).toNat
  let t := setClock (Clock.revive { s.clock with main := r }) s
  (if s.running && decide (r = 0) then mainExpiry t else t,
    .doneAdjusted (decide (d ≠ delta) || decide (clampInt 0 mainMax sum ≠ sum)) [nat r])

/-- PossessionReset (R90); an answer that may be Adjusted reports what was stored (R197; DEDUCED, log 13). -/
def onPossessionReset (value : Option Nat) (s : State) : State × Ans :=
  let n := clampOr 0 possessionMax s.clock.possessionReset value
  (setClock { s.clock with possession := n } s, .doneAdjusted (clampHitsOpt 0 possessionMax value) [nat n])

/-- NextPeriod (R91): ClockRunning before BadValue where both apply (DESIGN CHOICE, log 19). -/
def onNextPeriod (s : State) : State × Ans :=
  if s.running then (s, .refuse .clockRunning)
  else if 9 ≤ s.clock.period then (s, .badValue .period)
  else
    let k := s.clock
    let t := periodBoundary k.period (setClock
      { k with period := k.period + 1, main := k.length, possession := k.possessionReset, correction := 0, state := .stopped } s)
    (tellClock .periodChanged [nat k.period] t, .done [])

/-- The settings of ClockConfig as an answer reports them, in the order of R92. -/
def settingAtoms (k : Clock) (x : Score) : List Atom :=
  [nat k.length, nat k.possessionReset, nat k.window, nat k.hysteresis, nat k.hornLength, .flag k.whistleStop, nat x.flashLength]

/-- Whether ClockConfig clamps a field (R83, R100). -/
def configHits (f : ClockFields) : Bool :=
  clampHitsOpt 1000 mainMax f.length || clampHitsOpt 1000 possessionMax f.possessionReset || clampHitsOpt 0 2000 f.window
    || clampHitsOpt 0 500 f.hysteresis || clampHitsOpt 200 5000 f.hornLength || clampHitsOpt 0 120 f.flashLength

/-- ClockConfig (R92). -/
def onClockConfig (f : ClockFields) (s : State) : State × Ans :=
  if f.length.isSome && s.running then (s, .refuse .clockRunning)
  else
    let k := s.clock
    let n : Clock :=
      { k with length := clampOr 1000 mainMax k.length f.length,
               possessionReset := clampOr 1000 possessionMax k.possessionReset f.possessionReset,
               window := clampOr 0 2000 k.window f.window, hysteresis := clampOr 0 500 k.hysteresis f.hysteresis,
               hornLength := clampOr 200 5000 k.hornLength f.hornLength, whistleStop := f.whistleStop.getD k.whistleStop }
    let x : Score := { s.score with flashLength := clampOr 0 120 s.score.flashLength f.flashLength }
    ({ s with clock := n, score := x }, .doneAdjusted (configHits f) (settingAtoms n x))

/-! ### Marks and supervision (R93, R94, R99) -/

/-- Actions of a ClockMark answer, numbered in the order in which R93 and R94 name them (DESIGN CHOICE, log 7). -/
def markSlew : Atom := .named 0
def markStep : Atom := .named 1
def markIgnored : Atom := .named 2
def markSet : Atom := .named 3

/-- A mark clears Unsupervised and its condition (R99). -/
def superviseClock (s : State) : State := lower monUnsupervised (setClock { s.clock with unsupervised := false } s)

/-- ClockMark (R93, R94). The Resync of a mark that expires the clock gives the state before the expiry, which follows it (DESIGN CHOICE,
log 41). -/
def onClockMark (mark : Nat) (s : State) : State × Ans :=
  let m := clamp 0 mainMax mark
  let e : Int := (m : Int) - (s.clock.main : Int)
  let hit := clampHits 0 mainMax mark
  let t := superviseClock s
  let k := t.clock
  if s.running then
    if e.natAbs ≤ k.window then (setClock { k with correction := e } t, .doneAdjusted hit [markSlew, .num e])
    else
      let u := tellClock .resync [.num e] (setClock { k with main := m, correction := 0 } t)
      (if m = 0 then mainExpiry u else u, .doneAdjusted hit [markStep, .num e])
  else if e.natAbs ≤ k.hysteresis then (t, .doneAdjusted hit [markIgnored, .num e])
  else (setClock (Clock.revive { k with main := m, correction := 0 }) t, .doneAdjusted hit [markSet, .num e])

/-- The port of the Scoring role falls silent while the clock runs (R99). The notice is queued also when the flag is set already (DESIGN
CHOICE, log 41). -/
def setUnsupervised (s : State) : State :=
  tellClock .unsupervised [] (raise monUnsupervised none (setClock { s.clock with unsupervised := true } s))

/-! ### The score record (R100, R101) -/

/-- ScoreSet gives at least one field. -/
def ScoreSet.given (f : ScoreFields) : Bool :=
  f.home.isSome || f.away.isSome || f.homeFouls.isSome || f.awayFouls.isSome || f.homeTimeouts.isSome || f.awayTimeouts.isSome
    || f.arrow.isSome

/-- Whether ScoreSet clamps a field (R100). -/
def ScoreSet.hits (f : ScoreFields) : Bool :=
  clampHitsOpt 0 999 f.home || clampHitsOpt 0 999 f.away || clampHitsOpt 0 99 f.homeFouls || clampHitsOpt 0 99 f.awayFouls
    || clampHitsOpt 0 9 f.homeTimeouts || clampHitsOpt 0 9 f.awayTimeouts

/-- The score record as an answer reports it, in the order of R100. -/
def scoreAtoms (x : Score) : List Atom :=
  [nat x.home, nat x.away, nat x.homeFouls, nat x.awayFouls, nat x.homeTimeouts, nat x.awayTimeouts] ++ arrowAtoms x.arrow
    ++ [nat x.flashLength, nat x.flashLeft]

/-- The score record with the given fields stored; a changed score starts the flash from its full length (R100, R101). -/
def storeScore (f : ScoreFields) (arrow : Arrow) (x : Score) : Score :=
  let y : Score :=
    { x with home := clampOr 0 999 x.home f.home, away := clampOr 0 999 x.away f.away,
             homeFouls := clampOr 0 99 x.homeFouls f.homeFouls, awayFouls := clampOr 0 99 x.awayFouls f.awayFouls,
             homeTimeouts := clampOr 0 9 x.homeTimeouts f.homeTimeouts, awayTimeouts := clampOr 0 9 x.awayTimeouts f.awayTimeouts,
             arrow := arrow }
  if y.home ≠ x.home ∨ y.away ≠ x.away then { y with flashLeft := y.flashLength, flashUsed := 0 } else y

/-- ScoreSet (R100). -/
def onScoreSet (f : ScoreFields) (s : State) : State × Ans :=
  if !ScoreSet.given f then (s, .refuse .malformed)
  else
    match f.arrow.getD (.known s.score.arrow) with
    | .unknown _ => (s, .badValue .arrow)
    | .known a =>
      let x := storeScore f a s.score
      ({ s with score := x }, .doneAdjusted (ScoreSet.hits f) (scoreAtoms x))

/-- A map built while flash remaining is above 0 uses one flash frame (R101). -/
def Score.useFlash (x : Score) : Score :=
  if 0 < x.flashLeft then { x with flashLeft := x.flashLeft - 1, flashUsed := x.flashUsed + 1 } else x

/-! ### Reading and resetting (R107, R108) -/

/-- ReadClock (R107). -/
def onReadClock (s : State) : State × Ans :=
  let k := s.clock
  let view (v : ViewBinding) := textAtoms (viewText k s.score v)
  (s, .done ([.named (mainStateCode k.state), nat k.main, nat k.possession, .num k.correction, nat k.period]
      ++ view .mainClock ++ view .possession ++ view .score ++ view .period
      ++ [nat k.length, nat k.possessionReset, nat k.window, nat k.hysteresis, nat k.hornLength, .flag k.whistleStop]
      ++ [.flag k.horn.isSome] ++ optMs k.horn ++ [.flag k.unsupervised] ++ optMs k.lastWhistle ++ scoreAtoms s.score
      ++ [.ms k.now, frameAtom s.frame]))

/-- The clock after MatchReset (R108). -/
def Clock.matchReset (k : Clock) : Clock :=
  { k with state := .stopped, main := k.length, possession := k.possessionReset, period := 1, correction := 0, horn := none,
           unsupervised := false, lastWhistle := none }

/-- The score record after MatchReset: zero, arrow none, no flash; the flash length is kept (R108). -/
def Score.matchReset (x : Score) : Score := { Score.reset with flashLength := x.flashLength }

/-- A contract after MatchReset: its account and its counts start again (R137, R150). -/
def Contract.matchReset (c : Contract) : Contract :=
  { c with accrued := 0, history := [], lastCredit := none, cut := 0, shown := 0 }

/-- MatchReset (R14, R108, R116, R137, R150, R168). -/
def onMatchReset (s : State) : State × Ans :=
  if s.live then (s, .refuse .wrongMode)
  else
    let t : State :=
      { s with
        clock := s.clock.matchReset
        score := s.score.matchReset
        captures := Captures.reset
        rotation := { s.rotation with pointer := 0, contracts := s.rotation.contracts.map Contract.matchReset } }
    (resetMessages (lower monUnsupervised t), .done [])

end Sys2Proof.Machine
end

