-- ==== Sys2Proof/Machine/Ports.lean ====
section
/-! DEFINITION. Control Ports (R192 to R201): rights, the checks of a request, silence, port reset, the ms step of the part,
and the port requests. -/

namespace Sys2Proof.Machine

/-! ### Rights (R193) -/

/-- The rights table: whether a role has the right to a request code (R193). -/
def hasRight (role : Role) (code : Nat) : Bool :=
  if inRange 58 59 code then true
  else
    match role with
    | .director => inRange 1 57 code && decide (code ≠ 36)
    | .scoring => inRange 27 38 code
    | .replay => decide (code = 5) || inRange 22 26 code || inRange 37 38 code
    | .sponsor => decide (code = 5) || inRange 22 26 code || inRange 39 54 code
    | .messages => inRange 54 57 code
    | .general => false

/-- Checks 1 to 4 of R193: the refusal of the first that fails. -/
def gate (p : PortId) (code : Nat) (s : State) : Option ResultCode :=
  if 4 ≤ (s.port p).outstanding ∧ code ≠ 58 then some .busy
  else if !inRange 1 59 code then some .unknownRequest
  else if s.assets.scanned = false ∧ code ≠ 59 then some .starting
  else if !hasRight (s.port p).role code then some .notPermitted
  else none

/-! ### Silence (R198, R199) -/

/-- A deferred Withdraw is dropped with the port's claims (R40, R41). -/
def OpenRequest.isWithdraw : OpenRequest → Bool
  | .withdraw _ _ _ _ => true
  | .upload _ _ => false
  | .reclaim _ => false

/-- The blocks act on the loss of a port: its claims, its upload and its build (R41, R135, R182). -/
def portLost (p : PortId) (s : State) : State := buildOwnerLost p (uploadOwnerLost p (releaseClaims p s))

/-- The port's own part in becoming Silent: Withdrawn is cleared and a deferred Withdraw is dropped unanswered (R40, R41, R199). -/
def Port.fallSilent (x : Port) : Port :=
  { x with silent := true, withdrawn := false, requests := x.requests.filter (fun d => !d.isWithdraw) }

/-- A port becomes Silent (R198, R199). Its SourceFault is queued before the Clock Unit's notice (DESIGN CHOICE, log 41). -/
def becomeSilent (p : PortId) (s : State) : State :=
  let t := portLost p (raise (monSilent p) none (s.setPort p (s.port p).fallSilent))
  if (t.port p).role = .scoring ∧ t.running = true then setUnsupervised t else t

/-- The silence timer has reached the timeout of a port that is not Silent (R198). -/
def Port.silenceDue (x : Port) : Bool := !x.silent && decide (x.timeout ≠ 0) && decide (x.timeout ≤ x.silentTimer)

/-- The expiry of a port's silence timer (R198). -/
def silenceExpiry (p : PortId) (s : State) : State := if (s.port p).silenceDue then becomeSilent p s else s

/-- A valid frame restarts the silence timer and ends Silent (R191, R198, R199). -/
def frameArrives (p : PortId) (s : State) : State :=
  let x := s.port p
  let t := s.setPort p { x with silentTimer := 0, silent := false }
  if x.silent then lower (monSilent p) t else t

/-! ### The ms step of the part (R82) -/

/-- Silence timers count ms (R198). -/
def Port.countMs (x : Port) : Port := { x with silentTimer := x.silentTimer + 1 }

def countSilence (s : State) : State := { s with ports := allPorts.foldl (fun v p => updatePort v p Port.countMs) s.ports }

/-- What was due before this ms and was not taken: silences, ports ascending (DESIGN CHOICE, log 41), and the time limit of a memory operation
(DESIGN CHOICE, log 6). -/
def settleOverdue (s : State) : State := timeLimit (allPorts.foldl (fun t p => silenceExpiry p t) s)

/-- A ms step: the clock, the Held entries that lapse, and the silence timers (R82, R158, R198). -/
def msStep (s : State) : State := countSilence (lapseHeld (clockStep (settleOverdue s)))

/-- An event that a ms step brings about is taken with that step (DESIGN CHOICE, log 5); one not due changes nothing. -/
def msIf (due : Bool) (s : State) : State := if due then msStep s else s

/-- A Held entry of a submitter and tag reaches the hold limit at the next ms step (R158). -/
def lapseDue (s : State) (p : PortId) (tag : Nat) : Bool :=
  s.messages.held.any (fun e => e.is p tag && e.lapses s.messages.settings.holdLimit (s.clock.now + 1))

/-! ### Port requests (R192, R198, R200) -/

/-- A port that check 4 of SetPortRole finds in use (R192). -/
def portInUse (s : State) (n : PortId) : Bool :=
  !(s.claimSet n).isEmpty || (s.port n).deferredOutstanding
    || (match s.rotation.build with
        | some b => decide (b.owner = n)
        | none => false)
    || (match s.assets.upload with
        | some u => decide (u.owner = n) && !u.orphan
        | none => false)

/-- The port SetPortRole names, unless it is the director port or none (R192). -/
def roleTarget (s : State) (port : Nat) : Option PortId :=
  match toPort port with
  | none => none
  | some n => if n = s.director then none else some n

/-- SetPortRole (R192). -/
def onSetPortRole (port : Nat) (role : Named Role) (s : State) : State × Ans :=
  if s.live then (s, .refuse .wrongMode)
  else
    match roleTarget s port with
    | none => (s, .badValue .port)
    | some n =>
      match role with
      | .unknown _ => (s, .badValue .role)
      | .known .director => (s, .badValue .role)
      | .known r =>
        if r = .scoring ∧ allPorts.any (fun m => decide (m ≠ n) && decide ((s.port m).role = .scoring)) = true then (s, .refuse .exists_)
        else if portInUse s n then (s, .refuse .busy)
        else (s.setPort n { s.port n with role := r }, .done [])

/-- The timeout SetPortTimeout stores (R198). -/
def storedTimeout (ms : Nat) : Nat := if ms = 0 then 0 else clamp 250 10000 ms

/-- SetPortTimeout (R198): the new timeout is compared with the timer at once. -/
def onSetPortTimeout (port ms : Nat) (s : State) : State × Ans :=
  match toPort port with
  | none => (s, .badValue .port)
  | some n =>
    (silenceExpiry n (s.setPort n { s.port n with timeout := storedTimeout ms }),
      .doneAdjusted (decide (storedTimeout ms ≠ ms)) [nat (storedTimeout ms)])

/-- The port's own part in a reset: steps 1 to 3 of R200, and the frame being received. The frame on the line completes; where it is an
answer, its request is outstanding until it has been sent whole (R194). -/
def Port.cleared (x : Port) : Port :=
  { x with rx := [], withdrawn := false, noticesLost := false, noticeCounter := 0, requests := [], answers := [], notices := [] }

/-- The reset of port n (R200). -/
def resetPort (n : PortId) (s : State) : State := portLost n (s.setPort n (s.port n).cleared)

/-- PortReset (R200). -/
def onPortReset (p : PortId) (port : Option Nat) (s : State) : State × Ans :=
  match toPort (port.getD p.val) with
  | none => (s, .badValue .port)
  | some n =>
    if n ≠ p ∧ (s.port p).role ≠ .director then (s, .refuse .notPermitted)
    else (resetPort n s, .done [])

/-! ### ReadStatus (R201) -/

def monitorAtoms (m : Monitor) : List Atom := [.flag m.condition, .flag m.latched, .flag m.enable, .flag m.latch]

/-- A picture input as ReadStatus gives it: frame size or none, lost limit, hold count while treated as Lost (R60, R201). -/
def inputAtoms (s : State) (i : InputId) : List Atom :=
  let x := s.input i
  optAtoms (fun (f : Picture) => [nat f.width, nat f.height]) x.latest ++ [nat x.limit]
    ++ optNat (if s.treatedLost i then some (framesSince s.frame x.lostAt) else none)

def portAtoms (x : Port) : List Atom := [.named (roleCode x.role), .flag x.silent, nat x.timeout]

/-- ReadStatus (R201); its own request is outstanding as it is answered (R194), and a PortReset whose answer is not yet sent is not
counted (DESIGN CHOICE, log 52). PA and PB stand one after the other, not as a list, and the frame
rate is sent as 50 or 60; the items of the monitors and of the ports carry no name or number, since each list is whole and in order
(DESIGN CHOICE, log 7). -/
def onReadStatus (p : PortId) (s : State) : State × Ans :=
  let x := s.port p
  (s, .done ([.named (modeCode s.canvas.mode), .named (if s.assets.scanned then 1 else 0), nat s.assets.scanFailures,
        nat s.director.val, nat (Config.fps s.ratesel), frameAtom s.frame, .named (if s.comp.locked then 0 else 1),
        .named (mainStateCode s.clock.state), nat s.clock.main, nat s.clock.period, .flag s.clock.unsupervised]
      ++ listAtoms (fun m => monitorAtoms (s.monitor m)) allMonitors ++ inputAtoms s .pa ++ inputAtoms s .pb
      ++ listAtoms (fun n => portAtoms (s.port n)) allPorts
      ++ [.flag x.withdrawn, nat (x.outstanding + 1), nat x.notices.length, .flag x.noticesLost]))

/-- ReadStatus clears NoticesLost once its answer is made (R196, R201). -/
def Port.statusRead (x : Port) : Port := { x with noticesLost := false }

/-! ### The transmitter (R195) -/

/-- The frame on the line ends (R195). -/
def txEnd (p : PortId) (s : State) : State := s.setPort p { s.port p with line := none }

/-- A gap of more than 1 ms: the frame being received is damaged and is discarded (R191). -/
def byteGap (p : PortId) (s : State) : State := s.setPort p { s.port p with rx := [] }

end Sys2Proof.Machine
end

