-- ==== Sys2Proof/Machine/Compositor.lean ====
section
/-! DEFINITION. Frame Composition and Picture Inputs (R49 to R58): the composed map, the inputs, and ReadComposition. -/

namespace Sys2Proof.Machine

/-! ### What each region supplies (R49, R50) -/

/-- The input frame a Picture holder shows: the held frame while the input is treated as Lost, else the latest complete frame (R54, R57). -/
def shownFrame (s : State) (i : InputId) : Option Picture := if s.treatedLost i then (s.input i).held else (s.input i).latest

/-- The colour of a fill pattern number as it stands (R5). -/
def State.fillColour (s : State) (n : Nat) : Colour := if h : n < 8 then s.colour ⟨n, h⟩ else ⟨0, 0, 0⟩

/-- The current spot of a region with its entry of the active rotation. -/
def State.spotIn (s : State) (r : RegionId) : Option Spot :=
  match s.currentSpot r with
  | none => none
  | some x => s.rotation.spot x.spot

/-- What a holder supplies, and whether the region is presentable through it (R49). -/
def holderContent (s : State) (r : RegionId) (g : Region) (h : Claim) : Bool × PlaneContent :=
  match h.content with
  | .picture i => (!inFallback s g i, .picture i (s.treatedLost i) (shownFrame s i))
  | .asset id => (true, .asset id (s.assets.contentOf id))
  | .fill n => (true, .fill n.val (s.colour n))
  | .spot =>
    match s.spotIn r with
    | none => (false, .none)
    | some t => (true, .spot t.id t.contract t.asset (s.assets.contentOf t.asset))
  | .crawl =>
    match s.pass r with
    | none => (false, .none)
    | some x => (true, .crawl x.entry.submitter x.entry.tag (crawlGlyphs s g x) g.fill (s.fillColour g.fill))

/-- What a fixed region supplies: its view, while its glyph set is Complete (R4, R49). -/
def viewContent (s : State) (g : Region) : Bool × PlaneContent :=
  match g.glyphSet with
  | none => (false, .none)
  | some set =>
    (s.assets.isComplete .glyphSet set,
      .view g.view (decide (g.view = .possession) && possessionBlanked s.clock) (viewGlyphs s g) g.fill (s.fillColour g.fill))

/-- Whether a region is presentable, and what it supplies (R49). -/
def regionContent (s : State) (r : RegionId) (g : Region) : Bool × PlaneContent :=
  match (s.claims r).holder with
  | some h => holderContent s r g h
  | none => if g.fixed then viewContent s g else (false, .none)

/-- A region as the map is composed from it. -/
def planeOf (s : State) (r : RegionId) (g : Region) : Plane :=
  let c := regionContent s r g
  { region := r, layer := g.layer, col := g.col, row := g.row, width := g.width, height := g.height, presentable := c.1, content := c.2 }

/-- Region 0: always presentable, with its own fill pattern when it has no holder (R49, R51). -/
def basePlane (s : State) (g : Region) : Plane :=
  let c : PlaneContent :=
    match (s.claims 0).holder with
    | some h => (holderContent s 0 g h).2
    | none => .fill g.fill (s.fillColour g.fill)
  { region := 0, layer := g.layer, col := g.col, row := g.row, width := g.width, height := g.height, presentable := true, content := c }

/-- The defined regions 1..32, highest layer first (R51). -/
def planesOf (s : State) : List Plane :=
  sortBy (fun (p : Plane) => 3 - p.layer)
    (allRegions.tail.flatMap (fun r =>
      match s.region r with
      | none => []
      | some g => [planeOf s r g]))

/-- The spot-list entry of a plane: presentable through a Rotation Engine holder with a current spot (R140). -/
def spotEntry (p : Plane) : List SpotEntry :=
  match p.content with
  | .spot spot contract _ _ => if p.presentable then [⟨p.region, spot, contract, p.width * p.height⟩] else []
  | .none => []
  | .picture _ _ _ => []
  | .asset _ _ => []
  | .view _ _ _ _ _ => []
  | .crawl _ _ _ _ _ => []
  | .fill _ _ => []

/-- The composed map of the current frame (R49 to R52, R140). -/
def buildMap (s : State) : ComposedMap :=
  let g := (s.region 0).getD Region.base
  let planes := planesOf s
  { frame := s.frame, planes := planes, base := basePlane s g, baseFill := g.fill, baseColour := s.fillColour g.fill,
    spots := planes.flatMap spotEntry }

/-! ### Short (R58) -/

/-- A region is wider or taller than the input frame its Picture holder shows; no frame counts as 0 by 0 (R58), also where an input that
is treated as Lost holds none and has had frames since (DESIGN CHOICE, log 48). -/
def shortOf (s : State) (i : InputId) (g : Region) : Bool :=
  match shownFrame s i with
  | none => true
  | some f => decide (f.width < g.width) || decide (f.height < g.height)

/-- The lowest region that makes an input Short in this frame (R58). -/
def shortRegion (s : State) (i : InputId) : Option RegionId :=
  allRegions.find? (fun r =>
    match s.region r, (s.claims r).holder with
    | some g, some h => decide (h.content = .picture i) && shortOf s i g
    | _, _ => false)

/-- The Short condition of an input as the map is built (R58). -/
def settleShort (i : InputId) (s : State) : State :=
  match shortRegion s i with
  | some r => raise (monShort i) (some r) s
  | none => lower (monShort i) s

/-- The map of the current frame is built and kept beside that of the frame before; a flash frame is used (R52, R101). -/
def compose (s : State) : State :=
  settleShort .pb (settleShort .pa
    { s with comp := { s.comp with map := some (buildMap s), previous := s.comp.map }, score := s.score.useFlash })

/-! ### Picture inputs (R54, R55, R57) -/

/-- The top-left 48 × 16 tiles of an input frame (R54). -/
def cropTiles (width height : Nat) (tiles : List Nat) : Picture :=
  let w := min 48 width
  let h := min 16 height
  { width := w, height := h,
    tiles := (List.range h).flatMap (fun y => (List.range w).map (fun x => tiles.getD (y * width + x) 0)) }

/-- A frame arrival: the latest complete frame is replaced and Lost clears; a frame of zero size is discarded (R54, R55, R57). -/
def inputArrival (i : InputId) (width height : Nat) (tiles : List Nat) (s : State) : State :=
  if width = 0 ∨ height = 0 then s
  else
    let t := s.setInput i { s.input i with latest := some (cropTiles width height tiles), arrival := s.frame }
    dropHeld i (lower (monLost i) t)

/-- Lost rises at tick f when f − a is greater than L (R55). -/
def inputLate (x : PictureInput) (f : FrameNo) : Bool := decide (x.limit < framesSince f x.arrival)

/-- The Lost test of an input at the tick that has made the counter f (R55, R57). -/
def inputTick (i : InputId) (s : State) : State :=
  let x := s.input i
  if inputLate x s.frame && !(s.monitor (monLost i)).condition then
    let held := if s.treatedLost i then x.held else x.latest
    raise (monLost i) none (s.setInput i { x with lostAt := s.frame, held := held })
  else s

/-- SetInput (R55). -/
def onSetInput (input : Named InputId) (limit : Nat) (s : State) : State × Ans :=
  match input with
  | .unknown _ => (s, .badValue .input)
  | .known i =>
    let n := clamp 1 60 limit
    (s.setInput i { s.input i with limit := n }, .doneAdjusted (clampHits 1 60 limit) [nat n])

/-! ### ReadComposition (R53) -/

def glyphAtoms (l : List Glyph) : List Atom := textAtoms (l.map (fun g => g.code))

/-- The content of a tile, kinds in the order of R52. -/
def contentEntry : TileContent → List Atom
  | .picture i c r held _ => [.named 0, .named (inputCode i), nat c, nat r, .named (if held then 1 else 0)]
  | .asset id c r _ => [.named 1, nat id, nat c, nat r]
  | .spot spot contract asset c r _ => [.named 2, nat spot, nat contract, nat asset, nat c, nat r]
  | .view v glyphs fill _ => [.named 3, .named (viewShownCode v)] ++ glyphAtoms glyphs ++ [nat fill]
  | .crawl p tag glyphs fill _ => [.named 4, nat p.val, nat tag] ++ glyphAtoms glyphs ++ [nat fill]
  | .fill n _ => [.named 5, nat n]

/-- Why another region covering a tile does not supply it: not presentable, transparent there, or hidden (R53). Where a region under the supplying
one is also not presentable or transparent there, that is its mark (DESIGN CHOICE, log 32). -/
def Plane.mark (p : Plane) (c r : Nat) : Nat :=
  if !p.presentable then 0 else if p.region ≠ 0 ∧ p.transparent c r = true then 1 else 2

/-- The other regions covering a tile, from the highest layer down (R53). -/
def otherPlanes (m : ComposedMap) (c r : Nat) : List Plane :=
  (m.planes ++ [m.base]).filter (fun p => p.covers c r && decide (p.region ≠ m.region c r))

/-- ReadComposition (R53); of two bad values the col is named, as the rule lists them (DESIGN CHOICE, log 19). -/
def onReadComposition (col row : Nat) (s : State) : State × Ans :=
  if 47 < col then (s, .badValue .col)
  else if 15 < row then (s, .badValue .row)
  else
    match s.comp.map with
    | none => (s, .done (frameAtom s.frame :: Config.noMapFields.map nat))
    | some m =>
      (s, .done ([frameAtom m.frame, nat (m.region col row).val] ++ contentEntry (m.content col row)
            ++ listAtoms (fun (p : Plane) => [nat p.region.val, .named (p.mark col row)]) (otherPlanes m col row)))

end Sys2Proof.Machine
end

