-- ==== Sys2Proof/Machine/Links.lean ====
section
/-! DEFINITION. Panel Links (R63 to R81): slots, packets, receiver status, frame close, and the link requests. -/

namespace Sys2Proof.Machine

/-! ### Slots and holds (R64, R70) -/

/-- The end of an open slot: the hold count falls by 1, except in the slot in which it was set (R70). -/
def Link.endSlot (l : Link) : Link :=
  if l.slotOpen then
    { l with slotOpen := false, slot := l.slot + 1, hold := if l.holdFresh then l.hold else l.hold - 1, holdFresh := false }
  else l

/-- The cadence entry of a slot is Send (R65). -/
def Link.sendSlot (l : Link) : Bool := l.pattern.getD (l.slot % 8) false

/-- The flow mode permits a start under the latest room report (R69). -/
def Link.flowPermits (l : Link) : Bool :=
  l.room || (match l.mode with
             | .strict => false
             | .oneAhead => l.overrun)

/-- Conditions of R66 that a Down link's probe shares: the map of the frame is built, and the slot's entry is Send. -/
def Link.mapReady (l : Link) (map : Option ComposedMap) : Bool :=
  match map with
  | none => false
  | some m => decide (l.frame = some m.frame)

/-- All the conditions of R66 for a packet of the frame to start; `forced` says that the slot is a forced Idle slot. -/
def Link.mayStart (l : Link) (map : Option ComposedMap) (forced : Bool) : Bool :=
  !l.down && !l.probe && !l.quiet && l.mapReady map && l.sendSlot && !forced && decide (l.hold = 0) && l.flowPermits && decide (l.tile < 96)

/-- A Down link may send its probe of the frame (R76). -/
def Link.mayProbe (l : Link) (map : Option ComposedMap) : Bool := l.down && l.probe && !l.probeSent && l.mapReady map && l.sendSlot

/-! ### Packets (R67) -/

/-- The pixel rows of a scan group: those whose number is `j` more than a multiple of 8, eight rows of a tile's 64 (R67). -/
def scanRows (j : Nat) : List Nat := [0, 8, 16, 24, 32, 40, 48, 56].map (fun n => n + j)

/-- The eight chunks of a packet in the order they are sent: the scan group last reported first, then by exclusive or, the eighth marked
last (R67). -/
def packetChunks (g : Nat) : List Chunk :=
  [0, 1, 2, 3, 4, 5, 6, 7].map (fun n => { group := g ^^^ n, rows := scanRows (g ^^^ n), last := decide (n = 7) })

/-- The packet of a chain tile, from the map of its frame (R67). -/
def makePacket (k : LinkId) (m : ComposedMap) (tile group : Nat) (probe : Bool) : Packet :=
  let at_ := chainTile k.val tile
  { tile := tile, frame := m.frame, chunks := packetChunks group, content := m.content at_.1 at_.2, probe := probe }

/-- A tile packet starts: the attempt counts, and the overrun flag takes the room report (R69, R71). -/
def Link.startTile (k : LinkId) (m : ComposedMap) (l : Link) : Link :=
  { l with packet := some (makePacket k m l.tile l.group false), attempts := l.attempts + 1, started := l.started + 1, overrun := l.room }

/-- A probe starts: tile 0; it leaves the overrun flag as it was (R69, R76). -/
def Link.startProbe (k : LinkId) (m : ComposedMap) (l : Link) : Link :=
  { l with packet := some (makePacket k m 0 l.group true), probeSent := true, started := l.started + 1 }

/-- A slot opens, and a packet starts in it when the conditions hold (R66, R76). A forced Idle slot is used up by opening (R72). -/
def Link.openSlot (k : LinkId) (map : Option ComposedMap) (l : Link) : Link :=
  let o := { l with slotOpen := true, forcedIdle := false }
  match map with
  | none => o
  | some m =>
    if l.mayStart map l.forcedIdle then o.startTile k m
    else if l.mayProbe map then o.startProbe k m
    else o

/-! ### Results (R71, R72) -/

/-- The link moves to the next tile of the chain. -/
def Link.nextTile (l : Link) : Link := { l with tile := l.tile + 1, attempts := 0 }

/-- An Ack: the tile is delivered, and a first-attempt Ack lowers PV (R71, R72). -/
def Link.acked_ (l : Link) : Link :=
  let pv := if l.attempts = 1 then l.pacing - 1 else l.pacing
  { l.nextTile with acked := l.acked ++ [l.tile], pacing := pv, forcedIdle := decide (0 < pv) }

/-- A Nack: PV becomes 31, and the fourth attempt spends the tile (R71, R72). -/
def Link.nacked (l : Link) : Link :=
  let n := { l with nacks := l.nacks + 1, pacing := 31, forcedIdle := true }
  if 4 ≤ l.attempts then { n.nextTile with spent := true } else n

/-- The result of the packet in progress, if one is; a probe's result changes nothing but the counts (R71, R72, R76). -/
def Link.result (ack : Bool) (l : Link) : Link :=
  match l.packet with
  | none => l
  | some x =>
    let n := { l with packet := none }
    if x.probe then (if ack then n else { n with nacks := n.nacks + 1 })
    else if ack then n.acked_ else n.nacked

/-- A link's own part changes, and its Retry condition rises with its first spent tile (R71, R79). -/
def changeLink (k : LinkId) (f : Link → Link) (s : State) : State :=
  let l := f (s.link k)
  let t := s.setLink k l
  if l.spent then raise (monRetry k) none t else t

/-! ### Receiver status (R68, R70, R76) -/

/-- A status that meets a Down link brings it Up; no further packet goes out in the frame that is current (R76; DESIGN CHOICE for a status
outside the frame its probe went out in, log 40). -/
def Link.comeUp (l : Link) : Link := if l.down then { l with down := false, pacing := 0, overrun := false, quiet := true } else l

/-- What every status does: room report, scan group, hold count and last-status frame (R68). A status taken while no slot is open belongs to the
slot that has ended: its hold of n bars the n slots that begin next (R70; DESIGN CHOICE, log 44). -/
def Link.applyStatus (room : Bool) (group : Nat) (hold : Nat) (f : FrameNo) (l : Link) : Link :=
  { l with room := room, group := group, hold := hold, holdFresh := l.slotOpen, lastStatus := f }

/-- A receiver status is taken (R68): a packet's own status comes after the packet's last chunk, any other status is idle. -/
def statusTaken (k : LinkId) (ack room : Bool) (group : Fin 8) (hold : Byte) (afterLast : Bool) (s : State) : State :=
  let t := if (s.link k).down then lower (monDown k) s else s
  changeLink k
    (fun l =>
      let up := l.comeUp
      let res := if afterLast then up.result ack else up
      res.applyStatus room group.val hold.toNat s.frame) t

/-! ### Frame close and frame begin (R73, R74, R77, R79) -/

/-- The delivery record of the frame a link has been sending (R74). -/
def Link.makeRecord (k : LinkId) (f : FrameNo) (l : Link) : DeliveryRecord :=
  { frame := f, link := k, delivered := l.acked, started := l.started, nacks := l.nacks }

/-- Chain tiles not delivered (R74). -/
def DeliveryRecord.stale (d : DeliveryRecord) : List Nat := (List.range 96).filter (fun i => !d.delivered.contains i)

/-- A condition settled as present or absent (R79). -/
def settleMonitor (m : MonitorId) (present : Bool) (s : State) : State := if present then raise m none s else lower m s

/-- A frame begins on a link: fresh counts, and the settings armed for it (R71, R77). -/
def Link.begin (f : FrameNo) (l : Link) : Link :=
  { l with frame := some f, slot := 0, slotOpen := false, mode := l.armed.mode.getD l.mode, pattern := l.armed.pattern.getD l.pattern,
           armed := .none, tile := 0, attempts := 0, acked := [], spent := false, started := 0, nacks := 0 }

/-- Link k closes frame f and begins the current frame (R73, R79); Incomplete is settled before Retry (DESIGN CHOICE, log 41). -/
def closeFrame (k : LinkId) (f : FrameNo) (s : State) : State :=
  let l := (s.link k).endSlot
  let d := l.makeRecord k f
  let t := takeRecord d (s.setLink k { l with record := some d })
  let u := settleMonitor (monRetry k) l.spent (settleMonitor (monIncomplete k) (!d.stale.isEmpty) t)
  u.setLink k ((u.link k).begin s.frame)

/-- The frame a link has still to close: it closes after the tick that ended it, in a step of its own (R73; DESIGN CHOICE, log 17). -/
def Link.toClose (now : FrameNo) (l : Link) : Option FrameNo :=
  match l.frame with
  | none => none
  | some f => if f = now then none else some f

/-- The close of a frame that has not been completed: a packet in progress ends as a Nack first (R73). -/
def forceClose (k : LinkId) (s : State) : State :=
  match (s.link k).toClose s.frame with
  | none => s
  | some f => closeFrame k f (changeLink k (Link.result false) s)

/-- Every frame still to be closed is closed. -/
def forceCloseAll (s : State) : State := allLinks.foldl (fun t k => forceClose k t) s

/-! ### Slot events -/

/-- A slot of link k begins (R64, R66): the slot before it ends, a packet without status being a Nack. -/
def slotStart (k : LinkId) (s : State) : State :=
  let t := forceClose k s
  if (t.link k).frame.isNone then t
  else changeLink k (fun l => (l.result false).endSlot.openSlot k t.comp.map) t

/-- The slot of the packet in progress ends with no status taken (R68). -/
def slotEnd (k : LinkId) (s : State) : State :=
  if (s.link k).packet.isSome then changeLink k (fun l => (l.result false).endSlot) s else s

/-- The slot in which the hold count reaches 0 is about to end (R70). -/
def Link.holdEnds (l : Link) : Bool := l.slotOpen && !l.holdFresh && decide (l.hold = 1)

/-- FRAME_CLOSE of link k: after the tick, once no packet is in progress (R73). -/
def frameClose (k : LinkId) (s : State) : State :=
  if (s.link k).packet.isSome then s else forceClose k s

/-! ### The links at a tick (R73, R75, R76, R77) -/

/-- A link that is Up goes Down at tick f when no status was taken in the 8 frames before it (R75). -/
def Link.goesDown (f : FrameNo) (l : Link) : Bool := !l.down && decide (8 < framesSince f l.lastStatus)

/-- Settings taken over others. -/
def LinkSettings.over (a b : LinkSettings) : LinkSettings := { mode := a.mode.orElse (fun _ => b.mode), pattern := a.pattern.orElse (fun _ => b.pattern) }

/-- A link at tick f: the Down test, the settings armed, the probe frame, and the first frame of all (R64, R75, R76, R77). The frame is a
probe frame where the link is Down at the tick (DESIGN CHOICE, log 40). -/
def Link.tick (f : FrameNo) (l : Link) : Link :=
  let d := if l.goesDown f then { l with down := true, hold := 0, holdFresh := false, room := true } else l
  let e := { d with armed := d.waiting.over d.armed, waiting := .none, probe := d.down, probeSent := false, quiet := false }
  if e.frame.isNone then e.begin f else e

/-- Link k at the tick that has made the counter f; the Down condition is present while the link is Down, from tick 1 on (R79). -/
def linkTick (k : LinkId) (s : State) : State :=
  let t := s.setLink k ((s.link k).tick s.frame)
  if (t.link k).down then raise (monDown k) none t else t

def linksTick (s : State) : State := allLinks.foldl (fun t k => linkTick k t) s

/-! ### Requests (R77, R78) -/

/-- The entries of a pattern field, when each is Send or Idle (R77). -/
def patternOf : List (Named Bool) → Option (List Bool)
  | [] => some []
  | .known b :: rest =>
    match patternOf rest with
    | none => none
    | some l => some (b :: l)
  | .unknown _ :: _ => none

/-- The settings SetLinkMode gives, or the field at fault (R77). -/
def linkSettings (mode : Option (Named FlowMode)) (pattern : Option (List (Named Bool))) : Except FieldName LinkSettings :=
  match mode with
  | some (.unknown _) => .error .flowMode
  | some (.known m) => linkPattern (some m) pattern
  | none => linkPattern none pattern
where
  linkPattern (m : Option FlowMode) (pattern : Option (List (Named Bool))) : Except FieldName LinkSettings :=
    match pattern with
    | none => .ok ⟨m, none⟩
    | some l =>
      match patternOf l with
      | none => .error .cadencePattern
      | some p => if p.length = 8 ∧ p.contains true then .ok ⟨m, some p⟩ else .error .cadencePattern

/-- SetLinkMode (R77), its fields checked in the order in which the rule lists them (DESIGN CHOICE, log 19). -/
def onSetLinkMode (link : Named LinkSel) (mode : Option (Named FlowMode)) (pattern : Option (List (Named Bool))) (s : State) : State × Ans :=
  let take (k : LinkId) (set : LinkSettings) (t : State) : State := t.setLink k { t.link k with waiting := set.over (t.link k).waiting }
  match link with
  | .unknown _ => (s, .badValue .link)
  | .known sel =>
    match linkSettings mode pattern with
    | .error f => (s, .badValue f)
    | .ok set =>
      match sel with
      | .one k => (take k set s, .done [])
      | .all => (allLinks.foldl (fun t k => take k set t) s, .done [])

/-- Link states in the order of R75: Down, Up, Held. -/
def Link.stateCode (l : Link) : Nat := if l.down then 0 else if 0 < l.hold then 2 else 1

/-- Cadence entries: Send, Idle (R65). -/
def patternAtoms (l : List Bool) : List Atom := listAtoms (fun b => [Atom.named (if b then 0 else 1)]) l

/-- A delivery record with its counts and its Stale tiles (R74, R78). The list of Stale tiles stands for the 96 marks, which are not sent
(DESIGN CHOICE, log 43). -/
def deliveryAtoms (d : DeliveryRecord) : List Atom :=
  [frameAtom d.frame, nat d.link.val, nat (96 - d.stale.length), nat d.stale.length, nat d.started, nat d.nacks]
    ++ listAtoms (fun i => [nat i]) d.stale

/-- ReadLink (R78). The flow mode and the pattern not yet in force have a presence byte each (DESIGN CHOICE, log 7). Of two settings of one
field taken and not yet in force it gives the later (DESIGN CHOICE, log 43). -/
def onReadLink (link : Nat) (s : State) : State × Ans :=
  match toLink link with
  | none => (s, .badValue .link)
  | some k =>
    let l := s.link k
    let w := l.waiting.over l.armed
    (s, .done ([.named l.stateCode, nat l.hold, .named (flowCode l.mode)] ++ patternAtoms l.pattern
        ++ optAtoms (fun m => [Atom.named (flowCode m)]) w.mode ++ optAtoms patternAtoms w.pattern
        ++ [nat l.pacing, .named (if l.room then 0 else 1), .flag l.overrun, nat l.group, frameAtom l.lastStatus]
        ++ optAtoms deliveryAtoms l.record))

end Sys2Proof.Machine
end

