-- ==== Sys2Proof/Machine/Tick.lean ====
section
/-! DEFINITION. The frame tick (R30, R35, R45 to R48) and the events the manual gives a tick of their own name. -/

namespace Sys2Proof.Machine

/-! ### One region at a tick (R30, R35) -/

/-- The wait count ReadRegion reports is that after the region's last evaluation (R35). -/
def noteWaiting (r : RegionId) (s : State) : State :=
  s.setClaims r { s.claims r with seenWaiting := (s.claims r).waiting.length }

/-- The arbiter's evaluation of a region with its handing on to the engines (R30, R35, R127, R129, R161, R163). The Rotation Engine acts
before the Message Engine, whose settling may offer (DESIGN CHOICE, log 37), and the wait count is taken after both have settled (DESIGN CHOICE, log 42). -/
def evaluate (r : RegionId) (s : State) : State :=
  match s.region r with
  | none => s
  | some g =>
    if g.fixed then s
    else
      let e := arbitrate r g (countPass r (countSpot r g s))
      noteWaiting r (messageAct r g e.2 (rotationAct r g e.2 e.1))

/-- Every region in ascending id (R30). -/
def evaluateAll (s : State) : State := allRegions.foldl (fun t r => evaluate r t) s

/-! ### The tick (R48) -/

/-- The counter advances at time `t`, and the frame timer is restarted (R45, R48). -/
def advance (t : Nat) (s : State) : State :=
  { s with comp := { s.comp with frame := s.comp.frame + 1, lastTick := t, timerStart := t } }

/-- A frame tick at time `t`: links still closing the frame before finish, the counter advances, inputs and links take the tick, the arbiter
evaluates every region, engines offer again, and the map is built (R30, R35, R48, R49, R55, R75). The tick is one step, so that its selections
come before the tally of the frame that it ends (DESIGN CHOICE, log 17). -/
def frameTick (t : Nat) (s : State) : State :=
  let a := forceCloseAll s
  let b := linksTick (inputTick .pb (inputTick .pa (advance t a)))
  compose (reoffer a.dueOffers (evaluateAll b))

/-- The frame period in force (R45). -/
def State.period (s : State) : Nat := Config.framePeriod s.ratesel

/-- The latest moment the compositor has seen. -/
def Compositor.seen (x : Compositor) : Nat := max x.lastTick (max x.lastEdge x.timerStart)

/-- The tick the frame timer gives when no edge comes before it (R45). -/
def timerTick (s : State) : State := frameTick (s.comp.timerStart + s.period) s

/-! ### Genlock (R45 to R47) -/

/-- An edge produces a tick when at least half a frame period has passed since the last tick (R45). -/
def edgeTicks (s : State) (t : Nat) : Bool := decide (s.period ≤ 2 * (t - s.comp.lastTick))

/-- An edge returns the state to Locked and clears the Genlock condition (R47). -/
def lockTo (t : Nat) (s : State) : State :=
  let u := { s with comp := { s.comp with lastEdge := t, locked := true } }
  if s.comp.locked then u else lower monGenlock u

/-- A genlock edge at time `t` (R45, R47); time does not run back. -/
def genlockEdge (t : Nat) (s : State) : State :=
  if t < s.comp.seen then s
  else if edgeTicks s t then frameTick t (lockTo t s)
  else lockTo t { s with comp := { s.comp with timerStart := t } }

/-- The frame timer has run a full period by time `t` (R45). -/
def timerDue (s : State) (t : Nat) : Bool := decide (s.comp.timerStart + s.period ≤ t)

def timerExpiry (t : Nat) (s : State) : State := if timerDue s t then timerTick s else s

/-- Three frame periods have passed with no edge by time `t` (R46). -/
def lossDue (s : State) (t : Nat) : Bool := s.comp.locked && decide (s.comp.lastEdge + 3 * s.period ≤ t)

/-- The state becomes Freerun and the Genlock condition rises (R46), at this command and not before it (DESIGN CHOICE, log 14). -/
def genlockLoss (t : Nat) (s : State) : State :=
  if lossDue s t then raise monGenlock none { s with comp := { s.comp with locked := false } } else s

/-! ### Events that come about at a tick: whether the next tick brings them -/

/-- The holder's remaining count reaches 0 at the next tick (R31). -/
def durationEnds (s : State) (r : RegionId) : Bool :=
  match (s.claims r).holder with
  | none => false
  | some h => decide (h.mark ≠ some .dropRelease) && decide (h.remaining = some 1)

/-- The current spot's frames run reach its run length at the next tick (R129). -/
def spotEnds (s : State) (r : RegionId) : Bool :=
  (s.claims r).heldBy (.engine .rotation)
    && (match s.currentSpot r, s.spotIn r, s.region r with
        | some x, some t, some g => decide (runLength g t ≤ x.run + 1)
        | _, _, _ => false)

/-- The pass's frames run reach its length at the next tick (R163). -/
def passEnds (s : State) (r : RegionId) : Bool :=
  (s.claims r).heldBy (.engine .message)
    && (match s.pass r with
        | some x => !x.abort && decide (x.length ≤ x.run + 1)
        | none => false)

/-- Flash remaining counts down to 0 with the next map (R101). -/
def flashEnds (s : State) : Bool := decide (s.score.flashLeft = 1)

/-- Lost rises at the next tick (R55). -/
def lostRises (s : State) (i : InputId) : Bool := inputLate (s.input i) (s.frame + 1) && !(s.monitor (monLost i)).condition

/-- The hold count of a treated-Lost input reaches the hold limit of a region in Hold at the next tick (R56). -/
def holdRunsOut (s : State) (r : RegionId) : Bool :=
  match s.region r, (s.claims r).holder with
  | some g, some h =>
    match h.content with
    | .picture i =>
      decide (g.policy = .hold) && s.treatedLost i && decide (g.holdLimit ≤ framesSince (s.frame + 1) (s.input i).lostAt)
    | .asset _ => false
    | .fill _ => false
    | .spot => false
    | .crawl => false
  | _, _ => false

/-- A link goes Down at the next tick (R75). -/
def linkFalls (s : State) (k : LinkId) : Bool := (s.link k).goesDown (s.frame + 1)

/-- An event that a tick brings about is taken with that tick, from the frame timer (DESIGN CHOICE, log 5); one not due changes nothing. -/
def tickIf (due : Bool) (s : State) : State := if due then timerTick s else s

end Sys2Proof.Machine
end

