-- ==== Sys2Proof/Machine/Requests.lean ====
section
/-! DEFINITION. How a request reaches its block and its answer the port (R191, R193, R194, R197). -/

namespace Sys2Proof.Machine

/-- Eight or more answers wait in the port's list: a valid frame is then discarded (R191). -/
def Port.congested (x : Port) : Bool := decide (8 ≤ x.answers.length)

/-- What a block said becomes the port's answer, or its deferred request (R194). PortReset is not counted among the outstanding requests;
ReadStatus clears NoticesLost once its answer is made (R196). -/
def conclude (p : PortId) (q : Byte) (code : Nat) (r : State × Ans) : State :=
  match r.2 with
  | .deferred d => r.1.setPort p (deferTo d (r.1.port p))
  | .reply a =>
    let t := sendAnswer p q code (decide (code ≠ 58)) a r.1
    if code = 59 then t.setPort p (t.port p).statusRead else t

/-- A request that has arrived in a valid frame is checked, and handed to its block or refused (R193). -/
def taken (p : PortId) (q : Byte) (code : Nat) (act : State → State × Ans) (s : State) : State :=
  match gate p code s with
  | some o => sendAnswer p q code false ⟨o, false, []⟩ s
  | none => conclude p q code (act s)

/-- A valid request frame is received (R191): the silence timer restarts, and the request is taken unless eight answers wait. -/
def receive (p : PortId) (q : Byte) (code : Nat) (act : State → State × Ans) (s : State) : State :=
  let t := frameArrives p s
  if (t.port p).congested then t else taken p q code act t

/-- A request handed to the block that owns the state it touches (R193). An event is no request and reaches no block. -/
def handOn (i : Instr) (s : State) : State × Ans :=
  match i with
  | .deviceReset _ _ => (s, .refuse .unknownRequest)
  | .startupScanEnd _ => (s, .refuse .unknownRequest)
  | .genlockEdge _ => (s, .refuse .unknownRequest)
  | .frameTimerExpiry _ => (s, .refuse .unknownRequest)
  | .genlockLost _ => (s, .refuse .unknownRequest)
  | .claimDurationEnd _ => (s, .refuse .unknownRequest)
  | .spotComplete _ => (s, .refuse .unknownRequest)
  | .passComplete _ => (s, .refuse .unknownRequest)
  | .scoreFlashEnd => (s, .refuse .unknownRequest)
  | .inputFrameArrival _ _ _ _ => (s, .refuse .unknownRequest)
  | .inputFrameDiscarded _ => (s, .refuse .unknownRequest)
  | .inputLost _ => (s, .refuse .unknownRequest)
  | .holdLimitFallback _ => (s, .refuse .unknownRequest)
  | .slotStart _ => (s, .refuse .unknownRequest)
  | .receiverStatus _ _ _ _ _ _ => (s, .refuse .unknownRequest)
  | .slotEndNoStatus _ => (s, .refuse .unknownRequest)
  | .linkHoldEnd _ => (s, .refuse .unknownRequest)
  | .frameClose _ => (s, .refuse .unknownRequest)
  | .linkDown _ => (s, .refuse .unknownRequest)
  | .msStep => (s, .refuse .unknownRequest)
  | .mainExpiry => (s, .refuse .unknownRequest)
  | .possessionExpiry => (s, .refuse .unknownRequest)
  | .hornEnd => (s, .refuse .unknownRequest)
  | .whistle => (s, .refuse .unknownRequest)
  | .heldEntryLapse _ _ => (s, .refuse .unknownRequest)
  | .pageProgramStart => (s, .refuse .unknownRequest)
  | .pageProgramEnd _ => (s, .refuse .unknownRequest)
  | .markProgramStart => (s, .refuse .unknownRequest)
  | .markProgramEnd _ => (s, .refuse .unknownRequest)
  | .reclaimBlockJudge => (s, .refuse .unknownRequest)
  | .blockEraseEnd _ => (s, .refuse .unknownRequest)
  | .operationTimeLimit => (s, .refuse .unknownRequest)
  | .rxFrame _ _ => (s, .refuse .unknownRequest)
  | .rxByteGap _ => (s, .refuse .unknownRequest)
  | .silenceTimeout _ => (s, .refuse .unknownRequest)
  | .txFrameEnd _ => (s, .refuse .unknownRequest)
  | .defineRegion _ _ d => onDefineRegion d s
  | .deleteRegion _ _ id => onDeleteRegion id s
  | .setBase _ _ fill dwell => onSetBase fill dwell s
  | .setFill _ _ pattern red green blue => onSetFill pattern red green blue s
  | .readRegion _ _ id => onReadRegion id s
  | .goLive _ _ => onGoLive s
  | .endLive _ _ => onEndLive s
  | .matchReset _ _ => onMatchReset s
  | .setPortRole _ _ port role => onSetPortRole port role s
  | .setPortTimeout _ _ port ms => onSetPortTimeout port ms s
  | .setPriorityMap _ _ port ranks => onSetPriorityMap port ranks s
  | .setEngineRank _ _ engine rank => onSetEngineRank engine rank s
  | .readComposition _ _ col row => onReadComposition col row s
  | .setInput _ _ input limit => onSetInput input limit s
  | .setMonitor _ _ monitor enable latch => onSetMonitor monitor enable latch s
  | .clearFaults _ _ monitor => onClearFaults monitor s
  | .setLinkMode _ _ link mode pattern => onSetLinkMode link mode pattern s
  | .readLink _ _ link => onReadLink link s
  | .messageApprove _ _ port tag => onMessageApprove port tag s
  | .messageReject _ _ port tag => onMessageReject port tag s
  | .messageConfig _ _ f => onMessageConfig f s
  | .claim p _ region tag priority content duration resume => onClaim p region tag priority content duration resume s
  | .release p _ tag => onRelease p tag s
  | .withdraw p q => onWithdraw p q s
  | .resume p _ => onResume p s
  | .readClaims p _ port => onReadClaims p port s
  | .clockStart _ _ => onClockStart s
  | .clockStop _ _ => onClockStop s
  | .clockSet _ _ main possession => onClockSet main possession s
  | .clockAdjust _ _ delta => onClockAdjust delta s
  | .possessionReset _ _ value => onPossessionReset value s
  | .nextPeriod _ _ => onNextPeriod s
  | .scoreSet _ _ f => onScoreSet f s
  | .clockConfig _ _ f => onClockConfig f s
  | .readClock _ _ => onReadClock s
  | .clockMark _ _ mark => onClockMark mark s
  | .capture p _ => onCapture p s
  | .takeCapture _ _ => onTakeCapture s
  | .rotationBegin p _ => onRotationBegin p s
  | .rotationContract p _ id name target qmin => onRotationContract p id name target qmin s
  | .rotationSpot p _ spot contract asset slot regions => onRotationSpot p spot contract asset slot regions s
  | .rotationCommit p _ => onRotationCommit p s
  | .rotationDiscard p _ => onRotationDiscard p s
  | .contractSuspend _ _ id on => onContractSuspend id on s
  | .readRotation _ _ start => onReadRotation start s
  | .readExposure _ _ contract start => onReadExposure contract start s
  | .uploadBegin p q u => onUploadBegin p q u s
  | .uploadLoad p _ offset data => onUploadLoad p offset data s
  | .uploadCommit p q => onUploadCommit p q s
  | .uploadFinish p q => onUploadFinish p q s
  | .uploadAbort p _ => onUploadAbort p s
  | .assetRetire _ _ id => onAssetRetire id s
  | .assetReclaim p q => onAssetReclaim p q s
  | .assetList _ _ startId startPage => onAssetList startId startPage s
  | .messageSubmit p _ tag text style repeats => onMessageSubmit p tag text style repeats s
  | .messageWithdraw p _ tag port => onMessageWithdraw p tag port s
  | .readMessages _ _ start => onReadMessages start s
  | .portReset p _ port => onPortReset p port s
  | .readStatus p _ => onReadStatus p s

end Sys2Proof.Machine
end

