-- ==== Sys2Proof/Machine/EvClock.lean ====
section
/-! DEFINITION. The meanings of the events of the timebase and the whistle line: each is one whole step of the part, after which every free transmitter
starts its next frame (R195). -/

namespace Sys2Proof.Machine

/-- MS_STEP. A ms of the timebase passes (R82 to R85). -/
def execMsStep (s : State) : Host.Outcome State Fault Refusal :=
  .next (pump (Machine.msStep s))

/-- MAIN_EXPIRY. The ms step at which R reaches 0 (R95). -/
def execMainExpiry (s : State) : Host.Outcome State Fault Refusal :=
  .next (pump (msIf s.clock.mainDue s))

/-- POSSESSION_EXPIRY. The ms step at which P reaches 0 (R96). -/
def execPossessionExpiry (s : State) : Host.Outcome State Fault Refusal :=
  .next (pump (msIf s.clock.possessionDue s))

/-- HORN_END. The ms step that reaches the horn's end (R97). -/
def execHornEnd (s : State) : Host.Outcome State Fault Refusal :=
  .next (pump (msIf s.clock.hornDue s))

/-- WHISTLE. A falling edge on the whistle line (R98). -/
def execWhistle (s : State) : Host.Outcome State Fault Refusal :=
  .next (pump (whistleEdge s))

/-- HELD_ENTRY_LAPSE. The ms step at which a Held entry lapses (R158). -/
def execHeldEntryLapse (p : PortId) (tag : Nat) (s : State) : Host.Outcome State Fault Refusal :=
  .next (pump (msIf (lapseDue s p tag) s))

end Sys2Proof.Machine
end

