-- ==== Sys2Proof/Machine/EvFrame.lean ====
section
/-! DEFINITION. The meanings of the events of the frame path: reset, ticks, genlock and the picture inputs: each is one whole step of the part, after which every free transmitter
starts its next frame (R195). -/

namespace Sys2Proof.Machine

/-- DEVICE_RESET. Device reset reads the straps and starts the start-up scan (R17, R44, R62, R80, R108, R116, R137, R150, R168, R187, R202). What a memory operation in
flight leaves is a free value. -/
def execDeviceReset (dirsel : Fin 8) (ratesel : Bool) (s : State) : Host.Outcome State Fault Refusal :=
  .next (pump (State.resetWith s.pending (s.free + 16) (norAtReset s) dirsel ratesel))

/-- STARTUP_SCAN_END. The start-up scan ends (R187, R202). -/
def execStartupScanEnd (failedMarks : List Nat) (s : State) : Host.Outcome State Fault Refusal :=
  .next (pump (scanEnd failedMarks s))

/-- GENLOCK_EDGE. A genlock edge (R45, R47). -/
def execGenlockEdge (t : Nat) (s : State) : Host.Outcome State Fault Refusal :=
  .next (pump (Machine.genlockEdge t s))

/-- FRAME_TIMER_EXPIRY. The frame timer runs a full period (R45). -/
def execFrameTimerExpiry (t : Nat) (s : State) : Host.Outcome State Fault Refusal :=
  .next (pump (timerExpiry t s))

/-- GENLOCK_LOST. Three frame periods with no edge (R46). -/
def execGenlockLost (t : Nat) (s : State) : Host.Outcome State Fault Refusal :=
  .next (pump (genlockLoss t s))

/-- CLAIM_DURATION_END. The tick at which a holder's duration ends (R31, R32). -/
def execClaimDurationEnd (r : RegionId) (s : State) : Host.Outcome State Fault Refusal :=
  .next (pump (tickIf (durationEnds s r) s))

/-- SPOT_COMPLETE. The tick at which a spot completes (R129). -/
def execSpotComplete (r : RegionId) (s : State) : Host.Outcome State Fault Refusal :=
  .next (pump (tickIf (spotEnds s r) s))

/-- PASS_COMPLETE. The tick at which a pass completes (R163). -/
def execPassComplete (r : RegionId) (s : State) : Host.Outcome State Fault Refusal :=
  .next (pump (tickIf (passEnds s r) s))

/-- SCORE_FLASH_END. The tick whose map uses the last flash frame (R101). -/
def execScoreFlashEnd (s : State) : Host.Outcome State Fault Refusal :=
  .next (pump (tickIf (flashEnds s) s))

/-- INPUT_FRAME_ARRIVAL. An input frame is received whole (R54, R55, R57). -/
def execInputFrameArrival (i : InputId) (width : Nat) (height : Nat) (tiles : List Nat) (s : State) : Host.Outcome State Fault Refusal :=
  .next (pump (inputArrival i width height tiles s))

/-- INPUT_FRAME_DISCARDED. An input frame that is not complete is discarded and the latest complete frame is kept (R54). -/
def execInputFrameDiscarded (_i : InputId) (s : State) : Host.Outcome State Fault Refusal :=
  .next (pump (s))

/-- INPUT_LOST. The tick at which Lost rises (R55, R57). -/
def execInputLost (i : InputId) (s : State) : Host.Outcome State Fault Refusal :=
  .next (pump (tickIf (lostRises s i) s))

/-- HOLD_LIMIT_FALLBACK. The tick at which a region in Hold enters Fallback (R32, R56). -/
def execHoldLimitFallback (r : RegionId) (s : State) : Host.Outcome State Fault Refusal :=
  .next (pump (tickIf (holdRunsOut s r) s))

end Sys2Proof.Machine
end

