-- ==== Sys2Proof/Machine/EvLinks.lean ====
section
/-! DEFINITION. The meanings of the events of the panel links: each is one whole step of the part, after which every free transmitter
starts its next frame (R195). -/

namespace Sys2Proof.Machine

/-- SLOT_START. A packet slot begins (R64 to R67, R76). -/
def execSlotStart (k : LinkId) (s : State) : Host.Outcome State Fault Refusal :=
  .next (pump (Machine.slotStart k s))

/-- RECEIVER_STATUS. A receiver status is taken (R68 to R72, R76). -/
def execReceiverStatus (k : LinkId) (ack : Bool) (room : Bool) (group : Fin 8) (hold : Byte) (afterLast : Bool) (s : State) : Host.Outcome State Fault Refusal :=
  .next (pump (statusTaken k ack room group hold afterLast s))

/-- SLOT_END_NO_STATUS. A packet's slot ends with no status taken (R68, R71, R72). -/
def execSlotEndNoStatus (k : LinkId) (s : State) : Host.Outcome State Fault Refusal :=
  .next (pump (slotEnd k s))

/-- LINK_HOLD_END. The slot start at which the hold count has reached 0 (R70); changes nothing when the hold does not end there. -/
def execLinkHoldEnd (k : LinkId) (s : State) : Host.Outcome State Fault Refusal :=
  .next (pump (if (s.link k).holdEnds then Machine.slotStart k s else s))

/-- FRAME_CLOSE. A link closes its frame (R73, R74, R79, R139). -/
def execFrameClose (k : LinkId) (s : State) : Host.Outcome State Fault Refusal :=
  .next (pump (Machine.frameClose k s))

/-- LINK_DOWN. The tick at which a link goes Down (R75). -/
def execLinkDown (k : LinkId) (s : State) : Host.Outcome State Fault Refusal :=
  .next (pump (tickIf (linkFalls s k) s))

end Sys2Proof.Machine
end

