-- ==== Sys2Proof/Machine/EvMemory.lean ====
section
/-! DEFINITION. The meanings of the events of the asset memory: each is one whole step of the part, after which every free transmitter
starts its next frame (R195). -/

namespace Sys2Proof.Machine

/-- PAGE_PROGRAM_START. A page program that waited behind marks starts (R174). -/
def execPageProgramStart (s : State) : Host.Outcome State Fault Refusal :=
  .next (pump (programStart s))

/-- PAGE_PROGRAM_END. A page program ends (R174, R176, R178, R179, R181, R182). -/
def execPageProgramEnd (ok : Bool) (s : State) : Host.Outcome State Fault Refusal :=
  .next (pump (programEnd ok s))

/-- MARK_PROGRAM_START. The mark at the head of the retire list is programmed (R174). -/
def execMarkProgramStart (s : State) : Host.Outcome State Fault Refusal :=
  .next (pump (markStart s))

/-- MARK_PROGRAM_END. A mark program ends (R174). -/
def execMarkProgramEnd (ok : Bool) (s : State) : Host.Outcome State Fault Refusal :=
  .next (pump (markEnd ok s))

/-- RECLAIM_BLOCK_JUDGE. The reclaim judges its next block (R184). -/
def execReclaimBlockJudge (s : State) : Host.Outcome State Fault Refusal :=
  .next (pump (judgeBlock s))

/-- BLOCK_ERASE_END. A block erase ends (R184, R185). -/
def execBlockEraseEnd (ok : Bool) (s : State) : Host.Outcome State Fault Refusal :=
  .next (pump (eraseEnd ok s))

/-- OPERATION_TIME_LIMIT. A memory operation passes its time limit (R174). -/
def execOperationTimeLimit (s : State) : Host.Outcome State Fault Refusal :=
  .next (pump (timeLimit s))

end Sys2Proof.Machine
end

