-- ==== Sys2Proof/Machine/Wire.lean ====
section
/-! DEFINITION. The control link's bytes (R189 to R191): CRC, the forms of payload fields, the receiver, and the frames a
port sends. -/

namespace Sys2Proof.Machine

/-! ### CRC-16 (R189) -/

/-- One bit of the CRC, polynomial 1021h, not reflected. -/
def crcBit (c : BitVec 16) : BitVec 16 := if c.getLsbD 15 then (c <<< 1) ^^^ 0x1021#16 else c <<< 1

/-- One byte of the CRC. -/
def crcByte (c : BitVec 16) (b : Byte) : BitVec 16 :=
  crcBit (crcBit (crcBit (crcBit (crcBit (crcBit (crcBit (crcBit (c ^^^ (BitVec.setWidth 16 b <<< 8)))))))))

/-- The CRC of a frame, over sequence through the end of the payload, initial value FFFFh (R189). -/
def crc16 (l : List Byte) : BitVec 16 := l.foldl crcByte 0xFFFF#16

/-! ### Fields as bytes (R190) -/

/-- A number of `n` bytes, high byte first. -/
def bytesOf : Nat → Nat → List Byte
  | 0, _ => []
  | n + 1, v => BitVec.ofNat 8 (v / 256 ^ n) :: bytesOf n v

/-- An atom of a payload as bytes (R190). -/
def Atom.bytes : Atom → List Byte
  | .num n => bytesOf 4 (n % 4294967296).toNat
  | .ms n => bytesOf 8 n.toNat
  | .flag b => [if b then 1 else 0]
  | .named code => [BitVec.ofNat 8 code]
  | .glyph code => [BitVec.ofNat 8 code]
  | .count n => bytesOf 2 n
  | .absent => [0]
  | .present => [1]
  | .field name => [BitVec.ofNat 8 name.code]

/-- The payload of a frame a port sends; an Answer begins with its flags and the request code answered (R189). -/
def TxFrame.payload : TxFrame → List Byte
  | .answer a =>
    BitVec.ofNat 8 ((if a.adjusted then 1 else 0) + (if a.noticesLost then 2 else 0)) :: BitVec.ofNat 8 a.code :: a.fields.flatMap Atom.bytes
  | .notice n _ => n.fields.flatMap Atom.bytes

/-- Sequence, kind and code of a frame a port sends (R189). -/
def TxFrame.head : TxFrame → List Byte
  | .answer a => [a.seq, 2, BitVec.ofNat 8 a.outcome.code]
  | .notice n number => [number, 3, BitVec.ofNat 8 n.kind.code]

/-- The bytes of a frame a port sends (R189). -/
def TxFrame.bytes (x : TxFrame) : List Byte :=
  let body := x.head ++ bytesOf 2 x.payload.length ++ x.payload
  0xA5#8 :: body ++ bytesOf 2 (crc16 body).toNat

/-! ### Reading fields (R190) -/

/-- Reading a field from the bytes of a payload: the field and the bytes after it, or nothing when they do not carry it. -/
abbrev Take (α : Type) := List Byte → Option (α × List Byte)

/-- A value that takes no bytes. -/
def Take.value {α : Type} (a : α) : Take α := fun l => some (a, l)

/-- One field and then what follows it. -/
def Take.andThen {α β : Type} (x : Take α) (f : α → Take β) : Take β := fun l =>
  match x l with
  | none => none
  | some (a, rest) => f a rest

def takeByte : Take Nat
  | [] => none
  | b :: rest => some (b.toNat, rest)

/-- An unsigned number of 4 bytes. -/
def takeNum : Take Nat
  | a :: b :: c :: d :: rest => some (((a.toNat * 256 + b.toNat) * 256 + c.toNat) * 256 + d.toNat, rest)
  | _ => none

/-- A two's complement number of 4 bytes. -/
def takeInt : Take Int := Take.andThen takeNum (fun n => Take.value (if n < 2147483648 then (n : Int) else (n : Int) - 4294967296))

/-- A flag, or a presence byte: 00h or 01h. -/
def takeFlag : Take Bool
  | [] => none
  | b :: rest => if b = 0 then some (false, rest) else if b = 1 then some (true, rest) else none

/-- A named value by its place; one beyond the field's values is kept as unknown. -/
def takeNamed {α : Type} (values : List α) : Take (Named α) :=
  Take.andThen takeByte (fun n => Take.value (match values[n]? with
                                     | some a => .known a
                                     | none => .unknown n))

/-- A field that may be left out. -/
def takeOpt {α : Type} (x : Take α) : Take (Option α) :=
  Take.andThen takeFlag (fun b => if b then Take.andThen x (fun a => Take.value (some a)) else Take.value none)

/-- `n` items. -/
def takeItems {α : Type} (x : Take α) : Nat → Take (List α)
  | 0 => Take.value []
  | n + 1 => Take.andThen x (fun a => Take.andThen (takeItems x n) (fun l => Take.value (a :: l)))

/-- A list: a 2-byte count, then its items. -/
def takeList {α : Type} (x : Take α) : Take (List α) :=
  Take.andThen takeByte (fun a => Take.andThen takeByte (fun b => takeItems x (a * 256 + b)))

/-- The content of a Claim, kinds in the order of R19; a kind beyond them is taken to carry no fields (DESIGN CHOICE, log 7). -/
def takeContent : Take ContentField :=
  Take.andThen takeByte (fun n =>
    match n with
    | 0 => Take.andThen (takeNamed allInputs) (fun i => Take.value (.picture i))
    | 1 => Take.andThen takeNum (fun id => Take.value (.asset id))
    | 2 => Take.andThen takeNum (fun f => Take.value (.fill f))
    | 3 => Take.value .spot
    | 4 => Take.value .crawl
    | m => Take.value (.unknown m))

/-! ### Requests as bytes (R193) -/

/-- The values of named fields, in the order of the rules that define them. -/
def allRoles : List Role := [.director, .scoring, .replay, .sponsor, .messages, .general]
def allEngines : List Engine := [.rotation, .message]
def allPolicies : List FaultPolicy := [.hold, .fallback]
def allViews : List ViewBinding := [.none, .mainClock, .possession, .score, .period]
def allFlows : List FlowMode := [.strict, .oneAhead]
def allArrows : List Arrow := [.home, .away, .none]
def allStyles : List Style := [.normal, .stoppage]
def allKinds : List AssetKind := [.image, .glyphSet]
def allLinkSels : List LinkSel := allLinks.map LinkSel.one ++ [.all]

/-- Send and Idle, as the places of a cadence entry (R65). -/
def allEntries : List Bool := [true, false]

/-- The fields of DefineRegion, each of the three flags with a presence byte of its own (DESIGN CHOICE, log 7). -/
def takeDefine : Take DefineFields :=
  Take.andThen takeNum fun id => Take.andThen takeNum fun layer => Take.andThen takeNum fun col => Take.andThen takeNum fun row =>
  Take.andThen takeNum fun width => Take.andThen takeNum fun height => Take.andThen (takeOpt takeNum) fun dwell =>
  Take.andThen (takeOpt takeFlag) fun sponsor => Take.andThen (takeOpt takeFlag) fun message =>
  Take.andThen (takeOpt takeFlag) fun stoppage => Take.andThen (takeOpt (takeNamed allPolicies)) fun policy =>
  Take.andThen (takeOpt takeNum) fun holdLimit => Take.andThen (takeOpt takeNum) fun fill =>
  Take.andThen (takeOpt (takeNamed allViews)) fun view => Take.andThen (takeOpt takeNum) fun glyphSet =>
  Take.value { id := id, layer := layer, col := col, row := row, width := width, height := height, dwell := dwell, sponsor := sponsor,
               message := message, stoppage := stoppage, policy := policy, holdLimit := holdLimit, fill := fill, view := view,
               glyphSet := glyphSet }

def takeScore : Take ScoreFields :=
  Take.andThen (takeOpt takeNum) fun home => Take.andThen (takeOpt takeNum) fun away => Take.andThen (takeOpt takeNum) fun homeFouls =>
  Take.andThen (takeOpt takeNum) fun awayFouls => Take.andThen (takeOpt takeNum) fun homeTimeouts =>
  Take.andThen (takeOpt takeNum) fun awayTimeouts => Take.andThen (takeOpt (takeNamed allArrows)) fun arrow =>
  Take.value { home := home, away := away, homeFouls := homeFouls, awayFouls := awayFouls, homeTimeouts := homeTimeouts,
               awayTimeouts := awayTimeouts, arrow := arrow }

def takeClock : Take ClockFields :=
  Take.andThen (takeOpt takeNum) fun length => Take.andThen (takeOpt takeNum) fun reset => Take.andThen (takeOpt takeNum) fun window =>
  Take.andThen (takeOpt takeNum) fun hysteresis => Take.andThen (takeOpt takeNum) fun horn => Take.andThen (takeOpt takeFlag) fun whistle =>
  Take.andThen (takeOpt takeNum) fun flash =>
  Take.value { length := length, possessionReset := reset, window := window, hysteresis := hysteresis, hornLength := horn,
               whistleStop := whistle, flashLength := flash }

/-- The settings of MessageConfig. The continuation glyph and the substitute glyph are read as numbers of 4 bytes, since R153 clamps them to
0..255 (DESIGN CHOICE, log 7). -/
def takeMessageFields : Take MessageFields :=
  Take.andThen (takeOpt takeNum) fun maxLength => Take.andThen (takeOpt takeNum) fun continuation =>
  Take.andThen (takeOpt takeNum) fun substitute => Take.andThen (takeOpt takeNum) fun speed => Take.andThen (takeOpt takeNum) fun limit =>
  Take.value { maxLength := maxLength, continuation := continuation, substitute := substitute, speed := speed, holdLimit := limit }

/-- The fields of UploadBegin, the advance widths as numbers of 4 bytes (R190). The 256 of a GlyphSet (R176) do not fit the 1,024 payload
bytes of a frame (R189), so that no frame carries them; the request's row of the table does (DESIGN CHOICE, log 11). -/
def takeUpload : Take UploadFields :=
  Take.andThen takeNum fun id => Take.andThen (takeNamed allKinds) fun kind =>
  Take.andThen (takeOpt (Take.andThen takeNum fun w => Take.andThen takeNum fun h => Take.value (w, h))) fun dims =>
  Take.andThen (takeOpt (takeList takeNum)) fun widths => Take.value { id := id, kind := kind, dims := dims, widths := widths }

/-- The fields of a request by its code, in the order its rule names them (R190, R193). -/
def takeRequest (p : PortId) (q : Byte) (code : Nat) : Take Instr :=
  match code with
  | 1 => Take.andThen takeDefine fun d => Take.value (.defineRegion p q d)
  | 2 => Take.andThen takeNum fun id => Take.value (.deleteRegion p q id)
  | 3 => Take.andThen (takeOpt takeNum) fun fill => Take.andThen (takeOpt takeNum) fun dwell => Take.value (.setBase p q fill dwell)
  | 4 =>
    Take.andThen takeNum fun n => Take.andThen takeNum fun r => Take.andThen takeNum fun g => Take.andThen takeNum fun b =>
    Take.value (.setFill p q n r g b)
  | 5 => Take.andThen takeNum fun id => Take.value (.readRegion p q id)
  | 6 => Take.value (.goLive p q)
  | 7 => Take.value (.endLive p q)
  | 8 => Take.value (.matchReset p q)
  | 9 => Take.andThen takeNum fun n => Take.andThen (takeNamed allRoles) fun r => Take.value (.setPortRole p q n r)
  | 10 => Take.andThen takeNum fun n => Take.andThen takeNum fun ms => Take.value (.setPortTimeout p q n ms)
  | 11 => Take.andThen takeNum fun n => Take.andThen (takeList takeNum) fun l => Take.value (.setPriorityMap p q n l)
  | 12 => Take.andThen (takeNamed allEngines) fun e => Take.andThen takeNum fun r => Take.value (.setEngineRank p q e r)
  | 13 => Take.andThen takeNum fun c => Take.andThen takeNum fun r => Take.value (.readComposition p q c r)
  | 14 => Take.andThen (takeNamed allInputs) fun i => Take.andThen takeNum fun n => Take.value (.setInput p q i n)
  | 15 =>
    Take.andThen (takeNamed allMonitors) fun m => Take.andThen (takeOpt takeFlag) fun e => Take.andThen (takeOpt takeFlag) fun l =>
    Take.value (.setMonitor p q m e l)
  | 16 => Take.andThen (takeOpt (takeNamed allMonitors)) fun m => Take.value (.clearFaults p q m)
  | 17 =>
    Take.andThen (takeNamed allLinkSels) fun k => Take.andThen (takeOpt (takeNamed allFlows)) fun m =>
    Take.andThen (takeOpt (takeList (takeNamed allEntries))) fun l => Take.value (.setLinkMode p q k m l)
  | 18 => Take.andThen takeNum fun k => Take.value (.readLink p q k)
  | 19 => Take.andThen takeNum fun n => Take.andThen takeNum fun t => Take.value (.messageApprove p q n t)
  | 20 => Take.andThen takeNum fun n => Take.andThen takeNum fun t => Take.value (.messageReject p q n t)
  | 21 => Take.andThen takeMessageFields fun f => Take.value (.messageConfig p q f)
  | 22 =>
    Take.andThen takeNum fun region => Take.andThen takeNum fun tag => Take.andThen takeNum fun priority => Take.andThen takeContent fun c =>
    Take.andThen takeNum fun duration => Take.andThen takeFlag fun resume => Take.value (.claim p q region tag priority c duration resume)
  | 23 => Take.andThen takeNum fun t => Take.value (.release p q t)
  | 24 => Take.value (.withdraw p q)
  | 25 => Take.value (.resume p q)
  | 26 => Take.andThen takeNum fun n => Take.value (.readClaims p q n)
  | 27 => Take.value (.clockStart p q)
  | 28 => Take.value (.clockStop p q)
  | 29 => Take.andThen (takeOpt takeNum) fun r => Take.andThen (takeOpt takeNum) fun x => Take.value (.clockSet p q r x)
  | 30 => Take.andThen takeInt fun d => Take.value (.clockAdjust p q d)
  | 31 => Take.andThen (takeOpt takeNum) fun v => Take.value (.possessionReset p q v)
  | 32 => Take.value (.nextPeriod p q)
  | 33 => Take.andThen takeScore fun f => Take.value (.scoreSet p q f)
  | 34 => Take.andThen takeClock fun f => Take.value (.clockConfig p q f)
  | 35 => Take.value (.readClock p q)
  | 36 => Take.andThen takeNum fun m => Take.value (.clockMark p q m)
  | 37 => Take.value (.capture p q)
  | 38 => Take.value (.takeCapture p q)
  | 39 => Take.value (.rotationBegin p q)
  | 40 =>
    Take.andThen takeNum fun id => Take.andThen (takeOpt (takeList takeByte)) fun name => Take.andThen (takeOpt takeNum) fun target =>
    Take.andThen (takeOpt takeNum) fun qmin => Take.value (.rotationContract p q id name target qmin)
  | 41 =>
    Take.andThen takeNum fun spot => Take.andThen takeNum fun contract => Take.andThen takeNum fun asset => Take.andThen takeNum fun slot =>
    Take.andThen (takeList takeNum) fun regions => Take.value (.rotationSpot p q spot contract asset slot regions)
  | 42 => Take.value (.rotationCommit p q)
  | 43 => Take.value (.rotationDiscard p q)
  | 44 => Take.andThen takeNum fun id => Take.andThen takeFlag fun on => Take.value (.contractSuspend p q id on)
  | 45 => Take.andThen (takeOpt takeNum) fun start => Take.value (.readRotation p q start)
  | 46 => Take.andThen (takeOpt takeNum) fun c => Take.andThen (takeOpt takeNum) fun start => Take.value (.readExposure p q c start)
  | 47 => Take.andThen takeUpload fun u => Take.value (.uploadBegin p q u)
  | 48 =>
    Take.andThen takeNum fun offset => Take.andThen (takeList takeByte) fun l =>
    Take.value (.uploadLoad p q offset (l.map (BitVec.ofNat 8)))
  | 49 => Take.value (.uploadCommit p q)
  | 50 => Take.value (.uploadFinish p q)
  | 51 => Take.value (.uploadAbort p q)
  | 52 => Take.andThen takeNum fun id => Take.value (.assetRetire p q id)
  | 53 => Take.value (.assetReclaim p q)
  | 54 => Take.andThen (takeOpt takeNum) fun id => Take.andThen (takeOpt takeNum) fun page => Take.value (.assetList p q id page)
  | 55 =>
    Take.andThen takeNum fun tag => Take.andThen (takeList takeByte) fun text => Take.andThen (takeNamed allStyles) fun style =>
    Take.andThen (takeOpt takeNum) fun repeats => Take.value (.messageSubmit p q tag text style repeats)
  | 56 => Take.andThen takeNum fun tag => Take.andThen (takeOpt takeNum) fun n => Take.value (.messageWithdraw p q tag n)
  | 57 => Take.andThen (takeOpt takeNum) fun start => Take.value (.readMessages p q start)
  | 58 => Take.andThen (takeOpt takeNum) fun n => Take.value (.portReset p q n)
  | 59 => Take.value (.readStatus p q)
  | _ => fun _ => none

/-- A payload that carries exactly the fields of its request (R193, check 5). -/
def readPayload (p : PortId) (q : Byte) (code : Nat) (payload : List Byte) : Option Instr :=
  match takeRequest p q code payload with
  | some (i, []) => some i
  | some (_, _ :: _) => none
  | none => none

/-! ### Requests as a master sends them (R189, R190) -/

/-- A named value by its place. -/
def namedAtom {α : Type} (code : α → Nat) : Named α → Atom
  | .known a => .named (code a)
  | .unknown c => .named c

def optNamed {α : Type} (code : α → Nat) (v : Option (Named α)) : List Atom := optAtoms (fun x => [namedAtom code x]) v

def optFlag (b : Option Bool) : List Atom := optAtoms (fun x => [Atom.flag x]) b

def engineCode : Engine → Nat
  | .rotation => 0
  | .message => 1

def linkSelCode : LinkSel → Nat
  | .one k => k.val
  | .all => 8

/-- Send, Idle. -/
def entryCode (b : Bool) : Nat := if b then 0 else 1

/-- The content of a Claim as a record (R19, R190). -/
def contentFieldAtoms : ContentField → List Atom
  | .picture i => [.named 0, namedAtom inputCode i]
  | .asset id => [.named 1, nat id]
  | .fill n => [.named 2, nat n]
  | .spot => [.named 3]
  | .crawl => [.named 4]
  | .unknown c => [.named c]

/-- Bytes as a list of 1-byte items (R190; DESIGN CHOICE, log 11). -/
def byteListAtoms (l : List Byte) : List Atom := listAtoms (fun b => [Atom.glyph b.toNat]) l

def defineAtoms (d : DefineFields) : List Atom :=
  [nat d.id, nat d.layer, nat d.col, nat d.row, nat d.width, nat d.height] ++ optNat d.dwell ++ optFlag d.sponsor ++ optFlag d.message
    ++ optFlag d.stoppage ++ optNamed policyCode d.policy ++ optNat d.holdLimit ++ optNat d.fill ++ optNamed viewCode d.view ++ optNat d.glyphSet

/-- A request on the link: its port, sequence number, code and fields; nothing for an event. The forms of fields that R190 does not give are
those of logs 7, 11 and 31. -/
def wireOf (i : Instr) : Option (PortId × Byte × Nat × List Atom) :=
  match i with
  | .deviceReset _ _ => none
  | .startupScanEnd _ => none
  | .genlockEdge _ => none
  | .frameTimerExpiry _ => none
  | .genlockLost _ => none
  | .claimDurationEnd _ => none
  | .spotComplete _ => none
  | .passComplete _ => none
  | .scoreFlashEnd => none
  | .inputFrameArrival _ _ _ _ => none
  | .inputFrameDiscarded _ => none
  | .inputLost _ => none
  | .holdLimitFallback _ => none
  | .slotStart _ => none
  | .receiverStatus _ _ _ _ _ _ => none
  | .slotEndNoStatus _ => none
  | .linkHoldEnd _ => none
  | .frameClose _ => none
  | .linkDown _ => none
  | .msStep => none
  | .mainExpiry => none
  | .possessionExpiry => none
  | .hornEnd => none
  | .whistle => none
  | .heldEntryLapse _ _ => none
  | .pageProgramStart => none
  | .pageProgramEnd _ => none
  | .markProgramStart => none
  | .markProgramEnd _ => none
  | .reclaimBlockJudge => none
  | .blockEraseEnd _ => none
  | .operationTimeLimit => none
  | .rxFrame _ _ => none
  | .rxByteGap _ => none
  | .silenceTimeout _ => none
  | .txFrameEnd _ => none
  | .defineRegion p q d => some (p, q, 1, defineAtoms d)
  | .deleteRegion p q id => some (p, q, 2, [nat id])
  | .setBase p q fill dwell => some (p, q, 3, optNat fill ++ optNat dwell)
  | .setFill p q pattern red green blue => some (p, q, 4, [nat pattern, nat red, nat green, nat blue])
  | .readRegion p q id => some (p, q, 5, [nat id])
  | .goLive p q => some (p, q, 6, [])
  | .endLive p q => some (p, q, 7, [])
  | .matchReset p q => some (p, q, 8, [])
  | .setPortRole p q port role => some (p, q, 9, [nat port, namedAtom roleCode role])
  | .setPortTimeout p q port ms => some (p, q, 10, [nat port, nat ms])
  | .setPriorityMap p q port ranks => some (p, q, 11, nat port :: listAtoms (fun r => [nat r]) ranks)
  | .setEngineRank p q engine rank => some (p, q, 12, [namedAtom engineCode engine, nat rank])
  | .readComposition p q col row => some (p, q, 13, [nat col, nat row])
  | .setInput p q input limit => some (p, q, 14, [namedAtom inputCode input, nat limit])
  | .setMonitor p q monitor enable latch => some (p, q, 15, namedAtom (fun m => m.val) monitor :: (optFlag enable ++ optFlag latch))
  | .clearFaults p q monitor => some (p, q, 16, optNamed (fun m => m.val) monitor)
  | .setLinkMode p q link mode pattern =>
    some (p, q, 17, namedAtom linkSelCode link :: (optNamed flowCode mode
      ++ optAtoms (fun l => listAtoms (fun e => [namedAtom entryCode e]) l) pattern))
  | .readLink p q link => some (p, q, 18, [nat link])
  | .messageApprove p q port tag => some (p, q, 19, [nat port, nat tag])
  | .messageReject p q port tag => some (p, q, 20, [nat port, nat tag])
  | .messageConfig p q f =>
    some (p, q, 21, optNat f.maxLength ++ optNat f.continuation ++ optNat f.substitute ++ optNat f.speed ++ optNat f.holdLimit)
  | .claim p q region tag priority content duration resume =>
    some (p, q, 22, [nat region, nat tag, nat priority] ++ contentFieldAtoms content ++ [nat duration, .flag resume])
  | .release p q tag => some (p, q, 23, [nat tag])
  | .withdraw p q => some (p, q, 24, [])
  | .resume p q => some (p, q, 25, [])
  | .readClaims p q port => some (p, q, 26, [nat port])
  | .clockStart p q => some (p, q, 27, [])
  | .clockStop p q => some (p, q, 28, [])
  | .clockSet p q main possession => some (p, q, 29, optNat main ++ optNat possession)
  | .clockAdjust p q delta => some (p, q, 30, [.num delta])
  | .possessionReset p q value => some (p, q, 31, optNat value)
  | .nextPeriod p q => some (p, q, 32, [])
  | .scoreSet p q f =>
    some (p, q, 33, optNat f.home ++ optNat f.away ++ optNat f.homeFouls ++ optNat f.awayFouls ++ optNat f.homeTimeouts
      ++ optNat f.awayTimeouts ++ optNamed arrowCode f.arrow)
  | .clockConfig p q f =>
    some (p, q, 34, optNat f.length ++ optNat f.possessionReset ++ optNat f.window ++ optNat f.hysteresis ++ optNat f.hornLength
      ++ optFlag f.whistleStop ++ optNat f.flashLength)
  | .readClock p q => some (p, q, 35, [])
  | .clockMark p q mark => some (p, q, 36, [nat mark])
  | .capture p q => some (p, q, 37, [])
  | .takeCapture p q => some (p, q, 38, [])
  | .rotationBegin p q => some (p, q, 39, [])
  | .rotationContract p q id name target qmin => some (p, q, 40, nat id :: (optAtoms textAtoms name ++ optNat target ++ optNat qmin))
  | .rotationSpot p q spot contract asset slot regions =>
    some (p, q, 41, [nat spot, nat contract, nat asset, nat slot] ++ listAtoms (fun n => [nat n]) regions)
  | .rotationCommit p q => some (p, q, 42, [])
  | .rotationDiscard p q => some (p, q, 43, [])
  | .contractSuspend p q id on => some (p, q, 44, [nat id, .flag on])
  | .readRotation p q start => some (p, q, 45, optNat start)
  | .readExposure p q contract start => some (p, q, 46, optNat contract ++ optNat start)
  | .uploadBegin p q u =>
    some (p, q, 47, [nat u.id, namedAtom kindCode u.kind] ++ optAtoms (fun (d : Nat × Nat) => [nat d.1, nat d.2]) u.dims
      ++ optAtoms (listAtoms (fun n => [nat n])) u.widths)
  | .uploadLoad p q offset data => some (p, q, 48, nat offset :: byteListAtoms data)
  | .uploadCommit p q => some (p, q, 49, [])
  | .uploadFinish p q => some (p, q, 50, [])
  | .uploadAbort p q => some (p, q, 51, [])
  | .assetRetire p q id => some (p, q, 52, [nat id])
  | .assetReclaim p q => some (p, q, 53, [])
  | .assetList p q startId startPage => some (p, q, 54, optNat startId ++ optNat startPage)
  | .messageSubmit p q tag text style repeats => some (p, q, 55, nat tag :: (textAtoms text ++ [namedAtom styleCode style] ++ optNat repeats))
  | .messageWithdraw p q tag port => some (p, q, 56, nat tag :: optNat port)
  | .readMessages p q start => some (p, q, 57, optNat start)
  | .portReset p q port => some (p, q, 58, optNat port)
  | .readStatus p q => some (p, q, 59, [])

/-- The bytes of a request frame (R189). -/
def requestFrame (q : Byte) (code : Nat) (payload : List Byte) : List Byte :=
  let body := [q, 1, BitVec.ofNat 8 code] ++ bytesOf 2 payload.length ++ payload
  0xA5#8 :: body ++ bytesOf 2 (crc16 body).toNat

/-! ### The receiver (R191) -/

/-- A valid frame, its bytes from the sequence number to the end of the payload. -/
structure RxFrame where
  seq : Byte
  kind : Byte
  code : Byte
  payload : List Byte
  deriving DecidableEq, Repr


/-- A request refused Malformed by check 5 of R193 reached no block: its answer is made without its being outstanding. -/
def takenFrame (p : PortId) (f : RxFrame) (s : State) : State :=
  match gate p f.code.toNat s, readPayload p f.seq f.code.toNat f.payload with
  | some o, _ => sendAnswer p f.seq f.code.toNat false ⟨o, false, []⟩ s
  | none, none => sendAnswer p f.seq f.code.toNat false ⟨.malformed, false, []⟩ s
  | none, some i => conclude p f.seq f.code.toNat (handOn i s)

/-- A valid frame is received (R191): a Request is taken; a frame of another kind is answered Malformed. -/
def validFrame (p : PortId) (f : RxFrame) (s : State) : State :=
  let t := frameArrives p s
  if (t.port p).congested then t
  else if f.kind = 1 then takenFrame p f t
  else sendAnswer p f.seq f.code.toNat false ⟨.malformed, false, []⟩ t

/-- The payload length a frame's header gives (R189). -/
def lengthOf (rx : List Byte) : Nat := (rx.getD 4 0).toNat * 256 + (rx.getD 5 0).toNat

/-- What the receiver makes of the bytes it holds after one more. -/
inductive RxResult where
  | more
  | damaged
  | valid (f : RxFrame)
  deriving DecidableEq, Repr

/-- A frame whole, with its CRC over sequence through payload checked (R189, R191). -/
def wholeFrame (rx : List Byte) (n : Nat) : RxResult :=
  let body := (rx.drop 1).take (5 + n)
  if bytesOf 2 (crc16 body).toNat = rx.drop (6 + n) then
    .valid { seq := rx.getD 1 0, kind := rx.getD 2 0, code := rx.getD 3 0, payload := body.drop 5 }
  else .damaged

/-- The bytes received so far, delimiter first: incomplete, damaged, or a valid frame (R191). -/
def judgeBytes (rx : List Byte) : RxResult :=
  if rx.length < 6 then .more
  else if 1024 < lengthOf rx then .damaged
  else if rx.length < 8 + lengthOf rx then .more
  else wholeFrame rx (lengthOf rx)

def setRx (p : PortId) (rx : List Byte) (s : State) : State := s.setPort p { s.port p with rx := rx }

/-- One byte at the receiver of a port: it hunts for a delimiter, or fills the frame it has begun (R191). The taking of a frame is a whole
step, after which every free transmitter starts its next frame, before the byte that follows (R195). -/
def rxByte (p : PortId) (s : State) (b : Byte) : State :=
  let rx := (s.port p).rx
  if rx.isEmpty then (if b = 0xA5#8 then setRx p [b] s else s)
  else
    match judgeBytes (rx ++ [b]) with
    | .more => setRx p (rx ++ [b]) s
    | .damaged => setRx p [] s
    | .valid f => pump (validFrame p f (setRx p [] s))

/-- Bytes at the receiver of a port, in order (R191). -/
def rxBytes (p : PortId) (bytes : List Byte) (s : State) : State := bytes.foldl (rxByte p) s

end Sys2Proof.Machine
end

