-- ==== Sys2Proof/Machine/EvPorts.lean ====
section
/-! DEFINITION. The meanings of the events of the control links: each is one whole step of the part, after which every free transmitter
starts its next frame (R195). -/

namespace Sys2Proof.Machine

/-- RX_FRAME. Bytes reach the receiver of a port (R189, R191, R193). -/
def execRxFrame (p : PortId) (bytes : List Byte) (s : State) : Host.Outcome State Fault Refusal :=
  .next (pump (rxBytes p bytes s))

/-- RX_BYTE_GAP. A gap of more than 1 ms damages the frame being received (R191). -/
def execRxByteGap (p : PortId) (s : State) : Host.Outcome State Fault Refusal :=
  .next (pump (byteGap p s))

/-- SILENCE_TIMEOUT. A port's silence timer reaches its timeout (R198, R199). -/
def execSilenceTimeout (p : PortId) (s : State) : Host.Outcome State Fault Refusal :=
  .next (pump (silenceExpiry p s))

/-- TX_FRAME_END. A transmitted frame ends (R194, R195). -/
def execTxFrameEnd (p : PortId) (s : State) : Host.Outcome State Fault Refusal :=
  .next (pump (txEnd p s))

end Sys2Proof.Machine
end

