-- ==== Sys2Proof/Machine/ReqAssets.lean ====
section
/-! DEFINITION. The meanings of the asset requests, codes 47 to 54: each is one whole step of the part, after which every free transmitter
starts its next frame (R195). -/

namespace Sys2Proof.Machine

/-- UPLOAD_BEGIN. Allocates a run, opens an upload and programs the header (R176; R191, R193, R194). -/
def execUploadBegin (p : PortId) (q : Byte) (u : UploadFields) (s : State) : Host.Outcome State Fault Refusal :=
  .next (pump (receive p q 47 (onUploadBegin p q u) s))

/-- UPLOAD_LOAD. Writes bytes into the page buffer (R177; R191, R193, R194). -/
def execUploadLoad (p : PortId) (q : Byte) (offset : Nat) (data : List Byte) (s : State) : Host.Outcome State Fault Refusal :=
  .next (pump (receive p q 48 (onUploadLoad p offset data) s))

/-- UPLOAD_COMMIT. Programs the page buffer into the next content page (R178; R191, R193, R194). -/
def execUploadCommit (p : PortId) (q : Byte) (s : State) : Host.Outcome State Fault Refusal :=
  .next (pump (receive p q 49 (onUploadCommit p q) s))

/-- UPLOAD_FINISH. Programs the Complete mark and closes the upload (R179; R191, R193, R194). -/
def execUploadFinish (p : PortId) (q : Byte) (s : State) : Host.Outcome State Fault Refusal :=
  .next (pump (receive p q 50 (onUploadFinish p q) s))

/-- UPLOAD_ABORT. Retires the upload's asset and closes the upload (R180; R191, R193, R194). -/
def execUploadAbort (p : PortId) (q : Byte) (s : State) : Host.Outcome State Fault Refusal :=
  .next (pump (receive p q 51 (onUploadAbort p) s))

/-- ASSET_RETIRE. Retires an unpinned Complete asset (R183; R191, R193, R194). -/
def execAssetRetire (p : PortId) (q : Byte) (id : Nat) (s : State) : Host.Outcome State Fault Refusal :=
  .next (pump (receive p q 52 (onAssetRetire id) s))

/-- ASSET_RECLAIM. Starts erasing every qualifying block in ascending order (R184; R191, R193, R194). -/
def execAssetReclaim (p : PortId) (q : Byte) (s : State) : Host.Outcome State Fault Refusal :=
  .next (pump (receive p q 53 (onAssetReclaim p q) s))

/-- ASSET_LIST. Lists directory records and memory totals (R186; R191, R193, R194). -/
def execAssetList (p : PortId) (q : Byte) (startId : Option Nat) (startPage : Option Nat) (s : State) : Host.Outcome State Fault Refusal :=
  .next (pump (receive p q 54 (onAssetList startId startPage) s))

end Sys2Proof.Machine
end

