-- ==== Sys2Proof/Machine/ReqCanvas.lean ====
section
/-! DEFINITION. The meanings of the canvas requests, codes 1 to 8: each is one whole step of the part, after which every free transmitter
starts its next frame (R195). -/

namespace Sys2Proof.Machine

/-- DEFINE_REGION. Gives a region id a complete new record after the ordered checks (R6; R191, R193, R194). -/
def execDefineRegion (p : PortId) (q : Byte) (d : DefineFields) (s : State) : Host.Outcome State Fault Refusal :=
  .next (pump (receive p q 1 (onDefineRegion d) s))

/-- DELETE_REGION. Makes a region undefined (R9; R191, R193, R194). -/
def execDeleteRegion (p : PortId) (q : Byte) (id : Nat) (s : State) : Host.Outcome State Fault Refusal :=
  .next (pump (receive p q 2 (onDeleteRegion id) s))

/-- SET_BASE. Sets region 0's fill pattern and dwell in Setup (R10; R191, R193, R194). -/
def execSetBase (p : PortId) (q : Byte) (fill : Option Nat) (dwell : Option Nat) (s : State) : Host.Outcome State Fault Refusal :=
  .next (pump (receive p q 3 (onSetBase fill dwell) s))

/-- SET_FILL. Writes one entry of the fill-colour table (R11; R191, R193, R194). -/
def execSetFill (p : PortId) (q : Byte) (pattern : Nat) (red : Nat) (green : Nat) (blue : Nat) (s : State) : Host.Outcome State Fault Refusal :=
  .next (pump (receive p q 4 (onSetFill pattern red green blue) s))

/-- READ_REGION. Returns a region's record, holder and wait count (R12; R191, R193, R194). -/
def execReadRegion (p : PortId) (q : Byte) (id : Nat) (s : State) : Host.Outcome State Fault Refusal :=
  .next (pump (receive p q 5 (onReadRegion id) s))

/-- GO_LIVE. Sets the mode to Live (R15; R191, R193, R194). -/
def execGoLive (p : PortId) (q : Byte) (s : State) : Host.Outcome State Fault Refusal :=
  .next (pump (receive p q 6 onGoLive s))

/-- END_LIVE. Sets the mode to Setup and signals a period boundary when the clock is not Running (R16; R191, R193, R194). -/
def execEndLive (p : PortId) (q : Byte) (s : State) : Host.Outcome State Fault Refusal :=
  .next (pump (receive p q 7 onEndLive s))

/-- MATCH_RESET. Clears match state of the clock, captures, exposure and messages in Setup (R108; R191, R193, R194). -/
def execMatchReset (p : PortId) (q : Byte) (s : State) : Host.Outcome State Fault Refusal :=
  .next (pump (receive p q 8 onMatchReset s))

end Sys2Proof.Machine
end

