-- ==== Sys2Proof/Machine/ReqClaims.lean ====
section
/-! DEFINITION. The meanings of the claim requests, codes 22 to 26: each is one whole step of the part, after which every free transmitter
starts its next frame (R195). -/

namespace Sys2Proof.Machine

/-- CLAIM. Adds a new claim to a region's wait list after the ordered checks (R26; R191, R193, R194). -/
def execClaim (p : PortId) (q : Byte) (region : Nat) (tag : Nat) (priority : Nat) (content : ContentField) (duration : Nat) (resume : Bool) (s : State) : Host.Outcome State Fault Refusal :=
  .next (pump (receive p q 22 (onClaim p region tag priority content duration resume) s))

/-- RELEASE. Drops a waiting claim or marks a holder Drop (R28; R191, R193, R194). -/
def execRelease (p : PortId) (q : Byte) (tag : Nat) (s : State) : Host.Outcome State Fault Refusal :=
  .next (pump (receive p q 23 (onRelease p tag) s))

/-- WITHDRAW. Sets Withdrawn, drops waiting claims and marks holders, answering when they have left (R38; R191, R193, R194). -/
def execWithdraw (p : PortId) (q : Byte) (s : State) : Host.Outcome State Fault Refusal :=
  .next (pump (receive p q 24 (onWithdraw p q) s))

/-- RESUME. Clears the port's Withdrawn flag (R39; R191, R193, R194). -/
def execResume (p : PortId) (q : Byte) (s : State) : Host.Outcome State Fault Refusal :=
  .next (pump (receive p q 25 (onResume p) s))

/-- READ_CLAIMS. Lists a port's live claims (R29; R191, R193, R194). -/
def execReadClaims (p : PortId) (q : Byte) (port : Nat) (s : State) : Host.Outcome State Fault Refusal :=
  .next (pump (receive p q 26 (onReadClaims p port) s))

end Sys2Proof.Machine
end

