-- ==== Sys2Proof/Machine/ReqClock.lean ====
section
/-! DEFINITION. The meanings of the clock and capture requests, codes 27 to 38: each is one whole step of the part, after which every free transmitter
starts its next frame (R195). -/

namespace Sys2Proof.Machine

/-- CLOCK_START. Starts a Stopped main clock and hands Started on (R86; R191, R193, R194). -/
def execClockStart (p : PortId) (q : Byte) (s : State) : Host.Outcome State Fault Refusal :=
  .next (pump (receive p q 27 onClockStart s))

/-- CLOCK_STOP. Stops a Running main clock (R87; R191, R193, R194). -/
def execClockStop (p : PortId) (q : Byte) (s : State) : Host.Outcome State Fault Refusal :=
  .next (pump (receive p q 28 onClockStop s))

/-- CLOCK_SET. Sets R and P while the clock is not running (R88; R191, R193, R194). -/
def execClockSet (p : PortId) (q : Byte) (main : Option Nat) (possession : Option Nat) (s : State) : Host.Outcome State Fault Refusal :=
  .next (pump (receive p q 29 (onClockSet main possession) s))

/-- CLOCK_ADJUST. Moves R by a signed amount in any state (R89; R191, R193, R194). -/
def execClockAdjust (p : PortId) (q : Byte) (delta : Int) (s : State) : Host.Outcome State Fault Refusal :=
  .next (pump (receive p q 30 (onClockAdjust delta) s))

/-- POSSESSION_RESET. Sets P (R90; R191, R193, R194). -/
def execPossessionReset (p : PortId) (q : Byte) (value : Option Nat) (s : State) : Host.Outcome State Fault Refusal :=
  .next (pump (receive p q 31 (onPossessionReset value) s))

/-- NEXT_PERIOD. Closes the period, opens the next and signals a period boundary (R91; R191, R193, R194). -/
def execNextPeriod (p : PortId) (q : Byte) (s : State) : Host.Outcome State Fault Refusal :=
  .next (pump (receive p q 32 onNextPeriod s))

/-- SCORE_SET. Sets fields of the score record and may start the score flash (R100; R191, R193, R194). -/
def execScoreSet (p : PortId) (q : Byte) (f : ScoreFields) (s : State) : Host.Outcome State Fault Refusal :=
  .next (pump (receive p q 33 (onScoreSet f) s))

/-- CLOCK_CONFIG. Sets the clock settings (R92; R191, R193, R194). -/
def execClockConfig (p : PortId) (q : Byte) (f : ClockFields) (s : State) : Host.Outcome State Fault Refusal :=
  .next (pump (receive p q 34 (onClockConfig f) s))

/-- READ_CLOCK. Returns the clock record, views and settings (R107; R191, R193, R194). -/
def execReadClock (p : PortId) (q : Byte) (s : State) : Host.Outcome State Fault Refusal :=
  .next (pump (receive p q 35 onReadClock s))

/-- CLOCK_MARK. Compares the console's remaining time with R and slews, steps, sets or ignores (R93; R191, R193, R194). -/
def execClockMark (p : PortId) (q : Byte) (mark : Nat) (s : State) : Host.Outcome State Fault Refusal :=
  .next (pump (receive p q 36 (onClockMark mark) s))

/-- CAPTURE. Makes a capture event with source Request (R112; R191, R193, R194). -/
def execCapture (p : PortId) (q : Byte) (s : State) : Host.Outcome State Fault Refusal :=
  .next (pump (receive p q 37 (onCapture p) s))

/-- TAKE_CAPTURE. Removes the oldest capture, or returns a live snapshot, and clears Overflow (R113; R191, R193, R194). -/
def execTakeCapture (p : PortId) (q : Byte) (s : State) : Host.Outcome State Fault Refusal :=
  .next (pump (receive p q 38 onTakeCapture s))

end Sys2Proof.Machine
end

