-- ==== Sys2Proof/Machine/ReqDirector.lean ====
section
/-! DEFINITION. The meanings of the director requests, codes 9 to 18: each is one whole step of the part, after which every free transmitter
starts its next frame (R195). -/

namespace Sys2Proof.Machine

/-- SET_PORT_ROLE. Gives a role to a port other than the director port (R192; R191, R193, R194). -/
def execSetPortRole (p : PortId) (q : Byte) (port : Nat) (role : Named Role) (s : State) : Host.Outcome State Fault Refusal :=
  .next (pump (receive p q 9 (onSetPortRole port role) s))

/-- SET_PORT_TIMEOUT. Sets a port's silence timeout (R198; R191, R193, R194). -/
def execSetPortTimeout (p : PortId) (q : Byte) (port : Nat) (ms : Nat) (s : State) : Host.Outcome State Fault Refusal :=
  .next (pump (receive p q 10 (onSetPortTimeout port ms) s))

/-- SET_PRIORITY_MAP. Sets a port's eight-entry priority map (R21; R191, R193, R194). -/
def execSetPriorityMap (p : PortId) (q : Byte) (port : Nat) (ranks : List Nat) (s : State) : Host.Outcome State Fault Refusal :=
  .next (pump (receive p q 11 (onSetPriorityMap port ranks) s))

/-- SET_ENGINE_RANK. Sets an engine's rank and applies it to its live claims (R22; R191, R193, R194). -/
def execSetEngineRank (p : PortId) (q : Byte) (engine : Named Engine) (rank : Nat) (s : State) : Host.Outcome State Fault Refusal :=
  .next (pump (receive p q 12 (onSetEngineRank engine rank) s))

/-- READ_COMPOSITION. Returns the composed-map entry of one tile of the current frame (R53; R191, R193, R194). -/
def execReadComposition (p : PortId) (q : Byte) (col : Nat) (row : Nat) (s : State) : Host.Outcome State Fault Refusal :=
  .next (pump (receive p q 13 (onReadComposition col row) s))

/-- SET_INPUT. Sets a picture input's lost limit (R55; R191, R193, R194). -/
def execSetInput (p : PortId) (q : Byte) (input : Named InputId) (limit : Nat) (s : State) : Host.Outcome State Fault Refusal :=
  .next (pump (receive p q 14 (onSetInput input limit) s))

/-- SET_MONITOR. Sets a monitor's enable and latch settings (R60; R191, R193, R194). -/
def execSetMonitor (p : PortId) (q : Byte) (monitor : Named MonitorId) (enable : Option Bool) (latch : Option Bool) (s : State) : Host.Outcome State Fault Refusal :=
  .next (pump (receive p q 15 (onSetMonitor monitor enable latch) s))

/-- CLEAR_FAULTS. Clears latched flags of one or all monitors (R61; R191, R193, R194). -/
def execClearFaults (p : PortId) (q : Byte) (monitor : Option (Named MonitorId)) (s : State) : Host.Outcome State Fault Refusal :=
  .next (pump (receive p q 16 (onClearFaults monitor) s))

/-- SET_LINK_MODE. Sets a link's flow mode and cadence pattern from the next frame (R77; R191, R193, R194). -/
def execSetLinkMode (p : PortId) (q : Byte) (link : Named LinkSel) (mode : Option (Named FlowMode)) (pattern : Option (List (Named Bool))) (s : State) : Host.Outcome State Fault Refusal :=
  .next (pump (receive p q 17 (onSetLinkMode link mode pattern) s))

/-- READ_LINK. Returns a link's state, settings and last delivery record (R78; R191, R193, R194). -/
def execReadLink (p : PortId) (q : Byte) (link : Nat) (s : State) : Host.Outcome State Fault Refusal :=
  .next (pump (receive p q 18 (onReadLink link) s))

end Sys2Proof.Machine
end

