-- ==== Sys2Proof/Machine/ReqMessages.lean ====
section
/-! DEFINITION. The meanings of the message requests, codes 19 to 21 and 55 to 57: each is one whole step of the part, after which every free transmitter
starts its next frame (R195). -/

namespace Sys2Proof.Machine

/-- MESSAGE_APPROVE. Moves a Held message entry to Approved (R156; R191, R193, R194). -/
def execMessageApprove (p : PortId) (q : Byte) (port : Nat) (tag : Nat) (s : State) : Host.Outcome State Fault Refusal :=
  .next (pump (receive p q 19 (onMessageApprove port tag) s))

/-- MESSAGE_REJECT. Removes a Held message entry with Rejected (R157; R191, R193, R194). -/
def execMessageReject (p : PortId) (q : Byte) (port : Nat) (tag : Nat) (s : State) : Host.Outcome State Fault Refusal :=
  .next (pump (receive p q 20 (onMessageReject port tag) s))

/-- MESSAGE_CONFIG. Sets the Message Engine settings (R153; R191, R193, R194). -/
def execMessageConfig (p : PortId) (q : Byte) (f : MessageFields) (s : State) : Host.Outcome State Fault Refusal :=
  .next (pump (receive p q 21 (onMessageConfig f) s))

/-- MESSAGE_SUBMIT. Adds a message entry, Held or Approved by submitter (R154; R191, R193, R194). -/
def execMessageSubmit (p : PortId) (q : Byte) (tag : Nat) (text : List Nat) (style : Named Style) (repeats : Option Nat) (s : State) : Host.Outcome State Fault Refusal :=
  .next (pump (receive p q 55 (onMessageSubmit p tag text style repeats) s))

/-- MESSAGE_WITHDRAW. Removes an entry or lets its pass finish (R159; R191, R193, R194). -/
def execMessageWithdraw (p : PortId) (q : Byte) (tag : Nat) (port : Option Nat) (s : State) : Host.Outcome State Fault Refusal :=
  .next (pump (receive p q 56 (onMessageWithdraw p tag port) s))

/-- READ_MESSAGES. Returns the message queue, passes and settings (R166; R191, R193, R194). -/
def execReadMessages (p : PortId) (q : Byte) (start : Option Nat) (s : State) : Host.Outcome State Fault Refusal :=
  .next (pump (receive p q 57 (onReadMessages start) s))

end Sys2Proof.Machine
end

