-- ==== Sys2Proof/Machine/ReqPorts.lean ====
section
/-! DEFINITION. The meanings of the port requests, codes 58 and 59: each is one whole step of the part, after which every free transmitter
starts its next frame (R195). -/

namespace Sys2Proof.Machine

/-- PORT_RESET. Empties a port's queues, clears its flags and releases its claims, upload and build (R200; R191, R193, R194). -/
def execPortReset (p : PortId) (q : Byte) (port : Option Nat) (s : State) : Host.Outcome State Fault Refusal :=
  .next (pump (receive p q 58 (onPortReset p port) s))

/-- READ_STATUS. Returns device status and clears the requester's NoticesLost (R201; R191, R193, R194). -/
def execReadStatus (p : PortId) (q : Byte) (s : State) : Host.Outcome State Fault Refusal :=
  .next (pump (receive p q 59 (onReadStatus p) s))

end Sys2Proof.Machine
end

