-- ==== Sys2Proof/Machine/ReqRotation.lean ====
section
/-! DEFINITION. The meanings of the rotation and exposure requests, codes 39 to 46: each is one whole step of the part, after which every free transmitter
starts its next frame (R195). -/

namespace Sys2Proof.Machine

/-- ROTATION_BEGIN. Opens a rotation build and discards any staged rotation (R120; R191, R193, R194). -/
def execRotationBegin (p : PortId) (q : Byte) (s : State) : Host.Outcome State Fault Refusal :=
  .next (pump (receive p q 39 (onRotationBegin p) s))

/-- ROTATION_CONTRACT. Appends a contract to the open build (R121; R191, R193, R194). -/
def execRotationContract (p : PortId) (q : Byte) (id : Nat) (name : Option (List Nat)) (target : Option Nat) (qmin : Option Nat) (s : State) : Host.Outcome State Fault Refusal :=
  .next (pump (receive p q 40 (onRotationContract p id name target qmin) s))

/-- ROTATION_SPOT. Appends a spot to the open build and pins its asset (R122; R191, R193, R194). -/
def execRotationSpot (p : PortId) (q : Byte) (spot : Nat) (contract : Nat) (asset : Nat) (slot : Nat) (regions : List Nat) (s : State) : Host.Outcome State Fault Refusal :=
  .next (pump (receive p q 41 (onRotationSpot p spot contract asset slot regions) s))

/-- ROTATION_COMMIT. Closes the build and makes it active in Setup or staged in Live (R124; R191, R193, R194). -/
def execRotationCommit (p : PortId) (q : Byte) (s : State) : Host.Outcome State Fault Refusal :=
  .next (pump (receive p q 42 (onRotationCommit p) s))

/-- ROTATION_DISCARD. Drops the open build (R123; R191, R193, R194). -/
def execRotationDiscard (p : PortId) (q : Byte) (s : State) : Host.Outcome State Fault Refusal :=
  .next (pump (receive p q 43 (onRotationDiscard p) s))

/-- CONTRACT_SUSPEND. Sets or clears a contract's Suspended flag (R131; R191, R193, R194). -/
def execContractSuspend (p : PortId) (q : Byte) (id : Nat) (on : Bool) (s : State) : Host.Outcome State Fault Refusal :=
  .next (pump (receive p q 44 (onContractSuspend id on) s))

/-- READ_ROTATION. Returns the rotation state (R134; R191, R193, R194). -/
def execReadRotation (p : PortId) (q : Byte) (start : Option Nat) (s : State) : Host.Outcome State Fault Refusal :=
  .next (pump (receive p q 45 (onReadRotation start) s))

/-- READ_EXPOSURE. Returns contract accounts with expected exposure and lag (R149; R191, R193, R194). -/
def execReadExposure (p : PortId) (q : Byte) (contract : Option Nat) (start : Option Nat) (s : State) : Host.Outcome State Fault Refusal :=
  .next (pump (receive p q 46 (onReadExposure contract start) s))

end Sys2Proof.Machine
end

