-- ==== Sys2Proof/Machine/Dispatch.lean ====
section
/-! DEFINITION. One arm per command, each a direct call of its meaning. -/

namespace Sys2Proof.Machine

def exec (i : Instr) (s : State) : Host.Outcome State Fault Refusal :=
  match i with
  | .deviceReset dirsel ratesel => Sys2Proof.Machine.execDeviceReset dirsel ratesel s
  | .startupScanEnd failedMarks => Sys2Proof.Machine.execStartupScanEnd failedMarks s
  | .genlockEdge t => Sys2Proof.Machine.execGenlockEdge t s
  | .frameTimerExpiry t => Sys2Proof.Machine.execFrameTimerExpiry t s
  | .genlockLost t => Sys2Proof.Machine.execGenlockLost t s
  | .claimDurationEnd r => Sys2Proof.Machine.execClaimDurationEnd r s
  | .spotComplete r => Sys2Proof.Machine.execSpotComplete r s
  | .passComplete r => Sys2Proof.Machine.execPassComplete r s
  | .scoreFlashEnd => Sys2Proof.Machine.execScoreFlashEnd s
  | .inputFrameArrival input width height tiles => Sys2Proof.Machine.execInputFrameArrival input width height tiles s
  | .inputFrameDiscarded input => Sys2Proof.Machine.execInputFrameDiscarded input s
  | .inputLost input => Sys2Proof.Machine.execInputLost input s
  | .holdLimitFallback r => Sys2Proof.Machine.execHoldLimitFallback r s
  | .slotStart k => Sys2Proof.Machine.execSlotStart k s
  | .receiverStatus k ack room group hold afterLast => Sys2Proof.Machine.execReceiverStatus k ack room group hold afterLast s
  | .slotEndNoStatus k => Sys2Proof.Machine.execSlotEndNoStatus k s
  | .linkHoldEnd k => Sys2Proof.Machine.execLinkHoldEnd k s
  | .frameClose k => Sys2Proof.Machine.execFrameClose k s
  | .linkDown k => Sys2Proof.Machine.execLinkDown k s
  | .msStep => Sys2Proof.Machine.execMsStep s
  | .mainExpiry => Sys2Proof.Machine.execMainExpiry s
  | .possessionExpiry => Sys2Proof.Machine.execPossessionExpiry s
  | .hornEnd => Sys2Proof.Machine.execHornEnd s
  | .whistle => Sys2Proof.Machine.execWhistle s
  | .heldEntryLapse p tag => Sys2Proof.Machine.execHeldEntryLapse p tag s
  | .pageProgramStart => Sys2Proof.Machine.execPageProgramStart s
  | .pageProgramEnd ok => Sys2Proof.Machine.execPageProgramEnd ok s
  | .markProgramStart => Sys2Proof.Machine.execMarkProgramStart s
  | .markProgramEnd ok => Sys2Proof.Machine.execMarkProgramEnd ok s
  | .reclaimBlockJudge => Sys2Proof.Machine.execReclaimBlockJudge s
  | .blockEraseEnd ok => Sys2Proof.Machine.execBlockEraseEnd ok s
  | .operationTimeLimit => Sys2Proof.Machine.execOperationTimeLimit s
  | .rxFrame p bytes => Sys2Proof.Machine.execRxFrame p bytes s
  | .rxByteGap p => Sys2Proof.Machine.execRxByteGap p s
  | .silenceTimeout p => Sys2Proof.Machine.execSilenceTimeout p s
  | .txFrameEnd p => Sys2Proof.Machine.execTxFrameEnd p s
  | .defineRegion p q d => Sys2Proof.Machine.execDefineRegion p q d s
  | .deleteRegion p q id => Sys2Proof.Machine.execDeleteRegion p q id s
  | .setBase p q fill dwell => Sys2Proof.Machine.execSetBase p q fill dwell s
  | .setFill p q pattern red green blue => Sys2Proof.Machine.execSetFill p q pattern red green blue s
  | .readRegion p q id => Sys2Proof.Machine.execReadRegion p q id s
  | .goLive p q => Sys2Proof.Machine.execGoLive p q s
  | .endLive p q => Sys2Proof.Machine.execEndLive p q s
  | .matchReset p q => Sys2Proof.Machine.execMatchReset p q s
  | .setPortRole p q port role => Sys2Proof.Machine.execSetPortRole p q port role s
  | .setPortTimeout p q port ms => Sys2Proof.Machine.execSetPortTimeout p q port ms s
  | .setPriorityMap p q port ranks => Sys2Proof.Machine.execSetPriorityMap p q port ranks s
  | .setEngineRank p q engine rank => Sys2Proof.Machine.execSetEngineRank p q engine rank s
  | .readComposition p q col row => Sys2Proof.Machine.execReadComposition p q col row s
  | .setInput p q input limit => Sys2Proof.Machine.execSetInput p q input limit s
  | .setMonitor p q monitor enable latch => Sys2Proof.Machine.execSetMonitor p q monitor enable latch s
  | .clearFaults p q monitor => Sys2Proof.Machine.execClearFaults p q monitor s
  | .setLinkMode p q link mode pattern => Sys2Proof.Machine.execSetLinkMode p q link mode pattern s
  | .readLink p q link => Sys2Proof.Machine.execReadLink p q link s
  | .messageApprove p q port tag => Sys2Proof.Machine.execMessageApprove p q port tag s
  | .messageReject p q port tag => Sys2Proof.Machine.execMessageReject p q port tag s
  | .messageConfig p q f => Sys2Proof.Machine.execMessageConfig p q f s
  | .claim p q region tag priority content duration resume => Sys2Proof.Machine.execClaim p q region tag priority content duration resume s
  | .release p q tag => Sys2Proof.Machine.execRelease p q tag s
  | .withdraw p q => Sys2Proof.Machine.execWithdraw p q s
  | .resume p q => Sys2Proof.Machine.execResume p q s
  | .readClaims p q port => Sys2Proof.Machine.execReadClaims p q port s
  | .clockStart p q => Sys2Proof.Machine.execClockStart p q s
  | .clockStop p q => Sys2Proof.Machine.execClockStop p q s
  | .clockSet p q main possession => Sys2Proof.Machine.execClockSet p q main possession s
  | .clockAdjust p q delta => Sys2Proof.Machine.execClockAdjust p q delta s
  | .possessionReset p q value => Sys2Proof.Machine.execPossessionReset p q value s
  | .nextPeriod p q => Sys2Proof.Machine.execNextPeriod p q s
  | .scoreSet p q f => Sys2Proof.Machine.execScoreSet p q f s
  | .clockConfig p q f => Sys2Proof.Machine.execClockConfig p q f s
  | .readClock p q => Sys2Proof.Machine.execReadClock p q s
  | .clockMark p q mark => Sys2Proof.Machine.execClockMark p q mark s
  | .capture p q => Sys2Proof.Machine.execCapture p q s
  | .takeCapture p q => Sys2Proof.Machine.execTakeCapture p q s
  | .rotationBegin p q => Sys2Proof.Machine.execRotationBegin p q s
  | .rotationContract p q id name target qmin => Sys2Proof.Machine.execRotationContract p q id name target qmin s
  | .rotationSpot p q spot contract asset slot regions => Sys2Proof.Machine.execRotationSpot p q spot contract asset slot regions s
  | .rotationCommit p q => Sys2Proof.Machine.execRotationCommit p q s
  | .rotationDiscard p q => Sys2Proof.Machine.execRotationDiscard p q s
  | .contractSuspend p q id on => Sys2Proof.Machine.execContractSuspend p q id on s
  | .readRotation p q start => Sys2Proof.Machine.execReadRotation p q start s
  | .readExposure p q contract start => Sys2Proof.Machine.execReadExposure p q contract start s
  | .uploadBegin p q u => Sys2Proof.Machine.execUploadBegin p q u s
  | .uploadLoad p q offset data => Sys2Proof.Machine.execUploadLoad p q offset data s
  | .uploadCommit p q => Sys2Proof.Machine.execUploadCommit p q s
  | .uploadFinish p q => Sys2Proof.Machine.execUploadFinish p q s
  | .uploadAbort p q => Sys2Proof.Machine.execUploadAbort p q s
  | .assetRetire p q id => Sys2Proof.Machine.execAssetRetire p q id s
  | .assetReclaim p q => Sys2Proof.Machine.execAssetReclaim p q s
  | .assetList p q startId startPage => Sys2Proof.Machine.execAssetList p q startId startPage s
  | .messageSubmit p q tag text style repeats => Sys2Proof.Machine.execMessageSubmit p q tag text style repeats s
  | .messageWithdraw p q tag port => Sys2Proof.Machine.execMessageWithdraw p q tag port s
  | .readMessages p q start => Sys2Proof.Machine.execReadMessages p q start s
  | .portReset p q port => Sys2Proof.Machine.execPortReset p q port s
  | .readStatus p q => Sys2Proof.Machine.execReadStatus p q s

end Sys2Proof.Machine
end

