-- ==== Sys2Proof/Safety.lean ====
section
/-! DEFINITION. The terms statements about the part are made in: when a request is taken, what a step leaves untouched, what became of
the ports; and the laws the manual says the part keeps at all times. -/

namespace Sys2Proof.Machine

/-! ### A request and its answer (R191, R193 to R196) -/

/-- A request of a code is taken at port `p` and handed to its block: fewer than eight answers wait (R191), and checks 1 to 4 of R193
pass. Check 5 is passed by every command of the table, whose fields are those of its request. -/
def Taken (p : PortId) (code : Nat) (s : State) : Prop :=
  (s.port p).answers.length < 8 ∧ ((s.port p).outstanding < 4 ∨ code = 58) ∧ (s.assets.scanned = true ∨ code = 59)
    ∧ hasRight (s.port p).role code = true

/-- The parts of the state that belong to one block each. -/
inductive Part where
  | straps
  | canvas
  | arbiter
  | comp
  | inputs
  | monitors
  | links
  | clock
  | score
  | captures
  | rotation
  | exposure
  | messages
  | assets
  | free
  deriving DecidableEq, Repr

/-- A part is the same in two states. -/
def Part.same (s t : State) : Part → Prop
  | .straps => t.dirsel = s.dirsel ∧ t.ratesel = s.ratesel
  | .canvas => t.canvas = s.canvas
  | .arbiter => t.arbiter = s.arbiter
  | .comp => t.comp = s.comp
  | .inputs => t.inputs = s.inputs
  | .monitors => t.monitors = s.monitors
  | .links => t.links = s.links
  | .clock => t.clock = s.clock
  | .score => t.score = s.score
  | .captures => t.captures = s.captures
  | .rotation => t.rotation = s.rotation
  | .exposure => t.exposure = s.exposure
  | .messages => t.messages = s.messages
  | .assets => t.assets = s.assets
  | .free => t.free = s.free

/-- Nothing but the parts listed, and the ports, differs between two states. -/
def Only (parts : List Part) (s t : State) : Prop := t.pending = s.pending ∧ ∀ x : Part, x ∉ parts → x.same s t

/-- What the ports are after a step that did `f n` to each port `n`: every free transmitter has looked (R195). -/
def PortsBecome (f : PortId → Port → Port) (s t : State) : Prop := ∀ n, t.port n = startFrame (f n (s.port n))

/-- Nothing is done to a port. -/
def untouched : PortId → Port → Port := fun _ x => x

/-- A notice joins the queue of the ports listed (R196). -/
def noted (ps : List PortId) (x : Notice) : PortId → Port → Port := fun n y => if n ∈ ps then noteTo x y else y

/-- Port `p` gets an answer after what else was done to the ports. -/
def answering (p : PortId) (q : Byte) (code : Nat) (r : Reply) (f : PortId → Port → Port) : PortId → Port → Port :=
  fun n x => if n = p then answerTo q code true r (f n x) else f n x

/-- Port `p` keeps a deferred request after what else was done to the ports. -/
def deferring (p : PortId) (d : OpenRequest) (f : PortId → Port → Port) : PortId → Port → Port :=
  fun n x => if n = p then deferTo d (f n x) else f n x

/-- A command has a next state in which `P` holds, nothing but the parts listed changed from `s`, and the ports are as `f` makes them. -/
def Leads (i : Instr) (s : State) (base : State) (parts : List Part) (f : PortId → Port → Port) (P : State → Prop) : Prop :=
  ∃ t, exec i s = .next t ∧ P t ∧ Only parts base t ∧ PortsBecome f base t

/-- A request has a next state in which it has been heard (R191) and answered with `r`, `P` holds, and nothing but the parts listed changed
from the state in which it was heard. -/
def Answers (i : Instr) (p : PortId) (q : Byte) (code : Nat) (r : Reply) (parts : List Part) (f : PortId → Port → Port) (s : State)
    (P : State → Prop) : Prop :=
  Leads i s (frameArrives p s) parts (answering p q code r f) P

/-- A request has a next state in which it has been heard and deferred. -/
def Defers (i : Instr) (p : PortId) (d : OpenRequest) (parts : List Part) (f : PortId → Port → Port) (s : State) (P : State → Prop) : Prop :=
  Leads i s (frameArrives p s) parts (deferring p d f) P

/-- The answer Done with its fields. -/
def doneWith (fields : List Atom) : Reply := ⟨.done, false, fields⟩

/-- The answer Done, with Adjusted when the given condition holds (R197). -/
def doneIf (adjusted : Bool) (fields : List Atom) : Reply := ⟨.done, adjusted, fields⟩

/-- A refusal (R197). -/
def refusal (o : ResultCode) : Reply := ⟨o, false, []⟩

/-- A BadValue refusal naming a field (R197). -/
def refusesField (x : FieldName) : Reply := ⟨.badValue, false, [.field x]⟩

/-! ### Values a request stores -/

/-- A field that may be left out, clamped to `lo..hi`, or what was held. -/
def stored (lo hi held : Nat) : Option Nat → Nat
  | none => held
  | some n => if n < lo then lo else if hi < n then hi else n

/-- A field given outside `lo..hi` is clamped, and the answer is Adjusted (R197). -/
def outside (lo hi : Nat) : Option Nat → Prop
  | none => False
  | some n => n < lo ∨ hi < n

/-- A tile lies in a rectangle of tiles (R1). -/
def inTiles (col row width height c r : Nat) : Prop := col ≤ c ∧ c < col + width ∧ row ≤ r ∧ r < row + height

/-- The record a DefineRegion gives a region (R2, R6). -/
def recordOf (d : DefineFields) (policy : FaultPolicy) (view : ViewBinding) : Region :=
  { layer := d.layer, col := d.col, row := d.row, width := d.width, height := d.height, dwell := stored 0 600 30 d.dwell,
    sponsor := d.sponsor.getD false, message := d.message.getD false, stoppage := d.stoppage.getD false, policy := policy,
    holdLimit := stored 0 300 60 d.holdLimit, fill := stored 0 7 0 d.fill, view := view, glyphSet := d.glyphSet, lastChange := none }

/-- A contract after a period boundary that closes period `n` (R132, R148): its exposure goes to history, and its counts are 0. -/
def periodClosed (n : Nat) (c : Contract) : Contract :=
  { c with history := keySet n (min 4294967295 ((keyGet n c.history).getD 0 + c.accrued)) c.history, accrued := 0, cut := 0, shown := 0 }

/-- A PeriodReport (R133) of period `n`, of a contract as its account stood before the rollover. -/
def periodReportOf (f : FrameNo) (n : Nat) (c : Contract) : Notice :=
  { kind := .periodReport,
    fields := [.num f.toNat, nat n, nat c.terms.id] ++ textAtoms c.terms.name ++ [nat c.terms.target, nat c.accrued, nat c.cut, nat c.shown] }

/-- A ContractReport (R133): its cause is place 0 for Commit and 1 for Promotion. -/
def contractReportOf (f : FrameNo) (cause : Nat) (c : Contract) : Notice :=
  { kind := .contractReport,
    fields := [.num f.toNat, nat c.terms.id] ++ textAtoms c.terms.name ++ [nat c.accrued, nat c.cut, nat c.shown]
      ++ listAtoms (fun (h : Nat × Nat) => [nat h.1, nat h.2]) c.history ++ [.named cause] }

/-- What a Claim's content would supply on a region, when checks 7 to 9 of R26 pass. -/
def Supplies (s : State) (g : Region) : ContentField → ClaimContent → Prop
  | .picture (.known i), c => c = .picture i
  | .picture (.unknown _), _ => False
  | .fill n, c => ∃ h : n < 8, c = .fill ⟨n, h⟩
  | .asset id, c =>
    c = .asset id ∧ ∃ e, s.assets.named id = some e ∧ e.state = .complete ∧ e.kind = .image ∧ e.width = g.width ∧ e.height = g.height
  | .spot, _ => False
  | .crawl, _ => False
  | .unknown _, _ => False

/-- The claim a request of port `p` makes (R27). -/
def newClaim (p : PortId) (tag rank duration : Nat) (content : ClaimContent) (resume : Bool) : Claim :=
  { claimant := .port p, tag := tag, rank := rank, content := content, duration := min 65535 duration,
    remaining := if duration = 0 then none else some (min 65535 duration), resume := resume, mark := none }

/-- A claim notice (R43): region, tag, frame, and what its kind adds. -/
def claimNoticeOf (kind : NoticeKind) (r : RegionId) (tag : Nat) (f : FrameNo) (fields : List Atom) : Notice :=
  { kind := kind, fields := [nat r.val, nat tag, .num f.toNat] ++ fields }

/-- A clock notice (R106): frame, ms, main state, R, P and period, as the clock `k` has them, and what its kind adds. -/
def clockNoticeOf (kind : NoticeKind) (f : FrameNo) (k : Clock) (fields : List Atom) : Notice :=
  { kind := kind, fields := [.num f.toNat, .ms k.now, .named (mainStateCode k.state), nat k.main, nat k.possession, nat k.period] ++ fields }

/-- The clock after a main expiry (R95, R97): Expired, no correction, and the horn sounding to the later of its end and the new one. -/
def expiredClock (k : Clock) : Clock :=
  let due := k.now + BitVec.ofNat 64 k.hornLength
  { k with
    state := .expired
    correction := 0
    horn := some (match k.horn with
                  | none => due
                  | some e => if (e - due).toNat < 9223372036854775808 then e else due) }

/-- What a capture event leaves in the Capture Slots and queues to the ports (R109 to R111), the clock being `k`: with a slot free the capture
stands in the lowest one, youngest, and CaptureReady goes out; with both full it is lost and Overflow is set. -/
def CaptureMade (source : CaptureSource) (port : Option PortId) (k : Clock) (s : State) (x : Captures) (f : PortId → Port → Port) : Prop :=
  let number := if 65535 ≤ s.captures.counter then 1 else s.captures.counter + 1
  let c : Capture :=
    { number := number, source := source, port := port, frame := s.comp.frame, ms := k.now, main := k.main, possession := k.possession,
      state := k.state, period := k.period }
  (∃ slot : Fin 2, (∀ e ∈ s.captures.held, e.1 ≠ slot) ∧ (slot = 1 → ∃ e ∈ s.captures.held, e.1 = 0)
      ∧ x = { held := s.captures.held ++ [(slot, c)], counter := number, overflow := s.captures.overflow }
      ∧ f = noted (s.portsOf [.replay, .scoring])
          { kind := .captureReady,
            fields := [nat number, .named (captureCode source)] ++ optAtoms (fun (p : PortId) => [nat p.val]) port
              ++ [.num s.comp.frame.toNat, nat (s.captures.held.length + 1)] })
    ∨ ((∃ e ∈ s.captures.held, e.1 = 0) ∧ (∃ e ∈ s.captures.held, e.1 = 1)
      ∧ x = { held := s.captures.held, counter := number, overflow := true } ∧ f = untouched)

/-- Several notices join the queue of the ports listed, in order (R196). -/
def notedAll (ps : List PortId) (l : List Notice) : PortId → Port → Port :=
  fun n y => if n ∈ ps then l.foldl (fun z x => noteTo x z) y else y

/-- One thing done to the ports after another. -/
def thenPorts (f g : PortId → Port → Port) : PortId → Port → Port := fun n x => g n (f n x)

/-- A change of one port. -/
def onPort (p : PortId) (f : Port → Port) : PortId → Port → Port := fun n x => if n = p then f x else x

/-- The claims of region `r` alone can bring port `p` a notice or an answer at a tick: it is not the director port, no deferred request of its
waits, none of its messages is being shown, and it has no claim on another region. -/
def HearsOnlyOf (r : RegionId) (p : PortId) (s : State) : Prop :=
  p ≠ s.director ∧ (s.port p).requests = [] ∧ (∀ n x, s.pass n = some x → x.entry.submitter ≠ p)
    ∧ ∀ n, n ≠ r → (s.claims n).heldBy (.port p) = false ∧ (s.claims n).awaitedBy (.port p) = false

/-- A port has been sent the notices listed, in order, and nothing else. -/
def Hears (p : PortId) (l : List Notice) (s t : State) : Prop := t.port p = startFrame (l.foldl (fun x n => noteTo n x) (s.port p))

/-- The standing claim an engine offers on region `r` (R18, R126, R160): tag r, open, with resume. -/
def standingClaim (e : Engine) (rank : Nat) (r : RegionId) : Claim :=
  { claimant := .engine e, tag := r.val, rank := rank
    content := (match e with
                | .rotation => .spot
                | .message => .crawl)
    duration := 0, remaining := none, resume := true, mark := none }

/-- An engine has settled region `r`, whose claims were `x` and are `y` (R25, R126, R160), `wants` being its interest and `again` whether it goes on
offering: with an interest and a claim nothing changes; with an interest and no claim its standing claim joins behind every entry of equal or higher
rank, pushing off the last of a full list of lower rank, or is refused Full and offered again; with no interest a waiting claim goes and a holder is
marked Drop. -/
def Settles (e : Engine) (rank : Nat) (r : RegionId) (wants : Prop) (x y : RegionClaims) (again : Bool) : Prop :=
  (wants → (x.heldBy (.engine e) = true ∨ x.awaitedBy (.engine e) = true) → y = x)
    ∧ (wants → x.heldBy (.engine e) = false → x.awaitedBy (.engine e) = false →
      (∀ front back, (∀ w ∈ front, rank ≤ w.rank) → (∀ w ∈ back, w.rank < rank) →
        (x.waiting.length < 4 → x.waiting = front ++ back →
          y = { x with waiting := front ++ standingClaim e rank r :: back } ∧ again = false)
        ∧ (∀ last, x.waiting.length = 4 → x.waiting = front ++ back ++ [last] → last.rank < rank →
          y = { x with waiting := front ++ standingClaim e rank r :: back } ∧ again = false))
      ∧ (∀ last, x.waiting.length = 4 → x.waiting.getLast? = some last → rank ≤ last.rank → y = x ∧ again = true))
    ∧ (¬wants →
      y = { x with
          holder := x.holder.map (fun h => if h.claimant = .engine e then { h with mark := some .dropRelease } else h)
          waiting := x.waiting.filter (fun w => !decide (w.claimant = .engine e)) }
        ∧ again = false)

/-- A number in decimal, without leading zeros, as glyph codes (R103). -/
def decimalOf (n : Nat) : List Nat := (Nat.toDigits 10 n).map (fun c => c.toNat)

/-- Seconds and tenths of a time in ms, rounded down, as glyph codes (R102). -/
def tenthsOf (ms : Nat) : List Nat := decimalOf (ms / 1000) ++ [46] ++ decimalOf (ms / 100 % 10)

/-- The newest answer a port has made and not sent whole. -/
def Port.newest (x : Port) : Option Answer :=
  match x.answers.getLast? with
  | some a => some a
  | none =>
    match x.line with
    | some (.answer a) => some a
    | some (.notice _ _) => none
    | none => none

/-! ### Laws the part keeps -/

/-- The Region Table's law (R1, R3, R7): region 0 is the whole grid on layer 0 and carries no view; the others lie inside the grid on
layers 1 to 3; two regions of one layer share no tile. -/
def RegionLaw (s : State) : Prop :=
  (∃ g, s.region 0 = some g ∧ g.layer = 0 ∧ g.col = 0 ∧ g.row = 0 ∧ g.width = 48 ∧ g.height = 16 ∧ g.view = .none)
    ∧ (∀ r g, r ≠ 0 → s.region r = some g →
        1 ≤ g.layer ∧ g.layer ≤ 3 ∧ 1 ≤ g.width ∧ 1 ≤ g.height ∧ g.col + g.width ≤ 48 ∧ g.row + g.height ≤ 16)
    ∧ ∀ a b g h c r, a ≠ b → s.region a = some g → s.region b = some h → g.layer = h.layer →
        ¬(g.covers c r = true ∧ h.covers c r = true)

/-- A fixed region has neither the flags of an engine nor a claim, and no region that is not defined has a claim (R4, R23). -/
def FixedLaw (s : State) : Prop :=
  ∀ r, match s.region r with
    | none => (s.claims r).holder = none ∧ (s.claims r).waiting = []
    | some g => g.fixed = true → g.sponsor = false ∧ g.message = false ∧ (s.claims r).holder = none ∧ (s.claims r).waiting = []

/-- The Claim Arbiter's law (R23): at most four claims wait, ordered by rank, highest first. -/
def WaitLaw (s : State) : Prop :=
  ∀ r, (s.claims r).waiting.length ≤ 4 ∧ (s.claims r).waiting.Pairwise (fun a b => b.rank ≤ a.rank)

/-- The law of claim sets (R20): at most sixteen live claims a port, no two of one tag. -/
def ClaimSetLaw (s : State) : Prop := ∀ p, (s.claimSet p).length ≤ 16 ∧ ((s.claimSet p).map (fun e => e.claim.tag)).Nodup

/-- The ranges of the clock record (R83), and what its states mean: a Running clock has time left, an Expired one has none (R84, R95). -/
def ClockLaw (s : State) : Prop :=
  s.clock.main ≤ 5999999 ∧ s.clock.possession ≤ 99999 ∧ 1 ≤ s.clock.period ∧ s.clock.period ≤ 9
    ∧ -5999999 ≤ s.clock.correction ∧ s.clock.correction ≤ 5999999
    ∧ 1000 ≤ s.clock.length ∧ s.clock.length ≤ 5999999 ∧ 1000 ≤ s.clock.possessionReset ∧ s.clock.possessionReset ≤ 99999
    ∧ s.clock.window ≤ 2000 ∧ s.clock.hysteresis ≤ 500 ∧ 200 ≤ s.clock.hornLength ∧ s.clock.hornLength ≤ 5000
    ∧ (s.clock.state = .running → 0 < s.clock.main) ∧ (s.clock.state = .expired → s.clock.main = 0)

/-- The ranges of the score record (R100, R101). -/
def ScoreLaw (s : State) : Prop :=
  s.score.home ≤ 999 ∧ s.score.away ≤ 999 ∧ s.score.homeFouls ≤ 99 ∧ s.score.awayFouls ≤ 99 ∧ s.score.homeTimeouts ≤ 9
    ∧ s.score.awayTimeouts ≤ 9 ∧ s.score.flashLength ≤ 120 ∧ s.score.flashLeft + s.score.flashUsed ≤ 120

/-- The Capture Slots' law (R109): at most two captures, in different slots, each numbered 1..65535; the counter is 0..65535; Overflow is
set only while both slots are full (R114). -/
def CaptureLaw (s : State) : Prop :=
  s.captures.held.length ≤ 2 ∧ (s.captures.held.map (fun e => e.1)).Nodup
    ∧ (∀ e ∈ s.captures.held, 1 ≤ e.2.number ∧ e.2.number ≤ 65535) ∧ s.captures.counter ≤ 65535
    ∧ (s.captures.overflow = true → s.captures.held.length = 2)

/-- The law of a port's queues (R191, R194, R196): at most four requests outstanding, sixteen notices and twelve answers waiting, a frame of
at most 1,032 bytes being received, and a timeout of 0 or 250..10,000 ms; a Silent port is not Withdrawn and waits for no Withdraw (R40). -/
def PortLaw (s : State) : Prop :=
  ∀ p, (s.port p).outstanding ≤ 4 ∧ (s.port p).notices.length ≤ 16 ∧ (s.port p).answers.length + (s.port p).requests.length ≤ 12
    ∧ (s.port p).rx.length < 1032 ∧ ((s.port p).timeout = 0 ∨ 250 ≤ (s.port p).timeout ∧ (s.port p).timeout ≤ 10000)
    ∧ (s.port p).priorityMap.length = 8 ∧ (∀ n ∈ (s.port p).priorityMap, n ≤ 7)
    ∧ ((s.port p).silent = true → (s.port p).withdrawn = false ∧ ∀ d ∈ (s.port p).requests, d.isWithdraw = false)

/-- The law of roles (R192): the director port alone has the Director role, and at most one port has the Scoring role. -/
def RoleLaw (s : State) : Prop :=
  (∀ p, (s.port p).role = .director ↔ p = s.director)
    ∧ ∀ p q, (s.port p).role = .scoring → (s.port q).role = .scoring → p = q

/-- Conditions of the monitor table follow what they report (R46, R59, R79, R99, R199). -/
def MonitorLaw (s : State) : Prop :=
  (s.monitor monGenlock).condition = !s.comp.locked
    ∧ (s.monitor monUnsupervised).condition = s.clock.unsupervised
    ∧ (∀ p, (s.monitor (monSilent p)).condition = (s.port p).silent)
    ∧ ∀ k, (s.monitor (monDown k)).condition = ((s.link k).frame.isSome && (s.link k).down)

/-- A latched flag stands only while the latch setting is on (R59). -/
def LatchLaw (s : State) : Prop := ∀ m, (s.monitor m).latched = true → (s.monitor m).latch = true

/-- The ranges of a rotation being built or staged (R119, R121, R122). -/
def PlanLaw (t : Plan) : Prop :=
  t.contracts.length ≤ 32 ∧ t.spots.length ≤ 64 ∧ (t.contracts.map (fun c => c.id)).Nodup ∧ (t.spots.map (fun x => x.id)).Nodup
    ∧ (∀ c ∈ t.contracts, 1 ≤ c.id ∧ c.id ≤ 255 ∧ c.name.length ≤ 16 ∧ c.target ≤ 3600 ∧ c.qmin ≤ 256)
    ∧ ∀ x ∈ t.spots, 60 ≤ x.slot ∧ x.slot ≤ 7200 ∧ 1 ≤ x.regions.length ∧ x.regions.length ≤ 8

/-- The Rotation Engine's law (R117, R119, R120, R128, R138): the active, staged and open rotations are within their limits, the pointer is a
position of the active rotation or 0, a rotation is staged only in Live and while no build is open, the counts and the exposure of every
contract are within their ranges, every region showing a spot is held by the Rotation Engine, and a spot shows in at most one region. -/
def RotationLaw (s : State) : Prop :=
  PlanLaw ⟨s.rotation.contracts.map (fun c => c.terms), s.rotation.spots⟩
    ∧ (∀ t, s.rotation.staged = some t → PlanLaw t) ∧ (∀ b, s.rotation.build = some b → PlanLaw b.plan)
    ∧ s.rotation.pointer ≤ s.rotation.spots.length
    ∧ (s.rotation.build.isSome = true → s.rotation.staged = none) ∧ (s.canvas.mode = .setup → s.rotation.staged = none)
    ∧ (∀ c ∈ s.rotation.contracts, c.cut ≤ 65535 ∧ c.shown ≤ 65535 ∧ c.accrued ≤ 4294967295
        ∧ ∀ h ∈ c.history, h.2 ≤ 4294967295)
    ∧ (∀ r x, s.currentSpot r = some x → (s.claims r).heldBy (.engine .rotation) = true)
    ∧ ∀ a b x y, s.currentSpot a = some x → s.currentSpot b = some y → x.spot = y.spot → a = b

/-- Every entry of the message queue, in every state (R152). -/
def State.entries (s : State) : List Entry := s.messages.held ++ s.messages.approved ++ s.passList.map (fun x => x.entry)

/-- The Message Engine's law (R151 to R153): at most 48 entries, no two of one port and tag, each within its ranges, and settings within theirs. -/
def MessageLaw (s : State) : Prop :=
  s.entries.length ≤ 48 ∧ (s.entries.map (fun e => (e.submitter, e.tag))).Nodup
    ∧ (∀ e ∈ s.entries, 1 ≤ e.tag ∧ e.tag ≤ 65535 ∧ 1 ≤ e.text.length ∧ e.text.length ≤ 240 ∧ 1 ≤ e.repeats ∧ e.repeats ≤ 9
        ∧ e.passesDone < e.repeats)
    ∧ 16 ≤ s.messages.settings.maxLength ∧ s.messages.settings.maxLength ≤ 240 ∧ s.messages.settings.continuation ≤ 255
    ∧ s.messages.settings.substitute ≤ 255 ∧ 1 ≤ s.messages.settings.speed ∧ s.messages.settings.speed ≤ 16
    ∧ s.messages.settings.holdLimit ≤ 3600

/-- A page as the memories list it: content bytes in canonical form, and never all erased. -/
def Page.wf : Page → Bool
  | .header _ => true
  | .content cells => cellsWf cells && !cells.isEmpty
  | .unknown _ => true

/-- The canonical form of a memory of pages: page numbers rising, each page as it may be listed. -/
def pagesWf (l : List (Nat × Page)) : Bool := keysRising l && l.all (fun e => decide (e.1 < pageTotal) && e.2.wf)

/-- The canonical form of the Asset Controller's memories: asset memory, show memory, the page buffer and the page map. -/
def Memory.wf (a : Assets) : Bool :=
  pagesWf a.nor && pagesWf a.copies && cellsWf a.buffer && keysRising a.pageMap && a.pageMap.all (fun e => decide (e.1 < pageTotal))

/-- The Asset Controller's law: its memories are in canonical form, and everything that will write into them stays inside asset memory's 16,384
pages and 1,024 blocks (R169, R174, R175, R184); a page program in flight is the one the open upload asked for (R175); before the start-up scan has
ended nothing but asset memory holds anything (R187, R202). -/
def AssetLaw (s : State) : Prop :=
  Memory.wf s.assets = true
    ∧ (∀ u, s.assets.upload = some u → 1 ≤ u.count ∧ u.first + u.count ≤ pageTotal ∧ u.committed + 1 ≤ u.count)
    ∧ (∀ n since, s.assets.op = some ⟨.program (.page n), since⟩ → n < pageTotal)
    ∧ (∀ u n, s.assets.upload = some u → u.job = some (.page n) → n < pageTotal ∧ u.committed + 2 ≤ u.count)
    ∧ (∀ j since, s.assets.op = some ⟨.program j, since⟩ → ∃ u, s.assets.upload = some u ∧ u.job = some j)
    ∧ (∀ b since, s.assets.op = some ⟨.erase b, since⟩ → b < blockTotal)
    ∧ (∀ x, s.assets.reclaim = some x → x.next ≤ blockTotal)
    ∧ (s.assets.scanned = false →
        s.assets.copies = [] ∧ s.assets.pageMap = [] ∧ s.assets.records = [] ∧ s.assets.retireList = [] ∧ s.assets.buffer = []
          ∧ s.assets.upload = none ∧ s.assets.op = none ∧ s.assets.reclaim = none)

/-- The law of the page map and the directory (R169, R171): every page that is part of an asset is part of one record's run, and a record's
header page is its own, as its whole run is while it is Writing or Complete; no two records share a header page, and no two that are Writing
or Complete an id; the open upload's record is Writing; and an erase is of a reclaim in flight, and touches no page of a Writing or Complete
asset. -/
def DirectoryLaw (s : State) : Prop :=
  (s.assets.records.map (fun e => e.first)).Nodup
    ∧ (∀ e ∈ s.assets.records, 1 ≤ e.count ∧ keyGet e.first s.assets.pageMap = some (.part e.first))
    ∧ (∀ e ∈ s.assets.records, e.state ≠ .retired → ∀ n, e.first ≤ n → n < e.first + e.count → keyGet n s.assets.pageMap = some (.part e.first))
    ∧ (∀ n first, keyGet n s.assets.pageMap = some (.part first) →
        ∃ e ∈ s.assets.records, e.first = first ∧ first ≤ n ∧ n < first + e.count)
    ∧ (∀ e ∈ s.assets.records, ∀ f ∈ s.assets.records, e.state ≠ .retired → f.state ≠ .retired → e.id = f.id → e = f)
    ∧ (∀ u, s.assets.upload = some u →
        ∃ e ∈ s.assets.records, e.first = u.first ∧ e.id = u.id ∧ e.count = u.count ∧ e.state = .writing)
    ∧ ∀ b since, s.assets.op = some ⟨.erase b, since⟩ →
        s.assets.reclaim.isSome = true
          ∧ ∀ e ∈ s.assets.records, e.state ≠ .retired → ∀ n, e.first ≤ n → n < e.first + e.count → n / 16 ≠ b

/-- The law of references (R173): every asset a live claim, a spot of the active or staged rotation or of an open build, or a region's glyph
set refers to is Complete. -/
def ReferenceLaw (s : State) : Prop :=
  (∀ r c id, ((s.claims r).holder = some c ∨ c ∈ (s.claims r).waiting) → c.content = .asset id → (s.assets.complete id).isSome = true)
    ∧ (∀ x ∈ s.rotation.spots, (s.assets.complete x.asset).isSome = true)
    ∧ (∀ plan, s.rotation.staged = some plan → ∀ x ∈ plan.spots, (s.assets.complete x.asset).isSome = true)
    ∧ (∀ b, s.rotation.build = some b → ∀ x ∈ b.plan.spots, (s.assets.complete x.asset).isSome = true)
    ∧ ∀ r g id, s.region r = some g → g.glyphSet = some id → s.assets.isComplete .glyphSet id = true

end Sys2Proof.Machine
end

