-- ==== Sys2Proof/WellFormed.lean ====
section
/-! DEFINITION. When a command can reach the part at all: a request's fields fit the wire forms of R190 (a number
is 4 bytes, a named value and a glyph code 1 byte, a payload at most 1,024 bytes), and an event carries what its
rule lets it carry. An UploadBegin alone may be longer: the 256 advance widths of a GlyphSet (R176) pass 1,024 bytes in the form of R190
(log 11). The meanings do not read this check: they answer for ill-formed commands too. -/

namespace Sys2Proof

/-- A number field is 4 bytes, unsigned (R190). -/
def numFits (n : Nat) : Bool := decide (n < 4294967296)

def optNumFits : Option Nat → Bool
  | none => true
  | some n => numFits n

/-- A signed number field is 4 bytes, two's complement (R190). -/
def intFits (n : Int) : Bool := decide (-2147483648 ≤ n) && decide (n < 2147483648)

/-- A named value is 1 byte; an unknown one lies beyond the `count` values of its field (R190). -/
def namedFits {α : Type} (count : Nat) : Named α → Bool
  | .known _ => true
  | .unknown c => decide (count ≤ c) && decide (c < 256)

def optNamedFits {α : Type} (count : Nat) : Option (Named α) → Bool
  | none => true
  | some v => namedFits count v

/-- A content record of a Claim (R26). -/
def contentFits : ContentField → Bool
  | .picture source => namedFits 2 source
  | .asset id => numFits id
  | .fill pattern => numFits pattern
  | .spot => true
  | .crawl => true
  | .unknown c => decide (5 ≤ c) && decide (c < 256)

/-- A payload holds at most 1,024 bytes (R189). -/
def payloadFits (n : Nat) : Bool := decide (n ≤ 1024)

def optSize (size : Nat) {α : Type} : Option α → Nat
  | none => 1
  | some _ => 1 + size

def Instr.wf : Instr → Bool
  | .deviceReset _ _ => true
  | .startupScanEnd pages => pages.all (fun n => decide (n < 16384))
  | .genlockEdge _ => true
  | .frameTimerExpiry _ => true
  | .genlockLost _ => true
  | .claimDurationEnd _ => true
  | .spotComplete _ => true
  | .passComplete _ => true
  | .scoreFlashEnd => true
  | .inputFrameArrival _ width height tiles => decide (tiles.length = width * height)
  | .inputFrameDiscarded _ => true
  | .inputLost _ => true
  | .holdLimitFallback _ => true
  | .slotStart _ => true
  | .receiverStatus _ _ _ _ _ _ => true
  | .slotEndNoStatus _ => true
  | .linkHoldEnd _ => true
  | .frameClose _ => true
  | .linkDown _ => true
  | .msStep => true
  | .mainExpiry => true
  | .possessionExpiry => true
  | .hornEnd => true
  | .whistle => true
  | .heldEntryLapse _ tag => decide (1 ≤ tag) && decide (tag ≤ 65535)
  | .pageProgramStart => true
  | .pageProgramEnd _ => true
  | .markProgramStart => true
  | .markProgramEnd _ => true
  | .reclaimBlockJudge => true
  | .blockEraseEnd _ => true
  | .operationTimeLimit => true
  | .rxFrame _ _ => true
  | .rxByteGap _ => true
  | .silenceTimeout _ => true
  | .txFrameEnd _ => true
  | .defineRegion _ _ d =>
      [d.id, d.layer, d.col, d.row, d.width, d.height].all numFits && optNumFits d.dwell
        && optNamedFits 2 d.policy && optNumFits d.holdLimit && optNumFits d.fill && optNamedFits 5 d.view
        && optNumFits d.glyphSet
  | .deleteRegion _ _ id => numFits id
  | .setBase _ _ fill dwell => optNumFits fill && optNumFits dwell
  | .setFill _ _ pattern red green blue => [pattern, red, green, blue].all numFits
  | .readRegion _ _ id => numFits id
  | .goLive _ _ => true
  | .endLive _ _ => true
  | .matchReset _ _ => true
  | .setPortRole _ _ port role => numFits port && namedFits 6 role
  | .setPortTimeout _ _ port ms => numFits port && numFits ms
  | .setPriorityMap _ _ port ranks => numFits port && ranks.all numFits && payloadFits (6 + 4 * ranks.length)
  | .setEngineRank _ _ engine rank => namedFits 2 engine && numFits rank
  | .readComposition _ _ col row => numFits col && numFits row
  | .setInput _ _ input limit => namedFits 2 input && numFits limit
  | .setMonitor _ _ monitor _ _ => namedFits 36 monitor
  | .clearFaults _ _ monitor => optNamedFits 36 monitor
  | .setLinkMode _ _ link mode pattern =>
      namedFits 9 link && optNamedFits 2 mode
        && (match pattern with
            | none => true
            | some es => es.all (namedFits 2) && payloadFits (6 + es.length))
  | .readLink _ _ link => numFits link
  | .messageApprove _ _ port tag => numFits port && numFits tag
  | .messageReject _ _ port tag => numFits port && numFits tag
  | .messageConfig _ _ f =>
      [f.maxLength, f.continuation, f.substitute, f.speed, f.holdLimit].all optNumFits
  | .claim _ _ region tag priority content duration _ =>
      [region, tag, priority, duration].all numFits && contentFits content
  | .release _ _ tag => numFits tag
  | .withdraw _ _ => true
  | .resume _ _ => true
  | .readClaims _ _ port => numFits port
  | .clockStart _ _ => true
  | .clockStop _ _ => true
  | .clockSet _ _ main possession => optNumFits main && optNumFits possession
  | .clockAdjust _ _ delta => intFits delta
  | .possessionReset _ _ value => optNumFits value
  | .nextPeriod _ _ => true
  | .scoreSet _ _ f =>
      [f.home, f.away, f.homeFouls, f.awayFouls, f.homeTimeouts, f.awayTimeouts].all optNumFits
        && optNamedFits 3 f.arrow
  | .clockConfig _ _ f =>
      [f.length, f.possessionReset, f.window, f.hysteresis, f.hornLength, f.flashLength].all optNumFits
  | .readClock _ _ => true
  | .clockMark _ _ mark => numFits mark
  | .capture _ _ => true
  | .takeCapture _ _ => true
  | .rotationBegin _ _ => true
  | .rotationContract _ _ id name target qmin =>
      numFits id && optNumFits target && optNumFits qmin
        && (match name with
            | none => true
            | some codes => codes.all (fun c => decide (c < 256)) && payloadFits (17 + codes.length))
  | .rotationSpot _ _ spot contract asset slot regions =>
      [spot, contract, asset, slot].all numFits && regions.all numFits && payloadFits (18 + 4 * regions.length)
  | .rotationCommit _ _ => true
  | .rotationDiscard _ _ => true
  | .contractSuspend _ _ id _ => numFits id
  | .readRotation _ _ start => optNumFits start
  | .readExposure _ _ contract start => optNumFits contract && optNumFits start
  | .uploadBegin _ _ u =>
      numFits u.id && namedFits 2 u.kind
        && (match u.dims with
            | none => true
            | some d => numFits d.1 && numFits d.2)
        && (match u.widths with
            | none => true
            | some ws => ws.all numFits && decide (ws.length < 65536))
  | .uploadLoad _ _ offset data => numFits offset && payloadFits (6 + data.length)
  | .uploadCommit _ _ => true
  | .uploadFinish _ _ => true
  | .uploadAbort _ _ => true
  | .assetRetire _ _ id => numFits id
  | .assetReclaim _ _ => true
  | .assetList _ _ startId startPage => optNumFits startId && optNumFits startPage
  | .messageSubmit _ _ tag text style repeats =>
      numFits tag && text.all (fun c => decide (c < 256)) && namedFits 2 style && optNumFits repeats
        && payloadFits (7 + text.length + optSize 4 repeats)
  | .messageWithdraw _ _ tag port => numFits tag && optNumFits port
  | .readMessages _ _ start => optNumFits start
  | .portReset _ _ port => optNumFits port
  | .readStatus _ _ => true

end Sys2Proof
end

