-- ==== Sys2Proof/Certificates/Slice0/Obligations.lean ====
section
/-! DEFINITION. The statements for the provers. A statement about a request says what the part does with it from the state in which its
frame has been heard (`frameArrives`, R191): `Answers` and `Defers` (Safety.lean) say that the command has a next state, what holds in it,
and that nothing but the parts listed, and the ports as told, differs from the state in which it was heard. That a free transmitter starts
its next frame when the whole step has ended, an answer before a notice, is the model's choice (log 8), as are the places a request code,
a field name and a presence byte have in an answer's fields where the manual lists none (log 7). -/

open Sys2Proof Sys2Proof.Machine

/-! ### The block as a machine of commands -/

/-- A step takes the command at the front of the queue and runs it on the state with the queue's rest; an empty queue leaves the part as it
is, which is the model's own choice (log 3). -/
def Obligations.StepRunsTheFrontCommand : Prop :=
  (∀ (c : Instr) (rest : List Instr) (s : State), step (s.withPending (c :: rest)) = exec c (s.withPending rest))
  ∧ ∀ s : State, s.pending = [] → step s = .next s

/-! ### The screen canvas -/

/-- DEFINE_REGION (R2, R6, R7, R8): an accepted request gives the region its record; every other region, and every claim of another region, is as
before; the claims of the region itself are then the standing claims of the engines with an interest in it (R126, R160), the Rotation Engine's first
where their ranks are equal (the model's choice, log 37); each is offered also where the engine is offering a lost one again (DEDUCED, log 35). That
the answer reports the three values R6 clamps, and no other, is the model's choice (log 13). -/
def Obligations.DefineRegionStoresItsRecord : Prop :=
  ∀ (p : PortId) (q : Byte) (d : DefineFields) (policy : FaultPolicy) (view : ViewBinding) (r : RegionId) (s : State),
    Taken p 1 s → s.canvas.mode = .setup → RegionLaw s → d.id = r.val → 1 ≤ d.id → 1 ≤ d.layer → d.layer ≤ 3 →
    1 ≤ d.width → 1 ≤ d.height → d.col + d.width ≤ 48 → d.row + d.height ≤ 16 →
    d.policy.getD (.known .hold) = .known policy → d.view.getD (.known .none) = .known view →
    (view ≠ .none → d.sponsor.getD false = false ∧ d.message.getD false = false ∧ d.stoppage.getD false = false) →
    (view ≠ .none ∨ d.message.getD false = true → d.glyphSet.isSome = true) →
    (∀ a, d.glyphSet = some a → s.assets.isComplete .glyphSet a = true) →
    (∀ n g, n ≠ r → s.region n = some g → g.layer = d.layer →
      ∀ c y, ¬(inTiles g.col g.row g.width g.height c y ∧ inTiles d.col d.row d.width d.height c y)) →
    (s.claims r).holder = none → (s.claims r).waiting = [] →
    Answers (.defineRegion p q d) p q 1
      ⟨.done, decide (600 < d.dwell.getD 0 ∨ 300 < d.holdLimit.getD 0 ∨ 7 < d.fill.getD 0),
        [.num (stored 0 600 30 d.dwell), .num (stored 0 300 60 d.holdLimit), .num (stored 0 7 0 d.fill)]⟩
      [.canvas, .arbiter, .rotation, .messages] untouched s
      (fun t => t.canvas = { s.canvas with regions := s.canvas.regions.set r.val (some (recordOf d policy view)) r.isLt }
        ∧ (∀ n, n ≠ r → t.claims n = s.claims n) ∧ (t.claims r).holder = none
        ∧ (∀ sponsored carried : Bool,
          (sponsored = true ↔ d.sponsor.getD false = true ∧ ∃ x ∈ s.rotation.spots, r.val ∈ x.regions) →
          (carried = true ↔ d.message.getD false = true
            ∧ ((s.pass r).isSome = true ∨ ∃ e ∈ s.messages.approved, e.style = .normal ∨ s.clock.state ≠ .running)) →
          (t.claims r).waiting
            = (let first := if sponsored then [standingClaim .rotation s.arbiter.rotationRank r] else []
               let other := if carried then [standingClaim .message s.arbiter.messageRank r] else []
               if s.arbiter.rotationRank < s.arbiter.messageRank then other ++ first else first ++ other))
        ∧ t.rotation = { s.rotation with offering := t.rotation.offering }
        ∧ t.messages = { s.messages with offering := t.messages.offering })

/-- DELETE_REGION, SET_BASE and SET_FILL (R9 to R11): the region is undefined, region 0 takes its settings, one fill colour is written; the
refusal of a pattern outside 0..7 is part of it. That the answers of SetBase and SetFill carry the stored values, also when nothing was clamped,
is read from R197 (DEDUCED, log 13). -/
def Obligations.CanvasSettingsAreStored : Prop :=
  (∀ (p : PortId) (q : Byte) (r : RegionId) (g : Region) (s : State),
    Taken p 2 s → s.canvas.mode = .setup → r ≠ 0 → s.region r = some g → (s.claims r).holder = none → (s.claims r).waiting = [] →
    Answers (.deleteRegion p q r.val) p q 2 (doneWith []) [.canvas, .arbiter, .rotation, .messages] untouched s
      (fun t => t.canvas = { s.canvas with regions := s.canvas.regions.set r.val none r.isLt }
        ∧ (∀ n, n ≠ r → t.claims n = s.claims n) ∧ (t.claims r).holder = none ∧ (t.claims r).waiting = []
        ∧ t.rotation = { s.rotation with offering := t.rotation.offering }
        ∧ t.messages = { s.messages with offering := t.messages.offering }))
  ∧ (∀ (p : PortId) (q : Byte) (fill dwell : Option Nat) (g : Region) (s : State),
    Taken p 3 s → s.canvas.mode = .setup → s.region 0 = some g →
    Answers (.setBase p q fill dwell) p q 3
      (doneIf (decide (7 < fill.getD 0 ∨ 600 < dwell.getD 0)) [.num (stored 0 7 g.fill fill), .num (stored 0 600 g.dwell dwell)])
      [.canvas] untouched s
      (fun t => t.canvas = { s.canvas with
          regions := s.canvas.regions.set 0 (some { g with fill := stored 0 7 g.fill fill, dwell := stored 0 600 g.dwell dwell }) }))
  ∧ (∀ (p : PortId) (q : Byte) (n red green blue : Nat) (s : State), Taken p 4 s →
    (∀ h : n < 8, Answers (.setFill p q n red green blue) p q 4
      (doneIf (decide (255 < red ∨ 255 < green ∨ 255 < blue)) [.num (min 255 red), .num (min 255 green), .num (min 255 blue)])
      [.canvas] untouched s
      (fun t => t.canvas = { s.canvas with colours := s.canvas.colours.set n ⟨min 255 red, min 255 green, min 255 blue⟩ h }))
    ∧ (8 ≤ n → Answers (.setFill p q n red green blue) p q 4 (refusesField .pattern) [] untouched s (fun _ => True)))

/-- GO_LIVE (R15): the mode becomes Live, in whatever mode and whatever the clock does, and nothing else changes; the right to it is the
Director's. -/
def Obligations.GoLiveSetsTheMode : Prop :=
  (∀ (p : PortId) (q : Byte) (s : State), Taken p 6 s →
    Answers (.goLive p q) p q 6 (doneWith []) [.canvas] untouched s (fun t => t.canvas = { s.canvas with mode := .live }))
  ∧ ∀ role : Role, hasRight role 6 = true ↔ role = .director

/-- The five requests that Live refuses (R14): each is answered WrongMode whatever its fields, and nothing changes. -/
def Obligations.SetupRequestsAreRefusedInLive : Prop :=
  ∀ (p : PortId) (q : Byte) (s : State), s.canvas.mode = .live →
    (∀ d, Taken p 1 s → Answers (.defineRegion p q d) p q 1 (refusal .wrongMode) [] untouched s (fun _ => True))
    ∧ (∀ id, Taken p 2 s → Answers (.deleteRegion p q id) p q 2 (refusal .wrongMode) [] untouched s (fun _ => True))
    ∧ (∀ fill dwell, Taken p 3 s → Answers (.setBase p q fill dwell) p q 3 (refusal .wrongMode) [] untouched s (fun _ => True))
    ∧ (Taken p 8 s → Answers (.matchReset p q) p q 8 (refusal .wrongMode) [] untouched s (fun _ => True))
    ∧ (∀ port role, Taken p 9 s → Answers (.setPortRole p q port role) p q 9 (refusal .wrongMode) [] untouched s (fun _ => True))

/-- MATCH_RESET (R108, R116, R137, R150, R168), taken in Setup: the clock, score, captures, accounts and messages start again, with their settings
kept. That the map of the running frame stays as it was built, with the tiles of a crawl whose pass has ended in it, is read from R52 (DEDUCED, log
53). -/
def Obligations.MatchResetStartsTheMatchAgain : Prop :=
  ∀ (p : PortId) (q : Byte) (s : State), Taken p 8 s → s.canvas.mode = .setup →
    Answers (.matchReset p q) p q 8 (doneWith []) [.clock, .score, .captures, .rotation, .messages, .monitors, .arbiter] untouched s
      (fun t =>
        t.clock = { s.clock with state := .stopped, main := s.clock.length, possession := s.clock.possessionReset, period := 1,
                                 correction := 0, horn := none, unsupervised := false, lastWhistle := none }
        ∧ t.score = { home := 0, away := 0, homeFouls := 0, awayFouls := 0, homeTimeouts := 0, awayTimeouts := 0, arrow := .none,
                      flashLength := s.score.flashLength, flashLeft := 0, flashUsed := 0 }
        ∧ t.captures = { held := [], counter := 0, overflow := false }
        ∧ t.rotation = { s.rotation with
            pointer := 0
            contracts := s.rotation.contracts.map (fun c => { c with accrued := 0, history := [], lastCredit := none, cut := 0, shown := 0 }) }
        ∧ t.messages.held = [] ∧ t.messages.approved = [] ∧ (∀ r, t.pass r = none) ∧ t.messages.settings = s.messages.settings
        ∧ t.monitor monUnsupervised = { (s.monitor monUnsupervised) with condition := false }
        ∧ ∀ m, m ≠ monUnsupervised → t.monitor m = (frameArrives p s).monitor m)

/-- END_LIVE and NEXT_PERIOD (R16, R91, R132, R148), with no rotation staged: the period's exposure goes to history, a PeriodReport for each
contract goes to the Sponsor ports and the director port, and NextPeriod opens the next period; with the clock Running both are refused, NextPeriod
so in period 9 too (the model's choice, log 19), where with the clock standing it names the field period (DEDUCED, log 33). With a rotation staged
the boundary of either makes it the active one (R125): carried contracts keep their history and flag under their new terms, the dropped ones are
reported after the PeriodReports (R133; shown where no region carries sponsors, so that no claim moves), and the pointer and the current spots start
again. The ms that PeriodChanged carries is that of the step before it (the model's choice, log 46). -/
def Obligations.PeriodBoundaryRollsTheAccounts : Prop :=
  (∀ (p : PortId) (q : Byte) (s : State), s.rotation.staged = none →
    (Taken p 7 s → s.canvas.mode = .live → s.clock.state ≠ .running →
      Answers (.endLive p q) p q 7 (doneWith []) [.canvas, .rotation]
        (notedAll (s.portsOf [.sponsor]) (s.rotation.contracts.map (periodReportOf s.comp.frame s.clock.period))) s
        (fun t => t.canvas = { s.canvas with mode := .setup }
          ∧ t.rotation = { s.rotation with contracts := s.rotation.contracts.map (periodClosed s.clock.period) }))
    ∧ (Taken p 7 s → s.canvas.mode = .live → s.clock.state = .running →
      Answers (.endLive p q) p q 7 (refusal .clockRunning) [] untouched s (fun _ => True))
    ∧ (Taken p 7 s → s.canvas.mode = .setup → Answers (.endLive p q) p q 7 (doneWith []) [] untouched s (fun _ => True))
    ∧ (Taken p 32 s → s.clock.state ≠ .running → s.clock.period < 9 →
      Answers (.nextPeriod p q) p q 32 (doneWith []) [.clock, .rotation]
        (thenPorts (notedAll (s.portsOf [.sponsor]) (s.rotation.contracts.map (periodReportOf s.comp.frame s.clock.period)))
          (noted (s.portsOf [.scoring]) (clockNoticeOf .periodChanged s.comp.frame
            { s.clock with period := s.clock.period + 1, main := s.clock.length, possession := s.clock.possessionReset, correction := 0,
                           state := .stopped } [nat s.clock.period]))) s
        (fun t =>
          t.clock = { s.clock with period := s.clock.period + 1, main := s.clock.length, possession := s.clock.possessionReset,
                                   correction := 0, state := .stopped }
          ∧ t.rotation = { s.rotation with contracts := s.rotation.contracts.map (periodClosed s.clock.period) }))
    ∧ (Taken p 32 s → s.clock.state = .running →
      Answers (.nextPeriod p q) p q 32 (refusal .clockRunning) [] untouched s (fun _ => True))
    ∧ (Taken p 32 s → s.clock.state ≠ .running → s.clock.period = 9 →
      Answers (.nextPeriod p q) p q 32 (refusesField .period) [] untouched s (fun _ => True)))
  ∧ (∀ (i : Instr) (p : PortId) (q : Byte) (plan : Plan) (s : State), s.clock.state ≠ .running → s.rotation.staged = some plan →
    (i = .nextPeriod p q ∧ Taken p 32 s ∧ s.clock.period < 9 ∨ i = .endLive p q ∧ Taken p 7 s ∧ s.canvas.mode = .live) →
    let opened := { s.clock with period := s.clock.period + 1, main := s.clock.length, possession := s.clock.possessionReset,
                                 correction := 0, state := .stopped }
    let reports := s.rotation.contracts.map (periodReportOf s.comp.frame s.clock.period)
      ++ ((s.rotation.contracts.filter (fun o => !plan.contracts.any (fun c => decide (c.id = o.terms.id)))).map
          (fun o => contractReportOf s.comp.frame 1 (periodClosed s.clock.period o)))
    ∃ t, exec i s = .next t ∧ t.rotation.staged = none ∧ t.rotation.build = s.rotation.build ∧ t.rotation.spots = plan.spots
      ∧ t.rotation.pointer = 0 ∧ (∀ r, t.currentSpot r = none)
      ∧ (i = .endLive p q → t.canvas = { s.canvas with mode := .setup } ∧ t.clock = s.clock)
      ∧ (i = .nextPeriod p q → t.canvas = s.canvas ∧ t.clock = opened)
      ∧ t.messages = { s.messages with offering := t.messages.offering }
      ∧ Only [.canvas, .arbiter, .clock, .rotation, .messages] (frameArrives p s) t
      ∧ t.rotation.contracts = plan.contracts.map (fun c =>
          match s.rotation.contracts.find? (fun o => decide (o.terms.id = c.id)) with
          | some o => { periodClosed s.clock.period o with terms := c }
          | none => { terms := c, suspended := false, accrued := 0, history := [], lastCredit := none, cut := 0, shown := 0 })
      ∧ ((∀ r g, s.region r = some g → g.sponsor = false) →
          (i = .endLive p q →
            PortsBecome (answering p q 7 (doneWith []) (notedAll (s.portsOf [.sponsor]) reports)) (frameArrives p s) t)
          ∧ (i = .nextPeriod p q →
            PortsBecome
              (answering p q 32 (doneWith [])
                (thenPorts (notedAll (s.portsOf [.sponsor]) reports)
                  (noted (s.portsOf [.scoring]) (clockNoticeOf .periodChanged s.comp.frame opened [nat s.clock.period]))))
              (frameArrives p s) t)))

/-! ### Director requests -/

/-- SET_PORT_ROLE, SET_PORT_TIMEOUT and SET_PRIORITY_MAP (R21, R192, R198): one port takes its role, its timeout or its map, and nothing else of
any port changes; a port in use (a live claim, a deferred request whose answer has not been sent whole, the open build or the open upload) keeps
its role, and the request is Busy, also where the role asked for is the one it has (DEDUCED, log 29); a timeout that another port's timer has
reached already makes that port Silent at once. That the answers of SetPortTimeout and SetPriorityMap carry the stored values, also when nothing
was clamped, is read from R197 (DEDUCED, log 13). -/
def Obligations.PortSettingsAreStored : Prop :=
  (∀ (p : PortId) (q : Byte) (n : PortId) (role : Role) (s : State), Taken p 9 s → s.canvas.mode = .setup → n ≠ s.director →
    role ≠ .director → (role = .scoring → ∀ m, m ≠ n → (s.port m).role ≠ .scoring) →
    let used := s.claimSet n ≠ [] ∨ (s.port n).requests ≠ []
      ∨ (∃ a, (a ∈ (s.port n).answers ∨ (s.port n).line = some (.answer a)) ∧ a.deferred = true)
      ∨ (∃ b, s.rotation.build = some b ∧ b.owner = n) ∨ ∃ u, s.assets.upload = some u ∧ u.owner = n ∧ u.orphan = false
    (¬used → Answers (.setPortRole p q n.val (.known role)) p q 9 (doneWith []) [] (onPort n (fun x => { x with role := role })) s
      (fun _ => True))
    ∧ (used → Answers (.setPortRole p q n.val (.known role)) p q 9 (refusal .busy) [] untouched s (fun _ => True)))
  ∧ (∀ (p : PortId) (q : Byte) (n : PortId) (ms v : Nat) (s : State), Taken p 10 s →
    v = (if ms = 0 then 0 else if ms < 250 then 250 else if 10000 < ms then 10000 else ms) →
    (n = p ∨ v = 0 ∨ (s.port n).silentTimer < v ∨ (s.port n).silent = true) →
    Answers (.setPortTimeout p q n.val ms) p q 10 (doneIf (decide (v ≠ ms)) [nat v]) [] (onPort n (fun x => { x with timeout := v })) s
      (fun _ => True))
  ∧ (∀ (p : PortId) (q : Byte) (n : PortId) (ms v : Nat) (s : State), Taken p 10 s →
    v = (if ms = 0 then 0 else if ms < 250 then 250 else if 10000 < ms then 10000 else ms) →
    n ≠ p → v ≠ 0 → v ≤ (s.port n).silentTimer → (s.port n).silent = false →
    ∃ t, exec (.setPortTimeout p q n.val ms) s = .next t ∧ (t.port n).silent = true ∧ (t.port n).timeout = v ∧ (t.port n).withdrawn = false
      ∧ (t.monitor (monSilent n)).condition = true
      ∧ (∀ r, (t.claims r).waiting = (s.claims r).waiting.filter (fun w => !decide (w.claimant = .port n))
          ∧ (t.claims r).holder = (s.claims r).holder.map
              (fun h => if h.claimant = .port n then { h with mark := some .dropRelease } else h))
      ∧ ∃ a, (t.port p).newest = some a ∧ a.seq = q ∧ a.code = 10 ∧ a.outcome = .done ∧ a.adjusted = decide (v ≠ ms) ∧ a.fields = [nat v])
  ∧ (∀ (p : PortId) (q : Byte) (n : PortId) (ranks : List Nat) (s : State), Taken p 11 s → ranks.length = 8 →
    Answers (.setPriorityMap p q n.val ranks) p q 11
      (doneIf (decide (∃ r ∈ ranks, 7 < r)) (.count 8 :: ranks.map (fun r => nat (min 7 r)))) []
      (onPort n (fun x => { x with priorityMap := ranks.map (min 7) })) s (fun _ => True))

/-- SET_ENGINE_RANK (R22): the engine's claims take the new rank at once; a holder keeps its place, no wait list gains or loses a claim or its
order, and a waiting claim is put back after every entry of equal or higher rank. That the answer carries the stored rank, also when nothing was
clamped, is read from R197 (DEDUCED, log 13). -/
def Obligations.EngineRankAppliesToLiveClaims : Prop :=
  ∀ (p : PortId) (q : Byte) (e : Engine) (rank : Nat) (s : State), Taken p 12 s → WaitLaw s →
    Answers (.setEngineRank p q (.known e) rank) p q 12 (doneIf (decide (7 < rank)) [nat (min 7 rank)]) [.arbiter] untouched s
      (fun t => t.engineRank e = min 7 rank ∧ (∀ d, d ≠ e → t.engineRank d = s.engineRank d) ∧ WaitLaw t
        ∧ ∀ r, (t.claims r).holder
              = (s.claims r).holder.map (fun h => if h.claimant = .engine e then { h with rank := min 7 rank } else h)
            ∧ (t.claims r).waiting.Perm
                ((s.claims r).waiting.map (fun w => if w.claimant = .engine e then { w with rank := min 7 rank } else w))
            ∧ ∀ front w back, (s.claims r).waiting = front ++ w :: back → w.claimant = .engine e →
                (∀ x ∈ front ++ back, x.claimant ≠ .engine e) →
                (t.claims r).waiting = (front ++ back).filter (fun x => decide (min 7 rank ≤ x.rank))
                  ++ { w with rank := min 7 rank } :: (front ++ back).filter (fun x => decide (x.rank < min 7 rank)))

/-- SET_MONITOR, CLEAR_FAULTS and SET_INPUT (R55, R57, R59 to R61): settings and latched flags, and the held frame that goes when an input stops
being treated as Lost. That SetInput's answer carries the stored limit, also when nothing was clamped, is read from R197 (DEDUCED, log 13). That
ClearFaults counts a flag that is set again among those it cleared is read from R61 (DEDUCED, log 47). -/
def Obligations.MonitorAndInputRequestsAct : Prop :=
  (∀ (p : PortId) (q : Byte) (m : MonitorId) (enable latch : Option Bool) (s : State), Taken p 15 s →
    Answers (.setMonitor p q (.known m) enable latch) p q 15 (doneWith []) [.monitors, .inputs] untouched s
      (fun t =>
        t.monitor m = { ((frameArrives p s).monitor m) with
          enable := enable.getD (s.monitor m).enable
          latch := latch.getD (s.monitor m).latch
          latched := (match latch with
                      | none => (s.monitor m).latched
                      | some true => (s.monitor m).latched || ((frameArrives p s).monitor m).condition
                      | some false => false) }
        ∧ (∀ n, n ≠ m → t.monitor n = (frameArrives p s).monitor n)
        ∧ ∀ i, t.input i = if (t.monitor (monLost i)).reported then s.input i else { s.input i with held := none }))
  ∧ (∀ (p : PortId) (q : Byte) (monitor : Option MonitorId) (s : State), Taken p 16 s →
    Answers (.clearFaults p q (monitor.map .known)) p q 16
      (doneWith [nat ((allMonitors.filter (fun m => (monitor.isNone || decide (monitor = some m)) && (s.monitor m).latched)).length)])
      [.monitors, .inputs] untouched s
      (fun t =>
        (∀ m, t.monitor m = if monitor = none ∨ monitor = some m then
              { ((frameArrives p s).monitor m) with latched := ((frameArrives p s).monitor m).condition && (s.monitor m).latch }
            else (frameArrives p s).monitor m)
        ∧ ∀ i, t.input i = if (t.monitor (monLost i)).reported then s.input i else { s.input i with held := none }))
  ∧ (∀ (p : PortId) (q : Byte) (i : InputId) (limit : Nat) (s : State), Taken p 14 s →
    Answers (.setInput p q (.known i) limit) p q 14 (doneIf (decide (limit < 1 ∨ 60 < limit)) [nat (stored 1 60 0 (some limit))]) [.inputs]
      untouched s
      (fun t => t.input i = { s.input i with limit := stored 1 60 0 (some limit) } ∧ ∀ n, n ≠ i → t.input n = s.input n))

/-- SET_LINK_MODE (R77): the settings wait for the next frame of the links named, and everything else of the links stays; a link or a flow mode beyond
its list, a pattern without eight entries, with one that is neither Send nor Idle, or without a Send entry, is refused. Of several fields at fault the
link is named before the flow mode and that before the pattern, in the order of the rule (the model's choice, log 19). A tick arms what waits, over
what is armed already, for the next frame the link begins; the settings in force stay until the link closes its frame and begins the next (R64, R73),
which puts them in force, as does the first tick on a link that has sent no frame. That the link, with no packet in progress too, closes its frame in
a step after the tick, here FRAME_CLOSE, is the model's choice (log 17). -/
def Obligations.LinkSettingsWaitForTheNextFrame : Prop :=
  (∀ (p : PortId) (q : Byte) (sel : LinkSel) (mode : Option FlowMode) (pattern : Option (List Bool)) (s : State), Taken p 17 s →
    ((∀ l, pattern = some l → l.length = 8 ∧ true ∈ l) →
      Answers (.setLinkMode p q (.known sel) (mode.map .known) (pattern.map (List.map .known))) p q 17 (doneWith []) [.links] untouched s
        (fun t => ∀ k, t.link k = if sel = .all ∨ sel = .one k then
            { s.link k with waiting := { mode := if mode.isSome then mode else (s.link k).waiting.mode,
                                         pattern := if pattern.isSome then pattern else (s.link k).waiting.pattern } }
          else s.link k))
    ∧ (∀ l, pattern = some l → ¬(l.length = 8 ∧ true ∈ l) →
      Answers (.setLinkMode p q (.known sel) (mode.map .known) (pattern.map (List.map .known))) p q 17 (refusesField .cadencePattern) []
        untouched s (fun _ => True)))
  ∧ (∀ (p : PortId) (q : Byte) (sel : LinkSel) (mode : Option (Named FlowMode)) (pattern : Option (List (Named Bool))) (s : State),
    Taken p 17 s →
    (∀ c, Answers (.setLinkMode p q (.unknown c) mode pattern) p q 17 (refusesField .link) [] untouched s (fun _ => True))
    ∧ (∀ c, mode = some (.unknown c) →
      Answers (.setLinkMode p q (.known sel) mode pattern) p q 17 (refusesField .flowMode) [] untouched s (fun _ => True))
    ∧ (∀ l c, (∀ d, mode ≠ some (.unknown d)) → pattern = some l → .unknown c ∈ l →
      Answers (.setLinkMode p q (.known sel) mode pattern) p q 17 (refusesField .cadencePattern) [] untouched s (fun _ => True)))
  ∧ (∀ (t0 : Nat) (k : LinkId) (l : Link) (s : State), s.comp.timerStart + (if s.ratesel then 166667 else 200000) ≤ t0 → s.link k = l →
    let due : LinkSettings := { mode := if l.waiting.mode.isSome then l.waiting.mode else l.armed.mode,
                                pattern := if l.waiting.pattern.isSome then l.waiting.pattern else l.armed.pattern }
    (l.frame = some s.comp.frame →
      ∃ t, exec (.frameTimerExpiry t0) s = .next t ∧ (t.link k).mode = l.mode ∧ (t.link k).pattern = l.pattern ∧ (t.link k).armed = due
        ∧ (t.link k).waiting = { mode := none, pattern := none }
        ∧ (l.packet = none → ∃ u, exec (.frameClose k) t = .next u ∧ (u.link k).frame = some t.comp.frame
            ∧ (u.link k).mode = due.mode.getD l.mode ∧ (u.link k).pattern = due.pattern.getD l.pattern
            ∧ (u.link k).armed = { mode := none, pattern := none }))
    ∧ (l.frame = none →
      ∃ t, exec (.frameTimerExpiry t0) s = .next t ∧ (t.link k).mode = due.mode.getD l.mode ∧ (t.link k).pattern = due.pattern.getD l.pattern
        ∧ (t.link k).armed = { mode := none, pattern := none } ∧ (t.link k).waiting = { mode := none, pattern := none }
        ∧ (t.link k).frame = some t.comp.frame))

/-! ### Reading requests -/

/-- READ_REGION, READ_CLOCK, READ_LINK, READ_CLAIMS, READ_COMPOSITION, READ_ROTATION, READ_EXPOSURE, ASSET_LIST, READ_MESSAGES and READ_STATUS (R12,
R29, R53, R78, R107, R134, R149, R166, R186, R201): each is answered Done with the fields its rule lists, as they stand when it is taken, and nothing
changes but the port that asked; READ_STATUS answers NoticesLost as it stood, which is then clear (R196). A continued answer is its head, its lists in
full and an absent continuation where all of it fits, and never exceeds the payload (R194). DEDUCED: READ_REGION gives the number of waiting claims
handed on after the region's last evaluation (R35; log 20); READ_COMPOSITION lists region 0, where another region supplies the tile, as hidden (log
32); ASSET_LIST begins at the first record where a start page stands alone, and at the first record of the id or a later one where a start id does
(log 47). The model's choice: the number of waiting claims where log 42 says so; one mark for each region of READ_COMPOSITION, not presentable before
transparent before hidden (log 32); in READ_LINK the later of two settings of one field not yet in force, and of a delivery record its counts and its
Stale tiles (log 43); the regions of READ_ROTATION with their ids, ascending (log 7); in ASSET_LIST the lowest of equal runs, 1,024 as the next block
of a reclaim that erases the last (log 47), and the port of an upload whose owner was lost (log 25); between two ms steps the ms of the first (log
46); a time left of 0 past a limit lowered since (log 50); a PortReset whose answer is unsent left out of READ_STATUS (log 52); and the form of a
field the manual gives none (a group under one presence byte, a staged rotation or build under one alone, region 0 in R2's order, the flag of
READ_REGION alone before the record, a list's count, a state's code, the place of a value no list names; log 7). A composition read before the first
tick carries free values for what has no map (log 23). -/
def Obligations.ReadsReportWhatStands : Prop :=
  (∀ (p : PortId) (q : Byte) (r : RegionId) (s : State), Taken p 5 s →
    (s.region r = none → Answers (.readRegion p q r.val) p q 5 (doneWith [.flag false]) [] untouched s (fun _ => True))
    ∧ ∀ g, s.region r = some g →
        Answers (.readRegion p q r.val) p q 5
          (doneWith ([.flag true, nat g.layer, nat g.col, nat g.row, nat g.width, nat g.height, nat g.dwell, .flag g.sponsor, .flag g.message,
              .flag g.stoppage, .named (policyCode g.policy), nat g.holdLimit, nat g.fill]
            ++ (if g.view = .none then [.absent] else [.present, .named (viewCode g.view)]) ++ optNat g.glyphSet ++ optAtoms (fun (f : FrameNo) => [.num f.toNat]) g.lastChange
            ++ optAtoms (fun (h : Claim) => [.named (claimantCode h.claimant), nat h.tag, .named (contentCode h.content)]) (s.claims r).holder
            ++ [nat (s.claims r).seenWaiting])) [] untouched s (fun _ => True))
  ∧ (∀ (p : PortId) (q : Byte) (s : State), Taken p 35 s →
    Answers (.readClock p q) p q 35
      (doneWith ([.named (mainStateCode s.clock.state), nat s.clock.main, nat s.clock.possession, .num s.clock.correction, nat s.clock.period]
        ++ textAtoms (viewText s.clock s.score .mainClock) ++ textAtoms (viewText s.clock s.score .possession)
        ++ textAtoms (viewText s.clock s.score .score) ++ textAtoms (viewText s.clock s.score .period)
        ++ [nat s.clock.length, nat s.clock.possessionReset, nat s.clock.window, nat s.clock.hysteresis, nat s.clock.hornLength,
            .flag s.clock.whistleStop, .flag s.clock.horn.isSome]
        ++ optMs s.clock.horn ++ [.flag s.clock.unsupervised] ++ optMs s.clock.lastWhistle
        ++ [nat s.score.home, nat s.score.away, nat s.score.homeFouls, nat s.score.awayFouls, nat s.score.homeTimeouts,
            nat s.score.awayTimeouts]
        ++ (if s.score.arrow = .none then [.absent] else [.present, .named (arrowCode s.score.arrow)])
        ++ [nat s.score.flashLength, nat s.score.flashLeft, .ms s.clock.now, .num s.comp.frame.toNat])) [] untouched s (fun _ => True))
  ∧ (∀ (p : PortId) (q : Byte) (k : LinkId) (l : Link) (s : State), Taken p 18 s → s.link k = l →
    Answers (.readLink p q k.val) p q 18
      (doneWith ([.named (if l.down then 0 else if 0 < l.hold then 2 else 1), nat l.hold, .named (flowCode l.mode)]
        ++ listAtoms (fun b => [.named (if b then 0 else 1)]) l.pattern
        ++ optAtoms (fun m => [.named (flowCode m)]) (if l.waiting.mode.isSome then l.waiting.mode else l.armed.mode)
        ++ optAtoms (listAtoms (fun b => [.named (if b then 0 else 1)]))
            (if l.waiting.pattern.isSome then l.waiting.pattern else l.armed.pattern)
        ++ [nat l.pacing, .named (if l.room then 0 else 1), .flag l.overrun, nat l.group, .num l.lastStatus.toNat]
        ++ optAtoms (fun (d : DeliveryRecord) =>
            let stale := (List.range 96).filter (fun i => !d.delivered.contains i)
            [.num d.frame.toNat, nat d.link.val, nat (96 - stale.length), nat stale.length, nat d.started, nat d.nacks]
              ++ listAtoms (fun i => [nat i]) stale) l.record)) [] untouched s (fun _ => True))
  ∧ (∀ (p : PortId) (q : Byte) (n : PortId) (s : State), Taken p 26 s → (n = p ∨ (s.port p).role = .director) →
    ∃ set, set.Perm (s.claimSet n) ∧ set.Pairwise (fun a b => a.claim.tag ≤ b.claim.tag)
      ∧ Answers (.readClaims p q n.val) p q 26
          (doneWith (listAtoms (fun (e : Standing) =>
              [nat e.claim.tag, nat e.region.val, nat e.claim.rank]
                ++ (match e.claim.content with
                    | .picture i => [.named 0, .named (inputCode i)]
                    | .asset id => [.named 1, nat id]
                    | .fill f => [.named 2, nat f.val]
                    | .spot => [.named 3]
                    | .crawl => [.named 4])
                ++ [.named (if e.holding then 1 else 0)] ++ (if e.holding then [.absent] else [.present, nat e.position])
                ++ optNat e.claim.remaining ++ [.flag e.claim.resume]
                ++ (match e.claim.mark with
                    | none => [.absent]
                    | some .keep => [.present, .named 0]
                    | some .dropRelease => [.present, .named 1, .named 0]
                    | some .dropClockStart => [.present, .named 1, .named 1])) set
            ++ [.flag (s.port n).withdrawn, nat set.length])) [] untouched s (fun _ => True))
  ∧ (∀ (p : PortId) (q : Byte) (c r : Nat) (s : State), Taken p 13 s → c ≤ 47 → r ≤ 15 →
    (∀ m, s.comp.map = some m →
      Answers (.readComposition p q c r) p q 13
        (doneWith ([.num m.frame.toNat, nat (m.supplier c r).region.val] ++ contentEntry (m.content c r)
          ++ listAtoms (fun (x : Plane) =>
              [nat x.region.val, .named (if x.presentable = false then 0 else if x.region ≠ 0 ∧ x.transparent c r = true then 1 else 2)])
            ((m.planes ++ [m.base]).filter (fun x => x.covers c r && decide (x.region ≠ (m.supplier c r).region))))) [] untouched s
        (fun _ => True))
    ∧ (s.comp.map = none →
      Answers (.readComposition p q c r) p q 13 (doneWith (.num s.comp.frame.toNat :: Config.noMapFields.map nat)) [] untouched s
        (fun _ => True)))
  ∧ (∀ (p : PortId) (q : Byte) (start : Option Nat) (s : State), Taken p 45 s →
    Answers (.readRotation p q start) p q 45
      (doneWith (countedPage
        ([nat s.rotation.pointer] ++ optAtoms (fun (t : Plan) => [nat t.contracts.length, nat t.spots.length]) s.rotation.staged
          ++ optAtoms (fun (b : Build) => [nat b.owner.val, nat b.plan.contracts.length, nat b.plan.spots.length]) s.rotation.build)
        [s.rotation.contracts.map (fun c => [nat c.terms.id] ++ textAtoms c.terms.name
            ++ [nat c.terms.target, nat c.terms.qmin, .flag c.suspended, nat c.cut, nat c.shown]),
          s.rotation.spots.map (fun t => [nat t.id, nat t.contract, nat t.asset, nat t.slot] ++ listAtoms (fun n => [nat n]) t.regions
            ++ optAtoms (fun (r : RegionId) => [nat r.val])
                (allRegions.find? (fun r => decide ((s.currentSpot r).map (fun x => x.spot) = some t.id)))),
          allRegions.flatMap (fun r =>
            if (s.claims r).awaitedBy (.engine .rotation) ∨ (s.claims r).heldBy (.engine .rotation) ∨ s.offering .rotation r = true then
              [[nat r.val, .named (if (s.claims r).awaitedBy (.engine .rotation) then 0
                  else if (s.claims r).heldBy (.engine .rotation) then 1 else 2)]
                ++ (match s.currentSpot r, s.region r with
                    | some x, some g =>
                      match s.rotation.spots.find? (fun t => decide (t.id = x.spot)) with
                      | some t => [.present, nat x.spot, nat x.run, nat (max t.slot g.dwell)]
                      | none => [.absent]
                    | _, _ => [.absent])]
            else [])] start)) [] untouched s (fun _ => True))
  ∧ (∀ (p : PortId) (q : Byte) (c start : Option Nat) (listed : List Contract) (s : State), Taken p 46 s →
    (c = none ∧ listed = s.rotation.contracts
      ∨ ∃ id e, c = some id ∧ 1 ≤ id ∧ id ≤ 255 ∧ s.rotation.contracts.find? (fun x => decide (x.terms.id = id)) = some e ∧ listed = [e]) →
    Answers (.readExposure p q c start) p q 46
      (doneWith (countedPage
        ([.named (modeCode s.canvas.mode), nat (if s.ratesel then 60 else 50), nat s.clock.length, nat s.clock.main,
            nat (s.clock.length - s.clock.main)]
          ++ optAtoms (fun (f : FrameNo) => [.num f.toNat]) s.exposure.lastTallied)
        [listed.map (fun x =>
          let units := x.terms.target * 256 * (if s.ratesel then 60 else 50)
          let expected := units * (s.clock.length - s.clock.main) / s.clock.length
          [nat x.terms.id] ++ textAtoms x.terms.name
            ++ [nat x.terms.target, nat units, nat x.terms.qmin, .flag x.suspended, nat x.accrued, nat expected,
                .num (max (-2147483648) (min 2147483647 ((expected : Int) - (x.accrued : Int))))]
            ++ optAtoms (fun (y : Nat × FrameNo) => [nat y.1, .num y.2.toNat]) x.lastCredit
            ++ listAtoms (fun (y : Nat × Nat) => [nat y.1, nat y.2]) x.history ++ [nat x.cut, nat x.shown])] start)) [] untouched s
      (fun _ => True))
  ∧ (∀ (p : PortId) (q : Byte) (startId startPage : Option Nat) (s : State), Taken p 54 s → AssetLaw s →
    ∃ (list : List AssetRecord) (longest first : Nat),
      list.Perm s.assets.records ∧ list.Pairwise (fun a b => a.id < b.id ∨ a.id = b.id ∧ a.first ≤ b.first)
      ∧ (0 < longest → first + longest ≤ 16384 ∧ ∀ n, first ≤ n → n < first + longest → keyGet n s.assets.pageMap = none)
      ∧ (∀ a n, 0 < n → a + n ≤ 16384 → (∀ m, a ≤ m → m < a + n → keyGet m s.assets.pageMap = none) →
          n ≤ longest ∧ (n = longest → first ≤ a))
      ∧ Answers (.assetList p q startId startPage) p q 54
          (doneWith (pageAnswer
            ([nat (16384 - s.assets.pageMap.length), nat (s.assets.pageMap.filter (fun x => decide (x.2 = .dirty))).length, nat longest,
                nat first, nat s.assets.retireList.length]
              ++ optAtoms (fun (u : Upload) => [nat u.owner.val, nat u.id, nat u.committed]) s.assets.upload
              ++ optAtoms (fun (x : Reclaim) => [nat x.next]) s.assets.reclaim)
            [list.map (fun e =>
              [nat e.id, .named (kindCode e.kind)]
                ++ (if e.kind = .image then [.present, nat e.width, nat e.height] else [.absent])
                ++ [nat e.first, nat e.count, nat (s.assets.pageMap.filter (fun x => decide (x.2 = .part e.first))).length,
                    .named (assetStateCode e.state), .flag (s.assets.retireList.contains e.first)]
                ++ (if e.state = .complete then [.present, nat (claimPins s e.id), nat (spotPins s e.id), nat (regionPins s e.id)]
                    else [.absent]))]
            (list.filter (fun e => decide (e.id < startId.getD 0 ∨ e.id = startId.getD 0 ∧ e.first < startPage.getD 0))).length 9
            (fun n => optAtoms (fun (e : AssetRecord) => [nat e.id, nat e.first]) list[n]?))) [] untouched s (fun _ => True))
  ∧ (∀ (p : PortId) (q : Byte) (start : Option Nat) (s : State), Taken p 57 s →
    Answers (.readMessages p q start) p q 57
      (doneWith
        (let x := s.messages
         let entry := fun (e : Entry) => [nat e.submitter.val, nat e.tag, .named (styleCode e.style), nat e.repeats] ++ textAtoms e.text
           ++ [.flag e.truncated, nat e.substituted]
         countedPage
          [nat x.settings.maxLength, nat x.settings.continuation, nat x.settings.substitute, nat x.settings.speed, nat x.settings.holdLimit,
            nat s.entries.length]
          [x.held.map (fun e => entry e
              ++ (if x.settings.holdLimit = 0 then [.absent]
                  else [.present, nat (x.settings.holdLimit * 1000 - (s.clock.now - e.submitted).toNat)])),
            x.approved.map (fun e => entry e
              ++ [nat e.passesDone, .flag (decide (e.style = .normal ∨ s.clock.state ≠ .running))]),
            allRegions.flatMap (fun r => ((s.pass r).toList).map (fun y =>
              [nat r.val, nat y.entry.submitter.val, nat y.entry.tag, .named (if y.withdrawing then 3 else 2), nat y.entry.passesDone,
                .num y.start.toNat, nat y.length, nat y.run, nat y.speed, .flag y.abort])),
            allRegions.flatMap (fun r =>
              if (s.region r).any (fun g => g.message) then
                [nat r.val ::
                  (if (s.claims r).awaitedBy (.engine .message) then [.present, .named 1]
                   else if (s.claims r).heldBy (.engine .message) then [.present, .named 2]
                   else if s.offering .message r then [.present, .named 3] else [.absent])]
              else [])] start)) [] untouched s (fun _ => True))
  ∧ (∀ (p : PortId) (q : Byte) (s : State), Taken p 59 s →
    let input := fun (i : InputId) =>
      optAtoms (fun (f : Picture) => [nat f.width, nat f.height]) (s.input i).latest ++ [nat (s.input i).limit]
        ++ (if (s.monitor (monLost i)).reported then [.present, nat (s.comp.frame - (s.input i).lostAt).toNat] else [.absent])
    Leads (.readStatus p q) s (frameArrives p s) []
      (onPort p (fun x => { (answerTo q 59 true (doneWith
          ([.named (modeCode s.canvas.mode), .named (if s.assets.scanned then 1 else 0), nat s.assets.scanFailures, nat s.director.val,
              nat (if s.ratesel then 60 else 50), .num s.comp.frame.toNat, .named (if s.comp.locked then 0 else 1),
              .named (mainStateCode s.clock.state), nat s.clock.main, nat s.clock.period, .flag s.clock.unsupervised]
            ++ listAtoms (fun m => [.flag ((frameArrives p s).monitor m).condition, .flag (s.monitor m).latched, .flag (s.monitor m).enable,
                .flag (s.monitor m).latch]) allMonitors
            ++ input .pa ++ input .pb
            ++ listAtoms (fun n => [.named (roleCode (s.port n).role), .flag ((s.port n).silent && decide (n ≠ p)), nat (s.port n).timeout])
                allPorts
            ++ [.flag (s.port p).withdrawn, nat ((s.port p).outstanding + 1), nat (s.port p).notices.length,
                .flag (s.port p).noticesLost])) x) with noticesLost := false }))
      (fun t => (t.port p).noticesLost = false ∧ ∃ a, (t.port p).newest = some a ∧ a.noticesLost = (s.port p).noticesLost))
  ∧ ∀ (head : List Atom) (lists : List (List (List Atom))) (start moreSize : Nat) (more : Nat → List Atom),
      (atomsSize head + 2 * lists.length + atomsSize lists.flatten.flatten ≤ 1021 →
        pageAnswer head lists 0 moreSize more = head ++ lists.flatMap (fun l => .count l.length :: l.flatten) ++ [.absent])
      ∧ (1 ≤ moreSize → (∀ n, atomsSize (more n) ≤ moreSize) → atomsSize head + 2 * lists.length + moreSize ≤ 1022 →
        atomsSize (pageAnswer head lists start moreSize more) ≤ 1022)

/-! ### Claims -/

/-- CLAIM (R21, R25 to R27): an accepted claim takes the rank of its port's map and the place of its rank in the wait list, after every entry
of equal or higher rank; on a full list it pushes off the last entry, whose port receives Evicted. That the answer carries the stored duration
after rank and position is read from R197 (DEDUCED, log 13). -/
def Obligations.ClaimJoinsTheWaitList : Prop :=
  ∀ (p : PortId) (q : Byte) (r : RegionId) (tag priority duration : Nat) (content : ContentField) (c : ClaimContent) (resume : Bool)
    (g : Region) (rank : Nat) (front back : List Claim) (s : State),
    Taken p 22 s → (s.port p).withdrawn = false → contentAllowed (s.port p).role content = true → s.region r = some g → g.view = .none →
    1 ≤ tag → tag ≤ 65535 → Supplies s g content c → (∀ e ∈ s.claimSet p, e.claim.tag ≠ tag) → (s.claimSet p).length < 16 →
    rank = (s.port p).priorityMap.getD (min 7 priority) 0 → (∀ w ∈ front, rank ≤ w.rank) → (∀ w ∈ back, w.rank < rank) →
    ((s.claims r).waiting = front ++ back → (s.claims r).waiting.length < 4 →
      Answers (.claim p q r.val tag priority content duration resume) p q 22
        (doneIf (decide (7 < priority ∨ 65535 < duration)) [nat rank, nat (front.length + 1), nat (min 65535 duration)]) [.arbiter] untouched s
        (fun t => t.claims r = { s.claims r with waiting := front ++ newClaim p tag rank duration c resume :: back }
          ∧ ∀ n, n ≠ r → t.claims n = s.claims n))
    ∧ (∀ (last : Claim) (v : PortId), (s.claims r).waiting = front ++ back ++ [last] → (s.claims r).waiting.length = 4 →
      last.claimant = .port v → last.rank < rank →
      Answers (.claim p q r.val tag priority content duration resume) p q 22
        (doneIf (decide (7 < priority ∨ 65535 < duration)) [nat rank, nat (front.length + 1), nat (min 65535 duration)]) [.arbiter]
        (noted [v] (claimNoticeOf .evicted r last.tag s.comp.frame [nat rank])) s
        (fun t => t.claims r = { s.claims r with waiting := front ++ newClaim p tag rank duration c resume :: back }
          ∧ ∀ n, n ≠ r → t.claims n = s.claims n))
    ∧ (∀ (last : Claim), (s.claims r).waiting.getLast? = some last → (s.claims r).waiting.length = 4 → rank ≤ last.rank →
      Answers (.claim p q r.val tag priority content duration resume) p q 22 (refusal .full) [] untouched s (fun _ => True))

/-- RELEASE, WITHDRAW and RESUME (R28, R38, R39): a released claim that waits leaves its list at once, a holder is marked to leave at the next
evaluation, and a tag that is not live is NoSuchThing. A port that withdraws becomes Withdrawn, its waiting claims go, its holders are marked, and
the answer waits for them; Resume clears the flag. At the next tick, here one of the frame timer, the holders a deferred Withdraw waits for have
left, and it is answered with the waiting claims removed and the holders that left. -/
def Obligations.ClaimsAreReleasedAndWithdrawn : Prop :=
  (∀ (p : PortId) (q : Byte) (tag : Nat) (s : State), Taken p 23 s →
    (∀ r pos w, s.claimOf p tag = some ⟨r, false, pos, w⟩ →
      Answers (.release p q tag) p q 23 (doneWith []) [.arbiter] untouched s
        (fun t => t.claims r = { s.claims r with waiting := (s.claims r).waiting.filter (fun x => !x.same w) }
          ∧ ∀ n, n ≠ r → t.claims n = s.claims n))
    ∧ (∀ r pos h, s.claimOf p tag = some ⟨r, true, pos, h⟩ →
      Answers (.release p q tag) p q 23 (doneWith []) [.arbiter] untouched s
        (fun t => t.claims r = { s.claims r with holder := some { h with mark := some .dropRelease } }
          ∧ ∀ n, n ≠ r → t.claims n = s.claims n))
    ∧ (s.claimOf p tag = none → Answers (.release p q tag) p q 23 (refusal .noSuchThing) [] untouched s (fun _ => True)))
  ∧ (∀ (p : PortId) (q : Byte) (s : State),
    (Taken p 24 s → (∀ r, (s.claims r).heldBy (.port p) = false) →
      Answers (.withdraw p q) p q 24 (doneWith [nat (s.claimSet p).length, nat 0]) [.arbiter] (onPort p (fun x => { x with withdrawn := true }))
        s (fun t => ∀ r, t.claims r
              = { s.claims r with waiting := (s.claims r).waiting.filter (fun w => !decide (w.claimant = .port p)) }))
    ∧ (Taken p 24 s → (∃ r, (s.claims r).heldBy (.port p) = true) →
      ∃ tags removed, Defers (.withdraw p q) p (.withdraw q tags removed 0) [.arbiter] (onPort p (fun x => { x with withdrawn := true })) s
        (fun t => (∀ r, (t.claims r).waiting = (s.claims r).waiting.filter (fun w => !decide (w.claimant = .port p))
              ∧ (t.claims r).holder = (s.claims r).holder.map
                  (fun h => if h.claimant = .port p then { h with mark := some .dropRelease } else h))
          ∧ tags = ((s.claimSet p).filter (fun e => e.holding)).map (fun e => e.claim.tag)
          ∧ removed = ((s.claimSet p).filter (fun e => !e.holding)).length))
    ∧ (Taken p 25 s → Answers (.resume p q) p q 25 (doneWith []) [] (onPort p (fun x => { x with withdrawn := false })) s (fun _ => True)))
  ∧ ∀ (t0 : Nat) (p : PortId) (q : Byte) (tags : List Nat) (removed left : Nat) (front back : List OpenRequest) (s : State),
    s.comp.timerStart + (if s.ratesel then 166667 else 200000) ≤ t0 →
    (s.port p).requests = front ++ .withdraw q tags removed left :: back → (∀ d ∈ front ++ back, d.isWithdraw = false) →
    tags ≠ [] → tags.Nodup →
    (∀ tag ∈ tags, ∃ r g h, s.region r = some g ∧ g.view = .none ∧ (s.claims r).holder = some h ∧ h.claimant = .port p ∧ h.tag = tag
      ∧ h.mark = some .dropRelease) →
    ∃ t, exec (.frameTimerExpiry t0) s = .next t ∧ (t.port p).requests = front ++ back
      ∧ (ClaimSetLaw s → ∀ r g h, s.region r = some g → g.view = .none → (s.claims r).holder = some h → h.claimant = .port p →
          h.mark = some .dropRelease → (t.claims r).holder ≠ some h)
      ∧ ∃ a, (t.port p).newest = some a ∧ a.seq = q ∧ a.code = 24 ∧ a.outcome = .done ∧ a.adjusted = false
          ∧ a.fields = [nat removed, nat (left + tags.length)]

/-! ### Clock, score and captures -/

/-- CLOCK_START and CLOCK_STOP (R36, R86, R87, R160, R164): a Stopped clock with time left runs, the holders of stoppage-only regions are marked, an
engine's with Keep as its resume flag asks, and every Stoppage pass is marked to abort; a holder the Message Engine has no interest in left is
marked to leave instead. A Running clock stops; each with its notice, and from every other state without one. The ms of a moment between two ms
steps is that of the step before it (the model's choice, log 46). -/
def Obligations.ClockStartsAndStops : Prop :=
  ∀ (p : PortId) (q : Byte) (s : State),
    (Taken p 27 s → s.clock.state = .stopped → 0 < s.clock.main →
      (∀ r, s.interest .message r = true →
        (s.claims r).heldBy (.engine .message) = true ∨ (s.claims r).awaitedBy (.engine .message) = true) →
      Answers (.clockStart p q) p q 27 (doneWith []) [.clock, .arbiter, .messages]
        (noted (s.portsOf [.scoring]) (clockNoticeOf .started s.comp.frame { s.clock with state := .running } [])) s
        (fun t => t.clock = { s.clock with state := .running }
          ∧ (∀ r g h, s.region r = some g → (s.claims r).holder = some h →
              (t.claims r).holder
                = some (if h.claimant = .engine .message
                      ∧ ¬(g.message = true ∧ ((s.pass r).isSome = true ∨ ∃ e ∈ s.messages.approved, e.style = .normal)) then
                    { h with mark := some .dropRelease }
                  else if g.stoppage = true ∧ h.mark ≠ some .dropRelease ∧ h.mark ≠ some .dropClockStart then
                    { h with mark := some (if h.resume then .keep else .dropClockStart) } else h))
          ∧ (∀ r, t.pass r = (s.pass r).map (fun x => if x.entry.style = .stoppage then { x with abort := true } else x))
          ∧ (∀ r w v, w ∈ (s.claims r).waiting → w.claimant = .port v → w ∈ (t.claims r).waiting)))
    ∧ (Taken p 27 s → s.clock.state = .running → Answers (.clockStart p q) p q 27 (doneWith []) [] untouched s (fun _ => True))
    ∧ (Taken p 27 s → (s.clock.state = .expired ∨ s.clock.state = .stopped ∧ s.clock.main = 0) →
      Answers (.clockStart p q) p q 27 (refusal .atZero) [] untouched s (fun _ => True))
    ∧ (Taken p 28 s → s.clock.state = .running →
      Answers (.clockStop p q) p q 28 (doneWith []) [.clock]
        (noted (s.portsOf [.scoring]) (clockNoticeOf .stopped s.comp.frame { s.clock with state := .stopped } [.named 0])) s
        (fun t => t.clock = { s.clock with state := .stopped }))
    ∧ (Taken p 28 s → s.clock.state ≠ .running → Answers (.clockStop p q) p q 28 (doneWith []) [] untouched s (fun _ => True))

/-- CLOCK_SET, CLOCK_ADJUST and POSSESSION_RESET (R88 to R90): the times are stored within their ranges; an Expired clock given time becomes
Stopped; a ClockSet with neither time is Malformed, also on a Running clock (the model's choice, log 19), which refuses any other, and one that
ClockAdjust brings to 0 expires at once, with its horn, its capture and its Expired notice (R95, R109 to R111). That PossessionReset's answer
carries the stored value, also when nothing was clamped, is read from R197 (DEDUCED, log 13). The ms of a moment between two ms steps is that of the
step before it (the model's choice, log 46). -/
def Obligations.ClockTimesAreSet : Prop :=
  (∀ (p : PortId) (q : Byte) (main possession : Option Nat) (s : State), Taken p 29 s → (main.isSome = true ∨ possession.isSome = true) →
    (s.clock.state ≠ .running →
      Answers (.clockSet p q main possession) p q 29
        (doneIf (decide (5999999 < main.getD 0 ∨ 99999 < possession.getD 0))
          [nat (stored 0 5999999 s.clock.main main), nat (stored 0 99999 s.clock.possession possession)]) [.clock] untouched s
        (fun t => t.clock = { s.clock with
            main := stored 0 5999999 s.clock.main main
            possession := stored 0 99999 s.clock.possession possession
            correction := 0
            state := if s.clock.state = .expired ∧ 0 < stored 0 5999999 s.clock.main main then .stopped else s.clock.state }))
    ∧ (s.clock.state = .running →
      Answers (.clockSet p q main possession) p q 29 (refusal .clockRunning) [] untouched s (fun _ => True)))
  ∧ (∀ (p : PortId) (q : Byte) (s : State), Taken p 29 s →
    Answers (.clockSet p q none none) p q 29 (refusal .malformed) [] untouched s (fun _ => True))
  ∧ (∀ (p : PortId) (q : Byte) (delta d r : Int) (s : State), Taken p 30 s →
    d = (if delta < -600000 then -600000 else if 600000 < delta then 600000 else delta) →
    r = (if (s.clock.main : Int) + d < 0 then 0 else if 5999999 < (s.clock.main : Int) + d then 5999999 else (s.clock.main : Int) + d) →
    (¬(s.clock.state = .running ∧ r = 0) →
      Answers (.clockAdjust p q delta) p q 30 (doneIf (decide (d ≠ delta ∨ r ≠ (s.clock.main : Int) + d)) [.num r]) [.clock] untouched s
        (fun t => t.clock = { s.clock with
            main := r.toNat, state := if s.clock.state = .expired ∧ 0 < r then .stopped else s.clock.state }))
    ∧ (∀ k x f, s.clock.state = .running → r = 0 → k = expiredClock { s.clock with main := 0 } → CaptureMade .expiry none k s x f →
      Answers (.clockAdjust p q delta) p q 30 (doneIf (decide (d ≠ delta ∨ (s.clock.main : Int) + d ≠ 0)) [nat 0]) [.clock, .captures]
        (thenPorts f (noted (s.portsOf [.scoring]) (clockNoticeOf .expired s.comp.frame k []))) s
        (fun t => t.clock = k ∧ t.captures = x)))
  ∧ (∀ (p : PortId) (q : Byte) (value : Option Nat) (s : State), Taken p 31 s →
    Answers (.possessionReset p q value) p q 31
      (doneIf (decide (99999 < value.getD 0)) [nat (stored 0 99999 s.clock.possessionReset value)]) [.clock] untouched s
      (fun t => t.clock = { s.clock with possession := stored 0 99999 s.clock.possessionReset value }))

/-- CLOCK_MARK (R93, R94, R99): Running, a mark within the window slews and a mark beyond it steps, with Resync; standing, a mark within the
hysteresis is ignored and one beyond it sets R. Each clears Unsupervised. A step to 0 expires the clock, with its horn, its capture and its Expired
notice after Resync (R95, R106, R109 to R111); that the Resync then gives the state before the expiry is the model's choice (log 41), as are the
places of the four actions (log 7). The ms of a moment between two ms steps is that of the step before it (the model's choice, log 46). -/
def Obligations.ClockMarkFollowsTheConsole : Prop :=
  ∀ (p : PortId) (q : Byte) (mark m : Nat) (e : Int) (s : State), Taken p 36 s → m = min 5999999 mark →
    e = (m : Int) - (s.clock.main : Int) →
    (s.clock.state = .running → e.natAbs ≤ s.clock.window →
      Answers (.clockMark p q mark) p q 36 (doneIf (decide (5999999 < mark)) [.named 0, .num e]) [.clock, .monitors] untouched s
        (fun t => t.clock = { s.clock with correction := e, unsupervised := false }
          ∧ (t.monitor monUnsupervised).condition = false))
    ∧ (s.clock.state = .running → s.clock.window < e.natAbs → 0 < m →
      Answers (.clockMark p q mark) p q 36 (doneIf (decide (5999999 < mark)) [.named 1, .num e]) [.clock, .monitors]
        (noted (s.portsOf [.scoring]) (clockNoticeOf .resync s.comp.frame { s.clock with main := m } [.num e])) s
        (fun t => t.clock = { s.clock with main := m, correction := 0, unsupervised := false }
          ∧ (t.monitor monUnsupervised).condition = false))
    ∧ (∀ k x f, s.clock.state = .running → s.clock.window < e.natAbs → m = 0 →
      k = expiredClock { s.clock with main := 0, unsupervised := false } → CaptureMade .expiry none k s x f →
      Answers (.clockMark p q mark) p q 36 (doneIf (decide (5999999 < mark)) [.named 1, .num e]) [.clock, .captures, .monitors]
        (thenPorts (noted (s.portsOf [.scoring]) (clockNoticeOf .resync s.comp.frame { s.clock with main := 0 } [.num e]))
          (thenPorts f (noted (s.portsOf [.scoring]) (clockNoticeOf .expired s.comp.frame k [])))) s
        (fun t => t.clock = k ∧ t.captures = x ∧ (t.monitor monUnsupervised).condition = false))
    ∧ (s.clock.state ≠ .running → e.natAbs ≤ s.clock.hysteresis →
      Answers (.clockMark p q mark) p q 36 (doneIf (decide (5999999 < mark)) [.named 2, .num e]) [.clock, .monitors] untouched s
        (fun t => t.clock = { s.clock with unsupervised := false } ∧ (t.monitor monUnsupervised).condition = false))
    ∧ (s.clock.state ≠ .running → s.clock.hysteresis < e.natAbs →
      Answers (.clockMark p q mark) p q 36 (doneIf (decide (5999999 < mark)) [.named 3, .num e]) [.clock, .monitors] untouched s
        (fun t => t.clock = { s.clock with
              main := m, correction := 0, unsupervised := false
              state := if s.clock.state = .expired ∧ 0 < m then .stopped else s.clock.state }
          ∧ (t.monitor monUnsupervised).condition = false))

/-- SCORE_SET and CLOCK_CONFIG (R92, R100, R101): the given fields are stored within their ranges, the others kept; a changed score starts the
flash from its full length. -/
def Obligations.ScoreAndClockSettingsAreStored : Prop :=
  (∀ (p : PortId) (q : Byte) (f : ScoreFields) (arrow : Arrow) (x : Score) (s : State), Taken p 33 s →
    f ≠ ⟨none, none, none, none, none, none, none⟩ → f.arrow.getD (.known s.score.arrow) = .known arrow →
    x = { s.score with
          home := stored 0 999 s.score.home f.home, away := stored 0 999 s.score.away f.away
          homeFouls := stored 0 99 s.score.homeFouls f.homeFouls, awayFouls := stored 0 99 s.score.awayFouls f.awayFouls
          homeTimeouts := stored 0 9 s.score.homeTimeouts f.homeTimeouts, awayTimeouts := stored 0 9 s.score.awayTimeouts f.awayTimeouts
          arrow := arrow
          flashLeft := if stored 0 999 s.score.home f.home = s.score.home ∧ stored 0 999 s.score.away f.away = s.score.away then
              s.score.flashLeft else s.score.flashLength
          flashUsed := if stored 0 999 s.score.home f.home = s.score.home ∧ stored 0 999 s.score.away f.away = s.score.away then
              s.score.flashUsed else 0 } →
    Answers (.scoreSet p q f) p q 33
      (doneIf (decide (999 < f.home.getD 0 ∨ 999 < f.away.getD 0 ∨ 99 < f.homeFouls.getD 0 ∨ 99 < f.awayFouls.getD 0
          ∨ 9 < f.homeTimeouts.getD 0 ∨ 9 < f.awayTimeouts.getD 0))
        ([nat x.home, nat x.away, nat x.homeFouls, nat x.awayFouls, nat x.homeTimeouts, nat x.awayTimeouts]
          ++ (if x.arrow = .none then [.absent] else [.present, .named (arrowCode x.arrow)])
          ++ [nat x.flashLength, nat x.flashLeft])) [.score] untouched s
      (fun t => t.score = x))
  ∧ (∀ (p : PortId) (q : Byte) (f : ClockFields) (k : Clock) (s : State), Taken p 34 s →
    (f.length.isSome = true → s.clock.state ≠ .running) →
    k = { s.clock with
          length := stored 1000 5999999 s.clock.length f.length
          possessionReset := stored 1000 99999 s.clock.possessionReset f.possessionReset
          window := stored 0 2000 s.clock.window f.window, hysteresis := stored 0 500 s.clock.hysteresis f.hysteresis
          hornLength := stored 200 5000 s.clock.hornLength f.hornLength, whistleStop := f.whistleStop.getD s.clock.whistleStop } →
    ∃ b : Bool, (b = true ↔ outside 1000 5999999 f.length ∨ outside 1000 99999 f.possessionReset ∨ outside 0 2000 f.window
          ∨ outside 0 500 f.hysteresis ∨ outside 200 5000 f.hornLength ∨ outside 0 120 f.flashLength)
      ∧ Answers (.clockConfig p q f) p q 34
          (doneIf b [nat k.length, nat k.possessionReset, nat k.window, nat k.hysteresis, nat k.hornLength, .flag k.whistleStop,
            nat (stored 0 120 s.score.flashLength f.flashLength)]) [.clock, .score] untouched s
          (fun t => t.clock = k ∧ t.score = { s.score with flashLength := stored 0 120 s.score.flashLength f.flashLength }))

/-- CAPTURE and TAKE_CAPTURE (R109 to R114): a Capture makes a capture event of the clock as it stands, stored with CaptureReady in a free slot or
lost with Overflow; TakeCapture hands out the oldest capture held, with every field of it, and an empty store answers with a live snapshot; either
way its answer carries Overflow, which is then clear. That a port free to send takes its answer before the CaptureReady of the same step is the
model's choice (log 8), as are the place of source Live after the four sources of R109, a port sent as a number, and the order of a snapshot's
fields (log 7). The ms of a moment between two ms steps is that of the step before it (the model's choice, log 46). -/
def Obligations.CapturesAreStoredAndTaken : Prop :=
  (∀ (p : PortId) (q : Byte) (x : Captures) (f : PortId → Port → Port) (s : State), Taken p 37 s → s.captures.counter ≤ 65535 →
    CaptureMade .request (some p) s.clock s x f →
    Answers (.capture p q) p q 37
      (doneWith [nat x.counter, .flag (decide (x.held.length = s.captures.held.length + 1)), .flag x.overflow]) [.captures] f s
      (fun t => t.captures = x))
  ∧ (∀ (p : PortId) (q : Byte) (s : State), Taken p 38 s →
      (∀ e rest, s.captures.held = e :: rest →
        Answers (.takeCapture p q) p q 38
          (doneWith ([.present, nat e.2.number, .named (captureCode e.2.source)]
            ++ (match e.2.port with
                | none => [.absent]
                | some n => [.present, nat n.val])
            ++ [.num e.2.frame.toNat, .ms e.2.ms, nat e.2.main, nat e.2.possession, .named (mainStateCode e.2.state), nat e.2.period]
            ++ (match rest with
                | [] => [.absent]
                | y :: _ => [.present, .named (captureCode y.2.source)])
            ++ [.flag s.captures.overflow, nat rest.length])) [.captures] untouched s
          (fun t => t.captures = { held := rest, counter := s.captures.counter, overflow := false }))
      ∧ (s.captures.held = [] →
        Answers (.takeCapture p q) p q 38
          (doneWith [.absent, .named 4, .absent, .num s.comp.frame.toNat, .ms s.clock.now, nat s.clock.main, nat s.clock.possession,
            .named (mainStateCode s.clock.state), nat s.clock.period, .absent, .flag s.captures.overflow, nat 0]) [.captures] untouched s
          (fun t => t.captures = { held := [], counter := s.captures.counter, overflow := false }))
      ∧ (CaptureLaw s → s.captures.held = [] → s.captures.overflow = false))

/-! ### Rotation and exposure requests -/

/-- ROTATION_BEGIN and ROTATION_DISCARD (R120, R123): a build opens empty for the port that asked, and a staged rotation goes; the owner's
Discard drops the build; with no build, or another port's, each is refused as the rule says. -/
def Obligations.RotationBuildOpensAndCloses : Prop :=
  ∀ (p : PortId) (q : Byte) (s : State),
    (Taken p 39 s → s.rotation.build = none →
      Answers (.rotationBegin p q) p q 39 (doneWith [.flag s.rotation.staged.isSome]) [.rotation] untouched s
        (fun t => t.rotation = { s.rotation with build := some { owner := p, plan := { contracts := [], spots := [] } }, staged := none }))
    ∧ (Taken p 39 s → s.rotation.build.isSome = true →
      Answers (.rotationBegin p q) p q 39 (refusal .busy) [] untouched s (fun _ => True))
    ∧ (Taken p 43 s → s.rotation.build = none → Answers (.rotationDiscard p q) p q 43 (refusal .noSuchThing) [] untouched s (fun _ => True))
    ∧ (∀ b, Taken p 43 s → s.rotation.build = some b → b.owner ≠ p →
      Answers (.rotationDiscard p q) p q 43 (refusal .busy) [] untouched s (fun _ => True))
    ∧ (∀ b, Taken p 43 s → s.rotation.build = some b → b.owner = p →
      Answers (.rotationDiscard p q) p q 43 (doneWith []) [.rotation] untouched s
        (fun t => t.rotation = { s.rotation with build := none }))
    ∧ (RotationLaw s → (s.rotation.build.isSome = true ∨ s.canvas.mode = .setup) → s.rotation.staged = none)

/-- ROTATION_CONTRACT, ROTATION_SPOT and CONTRACT_SUSPEND (R121, R122, R131): accepted, a contract or a spot is appended to the owner's build with
its values within their ranges; a contract of the active rotation takes its Suspended flag. That RotationSpot's answer carries the stored slot
length after the position and the number of spots, also when nothing was clamped, is read from R197 (DEDUCED, log 13). That the values stored of a
RotationContract begin with its id is the model's choice (log 7). -/
def Obligations.RotationEntriesAreAppended : Prop :=
  (∀ (p : PortId) (q : Byte) (id : Nat) (name : Option (List Nat)) (target qmin : Option Nat) (b : Build) (c : ContractTerms) (s : State),
    Taken p 40 s → s.rotation.build = some b → b.owner = p → 1 ≤ id → id ≤ 255 → (∀ o ∈ b.plan.contracts, o.id ≠ id) →
    b.plan.contracts.length < 32 →
    c = { id := id, name := (name.getD []).take 16, target := stored 0 3600 0 target, qmin := stored 0 256 192 qmin } →
    Answers (.rotationContract p q id name target qmin) p q 40
      (doneIf (decide (16 < (name.getD []).length ∨ 3600 < target.getD 0 ∨ 256 < qmin.getD 0))
        ([nat id] ++ textAtoms c.name ++ [nat c.target, nat c.qmin, nat (b.plan.contracts.length + 1)])) [.rotation] untouched s
      (fun t => t.rotation = { s.rotation with build := some { b with plan := { b.plan with contracts := b.plan.contracts ++ [c] } } }))
  ∧ (∀ (p : PortId) (q : Byte) (spot contract asset slot : Nat) (regions : List Nat) (b : Build) (e : AssetRecord) (s : State),
    Taken p 41 s → s.rotation.build = some b → b.owner = p → 1 ≤ spot → spot ≤ 255 → 1 ≤ contract → contract ≤ 255 →
    1 ≤ regions.length → regions.length ≤ 8 → regions.Nodup → (∀ n ∈ regions, 1 ≤ n ∧ n ≤ 32) →
    s.assets.complete asset = some e → e.kind = .image → (∀ o ∈ b.plan.spots, o.id ≠ spot) → b.plan.spots.length < 64 →
    Answers (.rotationSpot p q spot contract asset slot regions) p q 41
      (doneIf (decide (slot < 60 ∨ 7200 < slot))
        [nat (b.plan.spots.length + 1), nat (b.plan.spots.length + 1), nat (stored 60 7200 0 (some slot))]) [.rotation] untouched s
      (fun t => t.rotation = { s.rotation with
          build := some { b with plan := { b.plan with
            spots := b.plan.spots
              ++ [{ id := spot, contract := contract, asset := asset, slot := stored 60 7200 0 (some slot), regions := regions }] } } }))
  ∧ (∀ (p : PortId) (q : Byte) (id : Nat) (on : Bool) (s : State), Taken p 44 s →
    ((∃ c ∈ s.rotation.contracts, c.terms.id = id) →
      Answers (.contractSuspend p q id on) p q 44 (doneWith [.flag on]) [.rotation] untouched s
        (fun t => t.rotation = { s.rotation with
            contracts := s.rotation.contracts.map (fun c => if c.terms.id = id then { c with suspended := on } else c) }))
    ∧ ((∀ c ∈ s.rotation.contracts, c.terms.id ≠ id) →
      Answers (.contractSuspend p q id on) p q 44 (refusal .noSuchThing) [] untouched s (fun _ => True)))

/-- ROTATION_COMMIT (R50, R124, R125): a build whose spots name its contracts and Complete assets becomes the staged rotation in Live, and the active
one in Setup; the first spot that does not is refused by its id and position. Where the asset of a spot differs in size from a defined region of its
set, R50 has the commit check it and R122, R124 and R128 do not: whether it is refused is a free value, and the statement says both (the model's
choice, log 39). That the answer in Setup gives the ContractReports queued as their number, with no presence byte, the one in Live nothing in its
place, and a refusal the field, the id and the position of the spot, is the model's choice (log 7). -/
def Obligations.RotationCommitStagesOrReplaces : Prop :=
  ∀ (p : PortId) (q : Byte) (b : Build) (s : State), Taken p 42 s → s.rotation.build = some b → b.owner = p →
    let fits := fun (x : Spot) =>
      ∀ e r g, s.assets.complete x.asset = some e → r.val ∈ x.regions → s.region r = some g → e.width = g.width ∧ e.height = g.height
    let sound := fun (x : Spot) =>
      (∃ c ∈ b.plan.contracts, c.id = x.contract) ∧ (s.assets.complete x.asset).isSome = true
        ∧ (fits x ∨ Config.commitComparesDimensions = false)
    ((∀ x ∈ b.plan.spots, sound x) →
      (s.canvas.mode = .live →
        Answers (.rotationCommit p q) p q 42 (doneWith [.named 1]) [.rotation] untouched s
          (fun t => t.rotation = { s.rotation with build := none, staged := some b.plan }))
      ∧ (s.canvas.mode = .setup →
        ∃ t, exec (.rotationCommit p q) s = .next t ∧ t.rotation.build = none ∧ t.rotation.staged = s.rotation.staged
          ∧ t.rotation.spots = b.plan.spots ∧ t.rotation.pointer = 0 ∧ (∀ r, t.currentSpot r = none)
          ∧ t.rotation.contracts = b.plan.contracts.map (fun c =>
              match s.rotation.contracts.find? (fun o => decide (o.terms.id = c.id)) with
              | some o => { o with terms := c }
              | none => { terms := c, suspended := false, accrued := 0, history := [], lastCredit := none, cut := 0, shown := 0 })
          ∧ ∃ a, (t.port p).newest = some a ∧ a.seq = q ∧ a.code = 42 ∧ a.outcome = .done
              ∧ a.fields = [.named 0,
                  nat (s.rotation.contracts.filter (fun o => !b.plan.contracts.any (fun c => decide (c.id = o.terms.id)))).length]))
    ∧ ∀ front x back, b.plan.spots = front ++ x :: back → (∀ y ∈ front, sound y) →
      ((∀ c ∈ b.plan.contracts, c.id ≠ x.contract) ∨ s.assets.complete x.asset = none
        ∨ (¬fits x ∧ Config.commitComparesDimensions = true)) →
      Answers (.rotationCommit p q) p q 42 ⟨.badValue, false, [.field .spotId, nat x.id, nat (front.length + 1)]⟩ [] untouched s
        (fun _ => True)

/-- An engine settles its interest in each region (R25, R35, R126, R160), as `Settles` says: the Rotation Engine where the active rotation is
replaced, by a RotationCommit in Setup or by the period boundary of EndLive or NextPeriod that promotes a staged one, its interest being a region that
carries sponsors and is named by a spot of the new rotation; the Message Engine where a request changes the show order, its interest being a region
that carries messages while a pass runs in it or an entry is eligible. A standing claim refused Full is offered again at the tick, here one of the
frame timer, on a region that nothing else claims. That an engine that settles offers a claim also where it is offering a lost one again is read from
R126 and R160 (DEDUCED, log 35). That the repeated offers of a tick come after the evaluations, so that the region has no holder yet when the tick has
ended, is read from R35 (DEDUCED, log 18), and their place among what the engines do at a tick is the model's choice (log 37). -/
def Obligations.EnginesOfferAndReleaseTheirClaims : Prop :=
  (∀ (i : Instr) (p : PortId) (q : Byte) (s : State), i = .rotationCommit p q ∨ i = .nextPeriod p q ∨ i = .endLive p q →
    ∃ t, exec i s = .next t
      ∧ ((i = .rotationCommit p q ∧ s.canvas.mode = .setup ∧ s.rotation.build.isSome = true ∧ t.rotation.build = none
          ∨ i ≠ .rotationCommit p q ∧ s.rotation.staged.isSome = true ∧ t.rotation.staged = none) →
        ∀ r, Settles .rotation s.arbiter.rotationRank r
          (∃ g, s.region r = some g ∧ g.sponsor = true ∧ ∃ x ∈ t.rotation.spots, r.val ∈ x.regions)
          (s.claims r) (t.claims r) (t.offering .rotation r)))
  ∧ (∀ (i : Instr) (p : PortId) (q : Byte) (tag : Nat) (s : State),
    (∃ n, i = .messageApprove p q n tag) ∨ (∃ n, i = .messageWithdraw p q tag n)
      ∨ (∃ text style repeats, i = .messageSubmit p q tag text style repeats) ∨ i = .matchReset p q →
    ∃ t, exec i s = .next t
      ∧ (t.messages.approved ≠ s.messages.approved →
        ∀ r, Settles .message s.arbiter.messageRank r
          (∃ g, s.region r = some g ∧ g.message = true
            ∧ ((t.pass r).isSome = true ∨ ∃ e ∈ t.messages.approved, e.style = .normal ∨ t.clock.state ≠ .running))
          (s.claims r) (t.claims r) (t.offering .message r)))
  ∧ (∀ (t0 : Nat) (r : RegionId) (g : Region) (s : State), s.comp.timerStart + (if s.ratesel then 166667 else 200000) ≤ t0 →
    s.region r = some g → g.view = .none → g.sponsor = true → g.message = false → (∃ x ∈ s.rotation.spots, r.val ∈ x.regions) →
    (s.claims r).holder = none → (s.claims r).waiting = [] → s.offering .rotation r = true → s.offering .message r = false →
    ∃ t, exec (.frameTimerExpiry t0) s = .next t ∧ (t.claims r).holder = none
      ∧ (t.claims r).waiting = [standingClaim .rotation s.arbiter.rotationRank r] ∧ t.offering .rotation r = false)

/-! ### Asset requests -/

/-- The record, header and run an accepted UPLOAD_BEGIN makes, for an Image and for a GlyphSet, whose advance widths above 64 are clamped (R170,
R171, R176): the run is the lowest that fits. That the program of the header starts at once on an idle memory with no mark pending, and waits
otherwise, is read from R174 (DEDUCED, log 24). That widths given with an Image, and dimensions given with a GlyphSet, are not looked at is the
model's choice (log 26), as is the ms from which the operation counts (log 46). -/
def Obligations.UploadBeginAllocatesFirstFit : Prop :=
  ∀ (p : PortId) (q : Byte) (u : UploadFields) (kind : AssetKind) (width height count first : Nat) (widths : List Nat) (s : State),
    Taken p 47 s → AssetLaw s → 1 ≤ u.id → u.id ≤ 255 → u.kind = .known kind →
    (kind = .image ∧ u.dims = some (width, height) ∧ 1 ≤ width ∧ width ≤ 48 ∧ 1 ≤ height ∧ height ≤ 16 ∧ widths = []
        ∧ count = 1 + 2 * width * height
      ∨ kind = .glyphSet ∧ u.widths = some widths ∧ widths.length = 256 ∧ width = 0 ∧ height = 0 ∧ count = 33) →
    s.assets.upload = none → s.assets.reclaim = none → (∀ e ∈ s.assets.records, e.id = u.id → e.state = .retired) →
    first + count ≤ 16384 → (∀ n, first ≤ n → n < first + count → keyGet n s.assets.pageMap = none) →
    (∀ m, m < first → ∃ n, m ≤ n ∧ n < m + count ∧ (keyGet n s.assets.pageMap).isSome = true) →
    Defers (.uploadBegin p q u) p (.upload q 47) [.assets] untouched s
      (fun t =>
        t.assets.upload = some { owner := p, id := u.id, first := first, count := count, committed := 0, job := some .header, orphan := false,
                                 adjusted := decide (∃ w ∈ widths, 64 < w) }
        ∧ t.assets.records = s.assets.records ++ [{ id := u.id, kind := kind, width := width, height := height, first := first,
                                                    count := count, state := .writing }]
        ∧ (∀ n, keyGet n t.assets.pageMap = if first ≤ n ∧ n < first + count then some (.part first) else keyGet n s.assets.pageMap)
        ∧ keyGet first t.assets.copies
            = some (.header { id := u.id, kind := kind, width := width, height := height, count := count, widths := widths.map (min 64),
                              writing := true, complete := false, retired := false })
        ∧ t.assets.nor = s.assets.nor ∧ t.assets.buffer = [] ∧ t.assets.retireList = s.assets.retireList
        ∧ t.assets.op = if s.assets.op = none ∧ s.assets.retireList = [] then some { kind := .program .header, since := s.clock.now }
            else s.assets.op)

/-- UPLOAD_LOAD, UPLOAD_COMMIT, UPLOAD_FINISH and UPLOAD_ABORT of the owner (R175, R177 to R180): the buffer takes the bytes and every other byte of
it stays; a page, then the Complete mark, is asked for; an abort retires the record. With no upload open, or another port's, each is refused before
its own checks (R175). That a program starts at once on an idle memory with no mark pending, and waits otherwise, is read from R174 (DEDUCED, log
24). The ms from which an operation asked for between two ms steps counts is the model's choice (log 46). -/
def Obligations.UploadRequestsAct : Prop :=
  (∀ (p : PortId) (q : Byte) (u : Upload) (s : State), s.assets.upload = some u → u.owner = p → u.orphan = false → u.job = none →
    (∀ offset data, Taken p 48 s → 1 ≤ data.length → data.length ≤ 256 → offset + data.length ≤ 4096 →
      Answers (.uploadLoad p q offset data) p q 48 (doneWith []) [.assets] untouched s
        (fun t => (∀ a, keysRising s.assets.buffer = true → cellRead t.assets.buffer a
              = if h : offset ≤ a ∧ a < offset + data.length then data[a - offset]'(by omega) else cellRead s.assets.buffer a)
          ∧ t.assets = { s.assets with buffer := t.assets.buffer }))
    ∧ (Taken p 49 s → s.assets.reclaim = none → u.committed + 1 < u.count →
      Defers (.uploadCommit p q) p (.upload q 49) [.assets] untouched s
        (fun t => t.assets = { s.assets with
            upload := some { u with job := some (.page (u.first + 1 + u.committed)) }
            copies := t.assets.copies
            op := if s.assets.op = none ∧ s.assets.retireList = [] then
                some { kind := .program (.page (u.first + 1 + u.committed)), since := s.clock.now } else s.assets.op }
          ∧ (keysRising s.assets.copies = true → t.assets.copyOf (u.first + 1 + u.committed) = .content s.assets.buffer)
          ∧ ∀ n, n ≠ u.first + 1 + u.committed → t.assets.copyOf n = s.assets.copyOf n))
    ∧ (Taken p 50 s → s.assets.reclaim = none → u.count ≤ u.committed + 1 →
      Defers (.uploadFinish p q) p (.upload q 50) [.assets] untouched s
        (fun t => t.assets = { s.assets with
            upload := some { u with job := some .completeMark }
            op := if s.assets.op = none ∧ s.assets.retireList = [] then some { kind := .program .completeMark, since := s.clock.now }
                else s.assets.op }))
    ∧ (Taken p 51 s →
      Answers (.uploadAbort p q) p q 51 (doneWith []) [.assets] untouched s
        (fun t => t.assets = { s.assets with
            upload := none, buffer := []
            retireList := s.assets.retireList ++ [u.first]
            records := s.assets.records.map (fun e => if e.first = u.first then { e with state := .retired } else e)
            copies := s.assets.copies.filter (fun e => decide (e.1 < u.first ∨ u.first + u.count ≤ e.1)) })))
  ∧ (∀ (p : PortId) (q : Byte) (s : State), (s.assets.upload = none ∨ ∃ u, s.assets.upload = some u ∧ u.owner ≠ p) →
    ∀ o, o = (if s.assets.upload = none then ResultCode.noSuchThing else ResultCode.busy) →
    (∀ offset data, Taken p 48 s → Answers (.uploadLoad p q offset data) p q 48 (refusal o) [] untouched s (fun _ => True))
    ∧ (Taken p 49 s → Answers (.uploadCommit p q) p q 49 (refusal o) [] untouched s (fun _ => True))
    ∧ (Taken p 50 s → Answers (.uploadFinish p q) p q 50 (refusal o) [] untouched s (fun _ => True))
    ∧ (Taken p 51 s → Answers (.uploadAbort p q) p q 51 (refusal o) [] untouched s (fun _ => True)))

/-- ASSET_RETIRE and ASSET_RECLAIM (R173, R183, R184): an unpinned Complete asset is retired with its mark pending, a pinned one is refused; a
reclaim starts at block 0, or is answered at once when an idle memory has no block to erase. That a refused AssetRetire carries no state is read
from R197 (DEDUCED, log 45). -/
def Obligations.AssetsAreRetiredAndReclaimed : Prop :=
  (∀ (p : PortId) (q : Byte) (id : Nat) (e : AssetRecord) (s : State), Taken p 52 s → 1 ≤ id → id ≤ 255 → s.assets.complete id = some e →
    (∀ x ∈ s.assets.records, x.id = id → x.state ≠ .retired → x = e) →
    (pinned s id = false →
      Answers (.assetRetire p q id) p q 52 (doneWith [.named 2]) [.assets] untouched s
        (fun t => t.assets = { s.assets with
            retireList := s.assets.retireList ++ [e.first]
            records := s.assets.records.map (fun x => if x.first = e.first then { x with state := .retired } else x)
            copies := s.assets.copies.filter (fun x => decide (x.1 < e.first ∨ e.first + e.count ≤ x.1)) }))
    ∧ (pinned s id = true → Answers (.assetRetire p q id) p q 52 (refusal .pinned) [] untouched s (fun _ => True)))
  ∧ (∀ (p : PortId) (q : Byte) (s : State), Taken p 53 s → s.assets.reclaim = none → (∀ u, s.assets.upload = some u → u.job = none) →
    ((∃ n x, (n, x) ∈ s.assets.pageMap ∧ s.assets.qualifies (n / 16) = true) →
      Defers (.assetReclaim p q) p (.reclaim q) [.assets] untouched s
        (fun t => t.assets = { s.assets with
            reclaim := some { asker := p, next := 0, erased := 0, failed := 0, freed := 0, removed := [] } }))
    ∧ (s.assets.op = none → s.assets.retireList = [] → (∀ n x, (n, x) ∈ s.assets.pageMap → s.assets.qualifies (n / 16) = false) →
      Answers (.assetReclaim p q) p q 53 (doneWith [nat 0, nat 0, nat 0, .count 0]) [] untouched s (fun _ => True)))

/-! ### Message requests -/

/-- MESSAGE_SUBMIT and MESSAGE_CONFIG (R153 to R155): a text longer than the max length is cut, its last code kept being the continuation glyph, and
then every code of it that the reference glyph set lacks, the continuation glyph apart, is substituted; the director's entry is Approved at once,
any other port's is Held and the director is told. That the answer carries the stored repeats after the fields of R155 is read from R197 (DEDUCED,
log 13). That the two glyphs of MessageConfig are numbers, and the ms an entry submitted between two ms steps takes, are the model's choices (logs 7
and 46). -/
def Obligations.MessagesAreSubmittedAndConfigured : Prop :=
  (∀ (p : PortId) (q : Byte) (tag : Nat) (text kept tail : List Nat) (lacks : Nat → Bool) (style : Style) (repeats : Option Nat) (e : Entry)
      (s : State),
    Taken p 55 s → 1 ≤ tag → tag ≤ 65535 → text ≠ [] → (∀ c ∈ text, c ≤ 255) → s.hasEntry p tag = false → s.queueLength < 48 →
    (text.length ≤ s.messages.settings.maxLength ∧ kept = text ∧ tail = []
      ∨ s.messages.settings.maxLength < text.length ∧ kept = text.take (s.messages.settings.maxLength - 1)
          ∧ tail = [s.messages.settings.continuation]) →
    (s.referenceSet = none ∧ lacks = (fun _ => false)
      ∨ ∃ a, s.referenceSet = some a ∧ lacks = fun c => decide (advanceIn (s.assets.advances a) c = 0)) →
    e = { submitter := p, tag := tag, text := kept.map (fun c => if lacks c then s.messages.settings.substitute else c) ++ tail
          style := style, repeats := stored 1 9 1 repeats, passesDone := 0, submitted := s.clock.now
          truncated := decide (s.messages.settings.maxLength < text.length), substituted := (kept.filter lacks).length } →
    let adjusted := decide (s.messages.settings.maxLength < text.length ∨ 0 < e.substituted ∨ repeats = some 0 ∨ 9 < repeats.getD 0)
    let fields := [nat tag, nat e.text.length, .flag e.truncated, nat e.substituted, nat e.repeats]
    (p ≠ s.director →
      Answers (.messageSubmit p q tag text (.known style) repeats) p q 55 (doneIf adjusted fields) [.messages]
        (noted [s.director]
          { kind := .submitted,
            fields := [nat p.val, nat tag, .num s.comp.frame.toNat, .named (styleCode style), nat e.repeats, nat e.text.length,
              .flag e.truncated, nat e.substituted] }) s
        (fun t => t.messages = { s.messages with held := s.messages.held ++ [e] }))
    ∧ (p = s.director →
      ∃ t, exec (.messageSubmit p q tag text (.known style) repeats) s = .next t ∧ t.messages.approved = s.messages.approved ++ [e]
        ∧ t.messages.held = s.messages.held ∧ t.messages.passes = s.messages.passes ∧ t.messages.settings = s.messages.settings
        ∧ Only [.arbiter, .rotation, .messages] (frameArrives p s) t
        ∧ ∃ a, (t.port p).newest = some a ∧ a.seq = q ∧ a.code = 55 ∧ a.outcome = .done ∧ a.adjusted = adjusted ∧ a.fields = fields))
  ∧ (∀ (p : PortId) (q : Byte) (f : MessageFields) (x : MessageSettings) (s : State), Taken p 21 s →
    x = { maxLength := stored 16 240 s.messages.settings.maxLength f.maxLength
          continuation := stored 0 255 s.messages.settings.continuation f.continuation
          substitute := stored 0 255 s.messages.settings.substitute f.substitute
          speed := stored 1 16 s.messages.settings.speed f.speed, holdLimit := stored 0 3600 s.messages.settings.holdLimit f.holdLimit } →
    ∃ b : Bool, (b = true ↔ outside 16 240 f.maxLength ∨ outside 0 255 f.continuation ∨ outside 0 255 f.substitute ∨ outside 1 16 f.speed
          ∨ outside 0 3600 f.holdLimit)
      ∧ Answers (.messageConfig p q f) p q 21
          (doneIf b [nat x.maxLength, nat x.continuation, nat x.substitute, nat x.speed, nat x.holdLimit]) [.messages] untouched s
          (fun t => t.messages = { s.messages with settings := x }))

/-- MESSAGE_APPROVE, MESSAGE_REJECT and MESSAGE_WITHDRAW (R156, R157, R159): a Held entry, approved, goes to the end of the show order, and rejected
or withdrawn it leaves the queue; an Approved entry is answered by its place, and withdrawn it leaves the show order; one being shown is answered by
its state, and withdrawn it runs its pass to the end; a Reject of an entry that is not Held, or of none, or with a port or tag out of range, is
refused. That a port out of range is named before a tag out of range is the model's choice (log 19). -/
def Obligations.MessagesAreApprovedRejectedWithdrawn : Prop :=
  ∀ (p : PortId) (q : Byte) (n : PortId) (tag : Nat) (s : State), 1 ≤ tag → tag ≤ 65535 →
    (∀ e, s.messages.held.find? (fun x => decide (x.submitter = n) && decide (x.tag = tag)) = some e →
      (Taken p 19 s →
        ∃ t, exec (.messageApprove p q n.val tag) s = .next t ∧ t.messages.approved = s.messages.approved ++ [e]
          ∧ t.messages.held = s.messages.held.filter (fun x => !(decide (x.submitter = n) && decide (x.tag = tag)))
          ∧ t.messages.passes = s.messages.passes
          ∧ Only [.arbiter, .rotation, .messages] (frameArrives p s) t
          ∧ ∃ a, (t.port p).newest = some a ∧ a.seq = q ∧ a.code = 19 ∧ a.outcome = .done
              ∧ a.fields = [.named 1, .present, nat (s.messages.approved.length + 1)])
      ∧ (Taken p 20 s →
        Answers (.messageReject p q n.val tag) p q 20 (doneWith []) [.messages]
          (noted [e.submitter] { kind := .rejected, fields := [nat e.submitter.val, nat e.tag, .num s.comp.frame.toNat] }) s
          (fun t => t.messages = { s.messages with
              held := s.messages.held.filter (fun x => !(decide (x.submitter = n) && decide (x.tag = tag))) }))
      ∧ (Taken p 56 s → (n = p ∨ p = s.director) →
        Answers (.messageWithdraw p q tag (some n.val)) p q 56 (doneWith [.named 0]) [.messages] untouched s
          (fun t => t.messages = { s.messages with
              held := s.messages.held.filter (fun x => !(decide (x.submitter = n) && decide (x.tag = tag))) })))
    ∧ (∀ front e back, s.messages.approved = front ++ e :: back → e.submitter = n → e.tag = tag → MessageLaw s →
      (Taken p 19 s →
        Answers (.messageApprove p q n.val tag) p q 19 (doneWith [.named 1, .present, nat (front.length + 1)]) [] untouched s (fun _ => True))
      ∧ (Taken p 56 s → (n = p ∨ p = s.director) →
        ∃ t, exec (.messageWithdraw p q tag (some n.val)) s = .next t ∧ t.messages.approved = front ++ back
          ∧ t.messages.held = s.messages.held ∧ t.messages.passes = s.messages.passes ∧ t.messages.settings = s.messages.settings
          ∧ Only [.arbiter, .rotation, .messages] (frameArrives p s) t
          ∧ ∃ a, (t.port p).newest = some a ∧ a.seq = q ∧ a.code = 56 ∧ a.outcome = .done ∧ a.fields = [.named 0]))
    ∧ (∀ r x, Taken p 19 s → s.pass r = some x → x.entry.submitter = n → x.entry.tag = tag → MessageLaw s →
        Answers (.messageApprove p q n.val tag) p q 19 (doneWith [.named (if x.withdrawing then 3 else 2), .absent]) [] untouched s
          (fun _ => True))
    ∧ (Taken p 20 s → s.hasEntry n tag = false →
        Answers (.messageReject p q n.val tag) p q 20 (refusal .noSuchThing) [] untouched s (fun _ => True))
    ∧ (Taken p 20 s → s.hasEntry n tag = true → (∀ e ∈ s.messages.held, ¬(e.submitter = n ∧ e.tag = tag)) →
        Answers (.messageReject p q n.val tag) p q 20 (refusesField .state) [] untouched s (fun _ => True))
    ∧ (∀ port m : Nat, Taken p 20 s → 6 ≤ port →
        Answers (.messageReject p q port m) p q 20 (refusesField .port) [] untouched s (fun _ => True))
    ∧ (∀ m : Nat, Taken p 20 s → (m = 0 ∨ 65535 < m) →
        Answers (.messageReject p q n.val m) p q 20 (refusesField .tag) [] untouched s (fun _ => True))
    ∧ (∀ r x, Taken p 56 s → (n = p ∨ p = s.director) → s.pass r = some x → x.entry.submitter = n → x.entry.tag = tag → MessageLaw s →
        Answers (.messageWithdraw p q tag (some n.val)) p q 56 (doneWith [.named 1]) [.messages] untouched s
          (fun t => t.pass r = some { x with withdrawing := true } ∧ (∀ m, m ≠ r → t.pass m = s.pass m)
            ∧ t.messages.held = s.messages.held ∧ t.messages.approved = s.messages.approved))

/-- PORT_RESET (R40 to R42, R194, R200), naming a port or, with the field left out, the port that asks: its queues and flags are emptied, what it
keeps is kept, the frame on its line among it, its waiting claims go, its holders are marked, and its build is discarded (R135). The open upload it
owns is aborted at once, as UploadAbort would (R180), or, with a program in flight, left to that program's end without an owner (R182); that a program
that waits behind marks counts as in flight is read from R174 (DEDUCED, log 25). Only the Director may name another port. -/
def Obligations.PortResetEmptiesThePort : Prop :=
  (∀ (p : PortId) (q : Byte) (n : PortId) (field : Option Nat) (s : State), Taken p 58 s →
    (field = some n.val ∧ (n = p ∨ (s.port p).role = .director) ∨ field = none ∧ n = p) →
    (∀ u, s.assets.upload = some u → u.owner ≠ n) →
    Leads (.portReset p q field) s (frameArrives p s) [.arbiter, .rotation]
      (thenPorts
        (onPort n (fun x => { x with
          rx := [], withdrawn := false, noticesLost := false, noticeCounter := 0, requests := [], answers := [], notices := [] }))
        (onPort p (answerTo q 58 false (doneWith []))))
      (fun t =>
        (∀ r, (t.claims r).waiting = (s.claims r).waiting.filter (fun w => !decide (w.claimant = .port n))
          ∧ (t.claims r).holder = (s.claims r).holder.map
              (fun h => if h.claimant = .port n then { h with mark := some .dropRelease } else h))
        ∧ t.rotation = { s.rotation with
            build := (match s.rotation.build with
                      | some b => if b.owner = n then none else some b
                      | none => none) }))
  ∧ (∀ (p : PortId) (q : Byte) (n : PortId) (field : Option Nat) (u : Upload) (s : State), Taken p 58 s →
    (field = some n.val ∧ (n = p ∨ (s.port p).role = .director) ∨ field = none ∧ n = p) →
    s.assets.upload = some u → u.owner = n →
    ∃ t, exec (.portReset p q field) s = .next t
      ∧ (u.job = none → t.assets.upload = none ∧ t.assets.buffer = [] ∧ t.assets.retireList = s.assets.retireList ++ [u.first])
      ∧ (u.job.isSome = true → t.assets = { s.assets with upload := some { u with orphan := true } }))
  ∧ (∀ (p : PortId) (q : Byte) (n : PortId) (s : State), Taken p 58 s → n ≠ p → (s.port p).role ≠ .director →
    Leads (.portReset p q (some n.val)) s (frameArrives p s) [] (onPort p (answerTo q 58 false (refusal .notPermitted))) (fun _ => True))

/-! ### Device reset and the frame tick -/

/-- DEVICE_RESET (R17, R44, R62, R80, R108, R116, R137, R150, R168, R187, R192, R202): every block is as its chapter's reset table says, and asset
memory keeps what it holds when no operation was cut off. That no memory operation is in flight, no frame is on a line or being received, and no
record stands before the scan, which those tables do not name, is the model's choice (log 36). -/
def Obligations.DeviceResetRestoresEveryBlock : Prop :=
  ∀ (d : Fin 8) (rate : Bool) (s : State), ∃ t, exec (.deviceReset d rate) s = .next t ∧ t.pending = s.pending
    ∧ t.dirsel = d ∧ t.ratesel = rate
    ∧ t.canvas.mode = .setup ∧ (∀ r, r ≠ 0 → t.region r = none) ∧ (∀ n, t.colour n = ⟨0, 0, 0⟩)
    ∧ (∃ g, t.region 0 = some g ∧ g.layer = 0 ∧ g.col = 0 ∧ g.row = 0 ∧ g.width = 48 ∧ g.height = 16 ∧ g.fill = 0 ∧ g.dwell = 30
        ∧ g.lastChange = none ∧ g.view = .none ∧ g.sponsor = false ∧ g.message = false ∧ g.stoppage = false ∧ g.policy = .hold
        ∧ g.holdLimit = 60 ∧ g.glyphSet = none)
    ∧ (∀ r, (t.claims r).holder = none ∧ (t.claims r).waiting = []) ∧ t.arbiter.rotationRank = 2 ∧ t.arbiter.messageRank = 3
    ∧ t.comp.frame = 0 ∧ t.comp.locked = true ∧ t.comp.map = none
    ∧ (∀ i, (t.input i).latest = none ∧ (t.input i).arrival = 0 ∧ (t.input i).limit = 10 ∧ (t.input i).held = none)
    ∧ (∀ m, t.monitor m = { condition := false, enable := true, latch := false, latched := false })
    ∧ (∀ k, (t.link k).down = true ∧ (t.link k).frame = none ∧ (t.link k).mode = .strict ∧ (t.link k).pattern = List.replicate 8 true
        ∧ (t.link k).pacing = 0 ∧ (t.link k).hold = 0 ∧ (t.link k).room = true ∧ (t.link k).overrun = false ∧ (t.link k).group = 0
        ∧ (t.link k).lastStatus = 0 ∧ (t.link k).record = none)
    ∧ t.clock.state = .stopped ∧ t.clock.main = 1200000 ∧ t.clock.possession = 24000 ∧ t.clock.period = 1 ∧ t.clock.correction = 0
    ∧ t.clock.length = 1200000 ∧ t.clock.possessionReset = 24000 ∧ t.clock.window = 250 ∧ t.clock.hysteresis = 50
    ∧ t.clock.hornLength = 1500 ∧ t.clock.whistleStop = true ∧ t.clock.horn = none ∧ t.clock.unsupervised = false
    ∧ t.clock.lastWhistle = none ∧ t.clock.now = 0
    ∧ t.score = { home := 0, away := 0, homeFouls := 0, awayFouls := 0, homeTimeouts := 0, awayTimeouts := 0, arrow := .none,
                  flashLength := 45, flashLeft := 0, flashUsed := 0 }
    ∧ t.captures = { held := [], counter := 0, overflow := false }
    ∧ t.rotation.contracts = [] ∧ t.rotation.spots = [] ∧ t.rotation.staged = none ∧ t.rotation.build = none ∧ t.rotation.pointer = 0
    ∧ (∀ r, t.currentSpot r = none) ∧ t.exposure.lastTallied = none ∧ t.exposure.records = []
    ∧ t.messages.held = [] ∧ t.messages.approved = [] ∧ (∀ r, t.pass r = none)
    ∧ t.messages.settings = { maxLength := 120, continuation := 126, substitute := 63, speed := 4, holdLimit := 600 }
    ∧ t.assets.scanned = false ∧ t.assets.upload = none ∧ t.assets.reclaim = none ∧ t.assets.op = none ∧ t.assets.buffer = []
    ∧ t.assets.records = [] ∧ t.assets.copies = [] ∧ (s.assets.op = none → t.assets.nor = s.assets.nor)
    ∧ ∀ p, (t.port p).role = (if p.val = (if d.val < 6 then d.val else 0) then .director else .general)
        ∧ (t.port p).timeout = 2000 ∧ (t.port p).silent = false ∧ (t.port p).withdrawn = false ∧ (t.port p).requests = []
        ∧ (t.port p).answers = [] ∧ (t.port p).notices = [] ∧ (t.port p).noticeCounter = 0 ∧ (t.port p).noticesLost = false
        ∧ (t.port p).silentTimer = 0 ∧ (t.port p).line = none ∧ (t.port p).rx = []
        ∧ (t.port p).priorityMap = [0, 1, 2, 3, 4, 5, 6, 7]

/-- STARTUP_SCAN_END (R171, R172, R187): a memory that holds one whole Complete asset gives that asset its record, its pages and its copy; an erased
memory gives none; a scan that has ended changes nothing. That a page programmed as a header passes the check over its identity, and no content page
reads as a header, is the model's choice (log 27). -/
def Obligations.StartupScanFindsTheAssets : Prop :=
  ∀ (failed : List Nat) (s : State),
    (s.assets.scanned = true → Leads (.startupScanEnd failed) s s [] untouched (fun _ => True))
    ∧ (AssetLaw s → s.assets.scanned = false → s.assets.nor = [] →
      Leads (.startupScanEnd failed) s s [.assets] untouched (fun t => t.assets = { s.assets with scanned := true }))
    ∧ (∀ (p : Nat) (h : Header) (content : List (Nat × Page)), AssetLaw s → s.assets.scanned = false →
      s.assets.nor = (p, .header h) :: content → (∀ e ∈ content, p < e.1 ∧ e.1 < p + h.count) → h.kind = .image →
      1 ≤ h.width → h.width ≤ 48 → 1 ≤ h.height → h.height ≤ 16 → h.count = 1 + 2 * h.width * h.height → p + h.count ≤ 16384 →
      h.complete = true → h.retired = false →
      Leads (.startupScanEnd failed) s s [.assets] untouched (fun t =>
        t.assets.scanned = true ∧ t.assets.nor = s.assets.nor ∧ t.assets.copies = s.assets.nor
        ∧ t.assets.records = [{ id := h.id, kind := .image, width := h.width, height := h.height, first := p, count := h.count,
                                state := .complete }]
        ∧ ∀ n, keyGet n t.assets.pageMap = if p ≤ n ∧ n < p + h.count then some (.part p) else none))

/-- FRAME_TIMER_EXPIRY and GENLOCK_EDGE (R45, R47, R48, R52): a timer that has run its period, and an edge at least half a period after the last
tick, each make one tick (one alone where a timer tick was due before the edge, and at its due moment where the timer's is commanded late: the
model's choice, log 14); an earlier edge makes none and restarts the timer. A tick advances the counter by one, builds the map of its frame and
keeps that of the frame before; no clock, and no region but for its last change, is touched. -/
def Obligations.TicksAdvanceTheFrame : Prop :=
  ∀ (t0 : Nat) (s : State),
    let ticked := fun (t : State) =>
      t.comp.frame = s.comp.frame + 1 ∧ (∃ m, t.comp.map = some m ∧ m.frame = s.comp.frame + 1) ∧ t.comp.previous = s.comp.map
        ∧ t.clock = s.clock ∧ t.captures = s.captures ∧ t.canvas.mode = s.canvas.mode ∧ t.canvas.colours = s.canvas.colours
        ∧ t.pending = s.pending
        ∧ ∀ r, (t.region r).map (fun g => { g with lastChange := none }) = (s.region r).map (fun g => { g with lastChange := none })
    let period := if s.ratesel then 166667 else 200000
    (s.comp.timerStart + period ≤ t0 → ∃ t, exec (.frameTimerExpiry t0) s = .next t ∧ ticked t
        ∧ t.comp.lastTick = s.comp.timerStart + period ∧ t.comp.timerStart = s.comp.timerStart + period
        ∧ t.comp.lastEdge = s.comp.lastEdge ∧ t.comp.locked = s.comp.locked)
    ∧ (t0 < s.comp.timerStart + period → Leads (.frameTimerExpiry t0) s s [] untouched (fun _ => True))
    ∧ (s.comp.lastTick ≤ t0 → s.comp.lastEdge ≤ t0 → s.comp.timerStart ≤ t0 → period ≤ 2 * (t0 - s.comp.lastTick) →
      ∃ t, exec (.genlockEdge t0) s = .next t ∧ ticked t ∧ t.comp.lastTick = t0 ∧ t.comp.timerStart = t0 ∧ t.comp.lastEdge = t0
        ∧ t.comp.locked = true)
    ∧ (s.comp.lastTick ≤ t0 → s.comp.lastEdge ≤ t0 → s.comp.timerStart ≤ t0 → 2 * (t0 - s.comp.lastTick) < period →
      Leads (.genlockEdge t0) s s [.comp, .monitors] untouched (fun t =>
        t.comp = { s.comp with timerStart := t0, lastEdge := t0, locked := true }
        ∧ (s.comp.locked = false → (t.monitor monGenlock).condition = false)))

/-- CLAIM_DURATION_END and HOLD_LIMIT_FALLBACK (R31, R32, R36, R37, R43, R56): the tick at which a port's claim has used up its duration drops it,
with Ended; the tick at which a lost input's hold count reaches the region's hold limit ends its hold, with Ended, or with Displaced where it
resumes; and a tick takes a holder marked at a clock start: dropped with ClockStarted, or back to waiting with Displaced, from where it becomes
holder again, with Holding, when the clock has stopped meanwhile; one marked by a Release leaves without a notice. The notices are shown where the
claims of that region alone can bring the port any. That the commands bring about the frame timer's tick is the model's choice (log 5), as is the
position of a Displaced at the leave stage, that at which the claim joins (log 41). -/
def Obligations.HoldersLeaveWhenTheirTimeIsUp : Prop :=
  (∀ (r : RegionId) (g : Region) (h : Claim) (v : PortId) (s : State), s.region r = some g → g.view = .none →
    (s.claims r).holder = some h → h.claimant = .port v → h.remaining = some 1 → h.mark ≠ some .dropRelease →
    (∀ w ∈ (s.claims r).waiting, w.same h = false) →
    ∃ t, exec (.claimDurationEnd r) s = .next t ∧ t.comp.frame = s.comp.frame + 1
      ∧ (∀ x, (t.claims r).holder = some x → x.same h = false) ∧ (∀ w ∈ (t.claims r).waiting, w.same h = false)
      ∧ (HearsOnlyOf r v s → (s.claims r).awaitedBy (.port v) = false →
          Hears v [claimNoticeOf .ended r h.tag (s.comp.frame + 1) [.named 0]] s t))
  ∧ (∀ (r : RegionId) (g : Region) (h : Claim) (v : PortId) (i : InputId) (s : State), s.region r = some g → g.view = .none →
    g.policy = .hold → (s.claims r).holder = some h → h.claimant = .port v → h.content = .picture i → h.mark = none →
    h.remaining ≠ some 1 → h.remaining ≠ some 0 → (s.monitor (monLost i)).condition = true →
    g.holdLimit ≤ framesSince (s.comp.frame + 1) (s.input i).lostAt → (∀ w ∈ (s.claims r).waiting, w.same h = false) →
    ∃ t, exec (.holdLimitFallback r) s = .next t ∧ t.comp.frame = s.comp.frame + 1
      ∧ (∀ x, (t.claims r).holder = some x → x.same h = false)
      ∧ (h.resume = false → ∀ w ∈ (t.claims r).waiting, w.same h = false)
      ∧ (h.resume = false → HearsOnlyOf r v s → (s.claims r).awaitedBy (.port v) = false →
          Hears v [claimNoticeOf .ended r h.tag (s.comp.frame + 1) [.named 1]] s t)
      ∧ (∀ front back, h.resume = true → (s.claims r).waiting = front ++ back → (s.claims r).waiting.length < 4 →
          (∀ w ∈ front, h.rank ≤ w.rank) → (∀ w ∈ back, w.rank < h.rank) → g.sponsor = false → g.message = false →
          s.offering .rotation r = false → s.offering .message r = false → HearsOnlyOf r v s → (s.claims r).awaitedBy (.port v) = false →
          Hears v [claimNoticeOf .displaced r h.tag (s.comp.frame + 1)
            ([.named 2] ++ optNat (h.remaining.map (fun n => n - 1)) ++ [nat (front.length + 1)])] s t))
  ∧ (∀ (t0 : Nat) (r : RegionId) (g : Region) (h : Claim) (v : PortId) (s : State),
    s.comp.timerStart + (if s.ratesel then 166667 else 200000) ≤ t0 → s.region r = some g → g.view = .none → (s.claims r).holder = some h →
    h.claimant = .port v → h.remaining ≠ some 0 → h.remaining ≠ some 1 → (∀ i, h.content ≠ .picture i) →
    HearsOnlyOf r v s → (s.claims r).awaitedBy (.port v) = false →
    let left := h.remaining.map (fun n => n - 1)
    let back := claimNoticeOf .displaced r h.tag (s.comp.frame + 1) ([.named 1] ++ optNat left ++ [nat 1])
    (h.mark = some .dropClockStart →
      ∃ t, exec (.frameTimerExpiry t0) s = .next t ∧ (∀ x, (t.claims r).holder = some x → x.same h = false)
        ∧ (∀ w ∈ (t.claims r).waiting, w.same h = false)
        ∧ Hears v [claimNoticeOf .clockStarted r h.tag (s.comp.frame + 1) []] s t)
    ∧ (h.mark = some .dropRelease → ∃ t, exec (.frameTimerExpiry t0) s = .next t ∧ (∀ x, (t.claims r).holder = some x → x.same h = false)
        ∧ (∀ w ∈ (t.claims r).waiting, w.same h = false) ∧ Hears v [] s t)
    ∧ (h.mark = some .keep → (s.claims r).waiting = [] → g.stoppage = true → g.sponsor = false → g.message = false →
      s.offering .rotation r = false → s.offering .message r = false →
      (s.clock.state = .running →
        ∃ t, exec (.frameTimerExpiry t0) s = .next t ∧ (t.claims r).holder = none
          ∧ (t.claims r).waiting = [{ h with remaining := left, mark := none }] ∧ Hears v [back] s t)
      ∧ (s.clock.state ≠ .running → (∀ f, g.lastChange = some f → g.dwell ≤ (s.comp.frame + 1 - f).toNat) →
        ∃ t, exec (.frameTimerExpiry t0) s = .next t ∧ (t.claims r).holder = some { h with remaining := left, mark := none }
          ∧ (t.claims r).waiting = []
          ∧ Hears v [back, claimNoticeOf .holding r h.tag (s.comp.frame + 1) (nat h.rank :: optNat left)] s t)))

/-- A tick makes a region's candidate its holder (R24, R30, R31, R33, R34, R43, R49, R52) once the dwell has passed: on a region without a holder,
and over a holder of lower rank. The last change is the new frame, a Fill holder's pattern is what the region's plane of the new map supplies, and
its port receives Holding. A displaced holder that does not resume is gone, with Preempted; one that does goes back to its place in the wait list,
with Displaced, the claim that took the region being still on it, pushing off the last entry of a full list or, when it does not outrank that, being
dropped with Preempted (shown where neither engine has a part in the region, so that no engine's claim joins). The notices are shown where the
claims of that region alone can bring the port any. -/
def Obligations.TickMakesTheCandidateHolder : Prop :=
  ∀ (t0 : Nat) (r : RegionId) (g : Region) (w : Claim) (v : PortId) (n : PatternId) (rest : List Claim) (s : State),
    s.comp.timerStart + (if s.ratesel then 166667 else 200000) ≤ t0 → s.region r = some g → g.view = .none →
    (s.claims r).waiting = w :: rest → w.claimant = .port v → w.content = .fill n → (∀ x ∈ rest, x.same w = false) →
    (g.stoppage = true → s.clock.state ≠ .running) →
    (∀ f, g.lastChange = some f → g.dwell ≤ (s.comp.frame + 1 - f).toNat) →
    let taken := fun (t : State) =>
      (t.claims r).holder = some w ∧ t.region r = some { g with lastChange := some (s.comp.frame + 1) }
        ∧ ∃ m, t.comp.map = some m
            ∧ (r ≠ 0 → ∃ x ∈ m.planes, x.region = r ∧ x.presentable = true ∧ x.content = .fill n.val (s.colour n))
    let stays := fun (h : Claim) =>
      h.mark = none ∧ h.remaining ≠ some 0 ∧ h.remaining ≠ some 1
        ∧ ∀ i, h.content = .picture i →
            (s.monitor (monLost i)).reported = false ∧ framesSince (s.comp.frame + 1) (s.input i).arrival ≤ (s.input i).limit
    let holding := claimNoticeOf .holding r w.tag (s.comp.frame + 1) (nat w.rank :: optNat w.remaining)
    let preempted := fun (h : Claim) =>
      claimNoticeOf .preempted r h.tag (s.comp.frame + 1) (optNat (h.remaining.map (fun x => x - 1)) ++ [nat w.rank])
    let displaced := fun (h : Claim) (position : Nat) =>
      claimNoticeOf .displaced r h.tag (s.comp.frame + 1)
        ([.named 0] ++ optNat (h.remaining.map (fun x => x - 1)) ++ [nat position])
    let alone := fun (u : PortId) => u ≠ v ∧ HearsOnlyOf r u s ∧ ∀ x ∈ rest, x.claimant ≠ .port u
    (((s.claims r).holder = none ∨ ∃ h, (s.claims r).holder = some h ∧ h.rank < w.rank ∧ h.resume = false ∧ h.same w = false) →
      ∃ t, exec (.frameTimerExpiry t0) s = .next t ∧ taken t ∧ (∀ x ∈ (t.claims r).waiting, x.same w = false)
        ∧ (∀ h u, (s.claims r).holder = some h → h.claimant = .port u → h.mark ≠ some .keep → (∀ x ∈ rest, x.same h = false) →
            ∀ x ∈ (t.claims r).waiting, x.same h = false)
        ∧ (HearsOnlyOf r v s → (∀ x ∈ rest, x.claimant ≠ .port v) → (s.claims r).heldBy (.port v) = false → Hears v [holding] s t)
        ∧ ∀ h u, (s.claims r).holder = some h → h.claimant = .port u → stays h → u ≠ v → HearsOnlyOf r u s →
            (∀ x ∈ rest, x.claimant ≠ .port u) → Hears u [preempted h] s t)
    ∧ (∀ h u front back, (s.claims r).holder = some h → h.claimant = .port u → h.rank < w.rank → h.resume = true → stays h →
      h.same w = false → (∀ x ∈ rest, x.same h = false) →
      g.sponsor = false → g.message = false → s.offering .rotation r = false → s.offering .message r = false →
      (∀ x ∈ rest, ∃ c, x.claimant = .port c) → (∀ x ∈ front, h.rank ≤ x.rank) → (∀ x ∈ back, x.rank < h.rank) →
      (rest = front ++ back → rest.length < 3 →
        ∃ t, exec (.frameTimerExpiry t0) s = .next t ∧ taken t
          ∧ (t.claims r).waiting = front ++ { h with remaining := h.remaining.map (fun x => x - 1) } :: back
          ∧ (alone u → Hears u [displaced h (front.length + 1)] s t))
      ∧ (∀ last, rest = front ++ back ++ [last] → rest.length = 3 → last.rank < h.rank →
        ∃ t, exec (.frameTimerExpiry t0) s = .next t ∧ taken t
          ∧ (t.claims r).waiting = front ++ { h with remaining := h.remaining.map (fun x => x - 1) } :: back
          ∧ (alone u → Hears u [displaced h (front.length + 1)] s t))
      ∧ (∀ last, rest.getLast? = some last → rest.length = 3 → h.rank ≤ last.rank →
        ∃ t, exec (.frameTimerExpiry t0) s = .next t ∧ taken t ∧ (t.claims r).waiting = rest ∧ (alone u → Hears u [preempted h] s t)))

/-- Every tile of the map of a tick shows the highest region that supplies it, and the base where none does (R1, R51); the planes are those of the
regions defined, at their places. -/
def Obligations.TilesShowTheHighestRegion : Prop :=
  ∀ (t0 : Nat) (s : State), s.comp.timerStart + (if s.ratesel then 166667 else 200000) ≤ t0 → RegionLaw s →
    ∃ t m, exec (.frameTimerExpiry t0) s = .next t ∧ t.comp.map = some m ∧ m.base.region = 0
      ∧ (∀ x ∈ m.planes, x.region ≠ 0 ∧ ∃ g, s.region x.region = some g ∧ x.layer = g.layer ∧ x.col = g.col ∧ x.row = g.row
          ∧ x.width = g.width ∧ x.height = g.height)
      ∧ (∀ r g, r ≠ 0 → s.region r = some g → ∃ x ∈ m.planes, x.region = r)
      ∧ ∀ c r, (m.supplier c r = m.base ∧ (∀ x ∈ m.planes, x.supplies c r = false))
          ∨ (m.supplier c r ∈ m.planes ∧ (m.supplier c r).supplies c r = true
              ∧ ∀ x ∈ m.planes, x.supplies c r = true → x.layer < (m.supplier c r).layer ∨ x = m.supplier c r)

/-- The views of the Clock Unit (R49, R52, R101 to R104): what each of the four shows, in glyph codes, and the region that carries one in the map of
a tick, its glyph set being Complete: one line of the glyphs with an advance width, centred, or from the left edge where it is wider and then cut at
the right edge, over the region's fill colour; without its glyphs in the odd groups of eight frames of a score flash; and, for Possession, blanked
while the clock is Running and P is greater than R, so that no tile of the region is supplied by it. That a glyph's cell is its advance width by 64
px is DEDUCED (log 12). -/
def Obligations.ViewsAreWrittenAndBlanked : Prop :=
  (∀ (k : Clock) (x : Score), k.main ≤ 5999999 → k.possession ≤ 99999 → k.period ≤ 9 → x.home ≤ 999 → x.away ≤ 999 →
    viewText k x .mainClock
        = (if 60000 ≤ k.main then
            let sec := (k.main + 999) / 1000
            decimalOf (sec / 60) ++ [58, 48 + sec % 60 / 10, 48 + sec % 60 % 10]
          else tenthsOf k.main)
      ∧ viewText k x .possession = (if 5000 ≤ k.possession then decimalOf ((k.possession + 999) / 1000) else tenthsOf k.possession)
      ∧ viewText k x .score
        = (if x.arrow = .home then [60] else []) ++ decimalOf x.home ++ [45] ++ decimalOf x.away ++ (if x.arrow = .away then [62] else [])
      ∧ viewText k x .period = [48 + k.period])
  ∧ (∀ (t0 : Nat) (r : RegionId) (g : Region) (set : Nat) (e : AssetRecord) (h : Header) (s : State),
    s.comp.timerStart + (if s.ratesel then 166667 else 200000) ≤ t0 → r ≠ 0 → s.region r = some g → g.view ≠ .none →
    g.glyphSet = some set → (s.claims r).holder = none → s.assets.complete set = some e → e.kind = .glyphSet → s.assets.copyOf e.first = .header h →
    (∀ f : Fin 8, f.val = g.fill →
      let codes := viewText s.clock s.score g.view
      let advance := fun (i : Nat) => h.widths.getD (codes.getD i 0) 0
      let line := ((List.range codes.length).map advance).sum
      let left := fun (i : Nat) => (if line ≤ 64 * g.width then (64 * g.width - line) / 2 else 0) + ((List.range i).map advance).sum
      let glyphs := if g.view = .score ∧ 0 < s.score.flashLeft ∧ s.score.flashUsed / 8 % 2 = 1 then [] else
        ((List.range codes.length).filter (fun i => decide (0 < advance i ∧ left i < 64 * g.width))).map (fun i =>
          ({ code := codes.getD i 0, left := (left i : Int), top := (64 * g.height - 64) / 2, advance := advance i
             drawing := s.assets.copyOf (e.first + 1 + codes.getD i 0 / 8) } : Glyph))
      let onTile := fun (x : Glyph) (c w : Nat) =>
        decide (x.left < 64 * (c : Int) + 64 ∧ 64 * (c : Int) < x.left + x.advance ∧ x.top < 64 * w + 64 ∧ 64 * w < x.top + 64)
      ∃ t m y, exec (.frameTimerExpiry t0) s = .next t ∧ t.comp.map = some m ∧ y ∈ m.planes ∧ y.region = r ∧ y.presentable = true
        ∧ (∀ z ∈ m.planes, z.region = r → z = y)
        ∧ (let blank := g.view = .possession ∧ s.clock.state = .running ∧ s.clock.main < s.clock.possession
           (blank → ∀ c w, y.supplies c w = false)
            ∧ (¬blank → ∀ c w, (y.supplies c w = true ↔ inTiles g.col g.row g.width g.height c w)
                ∧ (m.supplier c w = y → y.supplies c w = true →
                  m.content c w = .view g.view (glyphs.filter (fun x => onTile x (c - g.col) (w - g.row))) g.fill (s.colour f))))))

/-- SPOT_COMPLETE and PASS_COMPLETE (R129, R163): the tick at which a spot has run its length counts it as shown, and that at which a pass has
run its length ends it; whatever the region shows next starts from 0. That the command brings about the frame timer's tick is the model's choice
(log 5). -/
def Obligations.SpotsAndPassesRunTheirLength : Prop :=
  (∀ (r : RegionId) (g : Region) (h : Claim) (x : CurrentSpot) (y : Spot) (c : Contract) (s : State), s.region r = some g → g.view = .none →
    (s.claims r).holder = some h → h.claimant = .engine .rotation → s.currentSpot r = some x →
    s.rotation.spots.find? (fun z => decide (z.id = x.spot)) = some y → max y.slot g.dwell ≤ x.run + 1 →
    s.rotation.contracts.find? (fun z => decide (z.terms.id = y.contract)) = some c →
    ∃ t, exec (.spotComplete r) s = .next t ∧ t.comp.frame = s.comp.frame + 1 ∧ (∀ z, t.currentSpot r = some z → z.run = 0)
      ∧ ∃ d, t.rotation.contracts.find? (fun z => decide (z.terms.id = y.contract)) = some d ∧ min 65535 (c.shown + 1) ≤ d.shown)
  ∧ (∀ (r : RegionId) (g : Region) (h : Claim) (x : Pass) (s : State), s.region r = some g → g.view = .none →
    (s.claims r).holder = some h → h.claimant = .engine .message → s.pass r = some x → x.abort = false → x.length ≤ x.run + 1 →
    MessageLaw s →
    ∃ t, exec (.passComplete r) s = .next t ∧ t.comp.frame = s.comp.frame + 1
      ∧ (∀ z, t.pass r = some z → z.run = 0 ∧ z.start = s.comp.frame + 1)
      ∧ ((x.withdrawing = true ∨ x.entry.repeats ≤ x.entry.passesDone + 1) → t.hasEntry x.entry.submitter x.entry.tag = false)
      ∧ ((x.withdrawing = false ∧ x.entry.passesDone + 1 < x.entry.repeats) →
          ∃ e ∈ t.entries, e.submitter = x.entry.submitter ∧ e.tag = x.entry.tag ∧ e.passesDone = x.entry.passesDone + 1))

/-- A tick makes a selection for a region the Rotation Engine holds with no current spot (R127, R128, R145 to R147). The candidates are the spots
that name the region, whose asset is Complete and of the region's size, whose contract is not Suspended, and that show nowhere. A contract's lag is
what its target asks by the time played, less its exposure. Among the candidates of the greatest lag, when that is above 0, or else among all, the
first after the pointer becomes the current spot, the pointer moves to it, and the region shows it; with no candidate the pointer stays, the engine
stays holder, and the region is not presentable. No other region has a claim of the engine, and every link has closed the frames before, so that
neither another selection nor a tally comes between: the exposure of the lag is that before the tally of the frame the tick ends, an order that
section 7.9 leaves open (the model's choice, log 17). -/
def Obligations.SelectionFollowsTheLag : Prop :=
  ∀ (t0 : Nat) (r : RegionId) (g : Region) (h : Claim) (s : State), s.comp.timerStart + (if s.ratesel then 166667 else 200000) ≤ t0 →
    r ≠ 0 → s.region r = some g → g.view = .none → (s.claims r).holder = some h → (s.claims r).waiting = [] →
    h.claimant = .engine .rotation → h.content = .spot → h.mark = none → h.remaining = none → s.currentSpot r = none →
    s.offering .rotation r = false → (s.rotation.spots.map (fun x => x.id)).Nodup → (∀ k, (s.link k).frame = some s.comp.frame) →
    (∀ n, n ≠ r → (s.claims n).heldBy (.engine .rotation) = false ∧ (s.claims n).awaitedBy (.engine .rotation) = false) →
    let contract := fun (x : Spot) => s.rotation.contracts.find? (fun c => decide (c.terms.id = x.contract))
    let candidate := fun (x : Spot) =>
      r.val ∈ x.regions ∧ (∃ e, s.assets.complete x.asset = some e ∧ e.width = g.width ∧ e.height = g.height)
        ∧ (∃ c, contract x = some c ∧ c.suspended = false) ∧ ∀ n, (s.currentSpot n).map (fun y => y.spot) ≠ some x.id
    let lag := fun (x : Spot) =>
      match contract x with
      | none => (0 : Int)
      | some c =>
        max (-2147483648) (min 2147483647
          (((c.terms.target * 256 * (if s.ratesel then 60 else 50) * (s.clock.length - s.clock.main) / s.clock.length : Nat) : Int)
            - (c.accrued : Int)))
    ((∀ x ∈ s.rotation.spots, ¬candidate x) →
      ∃ t m, exec (.frameTimerExpiry t0) s = .next t ∧ t.currentSpot r = none ∧ t.rotation.pointer = s.rotation.pointer
        ∧ (t.claims r).holder = some h ∧ t.comp.map = some m ∧ ∃ y ∈ m.planes, y.region = r ∧ y.presentable = false)
    ∧ (∀ i x, s.rotation.spots[i]? = some x → candidate x →
      ((∀ y ∈ s.rotation.spots, candidate y → lag y ≤ max 0 (lag x))) →
      (∀ j y, s.rotation.spots[j]? = some y → candidate y → j ≠ i → (0 < lag x → lag y = lag x) →
        (s.rotation.pointer < i + 1 ∧ j + 1 ≤ s.rotation.pointer)
          ∨ ((s.rotation.pointer < i + 1 ↔ s.rotation.pointer < j + 1) ∧ i < j)) →
      ∃ t m, exec (.frameTimerExpiry t0) s = .next t ∧ t.currentSpot r = some { spot := x.id, run := 0 } ∧ t.rotation.pointer = i + 1
        ∧ (t.claims r).holder = some h ∧ t.comp.map = some m
        ∧ ∃ y ∈ m.planes, y.region = r ∧ y.presentable = true
            ∧ y.content = .spot x.id x.contract x.asset (s.assets.contentOf x.asset))

/-- SCORE_FLASH_END, INPUT_LOST, LINK_DOWN and GENLOCK_LOST (R46, R55, R57, R60, R75, R79, R101): the last flash frame is used, an input that is
late becomes Lost with its latest frame held, and a link with no status in eight frames goes Down, each at its tick (that the tick is the frame
timer's is the model's choice, log 5); after three frame periods without an edge a Locked part goes to Freerun, with a SourceFault where the Genlock
condition was not reported, and before that nothing changes. That GENLOCK_LOST alone brings Freerun about, and that a SourceFault without a region
says so in a presence byte, are the model's choices (logs 14 and 7). -/
def Obligations.FlashesEndAndFaultsRise : Prop :=
  (∀ (s : State),
    (s.score.flashLeft = 1 → ∃ t, exec .scoreFlashEnd s = .next t ∧ t.comp.frame = s.comp.frame + 1
      ∧ t.score = { s.score with flashLeft := 0, flashUsed := s.score.flashUsed + 1 })
    ∧ (∀ i, (s.input i).limit < framesSince (s.comp.frame + 1) (s.input i).arrival → (s.monitor (monLost i)).condition = false →
      ∃ t, exec (.inputLost i) s = .next t ∧ t.comp.frame = s.comp.frame + 1
        ∧ (t.monitor (monLost i)).condition = true ∧ (t.input i).lostAt = s.comp.frame + 1 ∧ (t.input i).latest = (s.input i).latest
        ∧ (t.input i).held = if (s.monitor (monLost i)).latched then (s.input i).held else (s.input i).latest)
    ∧ (∀ k, (s.link k).down = false → 8 < framesSince (s.comp.frame + 1) (s.link k).lastStatus →
      ∃ t, exec (.linkDown k) s = .next t ∧ t.comp.frame = s.comp.frame + 1
        ∧ (t.link k).down = true ∧ (t.link k).hold = 0 ∧ (t.link k).room = true ∧ (t.link k).probe = true
        ∧ (t.monitor (monDown k)).condition = true))
  ∧ (∀ (t0 : Nat) (s : State),
    let period := if s.ratesel then 166667 else 200000
    (s.comp.locked = true → s.comp.lastEdge + 3 * period ≤ t0 → (s.monitor monGenlock).condition = false →
      Leads (.genlockLost t0) s s [.comp, .monitors]
        (if (s.monitor monGenlock).latched = false ∧ (s.monitor monGenlock).enable = true then
          noted [s.director] { kind := .sourceFault, fields := [.named 4, .num s.comp.frame.toNat, .absent] } else untouched)
        (fun t => t.comp = { s.comp with locked := false }
          ∧ t.monitor monGenlock = { (s.monitor monGenlock) with
              condition := true, latched := (s.monitor monGenlock).latched || (s.monitor monGenlock).latch }
          ∧ ∀ m, m ≠ monGenlock → t.monitor m = s.monitor m))
    ∧ (t0 < s.comp.lastEdge + 3 * period → Leads (.genlockLost t0) s s [] untouched (fun _ => True)))

/-- INPUT_FRAME_ARRIVAL and INPUT_FRAME_DISCARDED (R54, R55, R57): a complete frame, cut to 48 by 16 tiles, replaces the latest one and clears Lost;
one that is not complete, or of no size, changes nothing. -/
def Obligations.InputFramesReplaceTheLatest : Prop :=
  ∀ (i : InputId) (s : State),
    (∀ (width height : Nat) (tiles : List Nat), 1 ≤ width → 1 ≤ height → tiles.length = width * height →
      Leads (.inputFrameArrival i width height tiles) s s [.inputs, .monitors] untouched (fun t =>
        (∃ f, (t.input i).latest = some f ∧ f.width = min 48 width ∧ f.height = min 16 height
          ∧ ∀ c r, c < f.width → r < f.height → f.tiles[r * f.width + c]? = tiles[r * width + c]?)
        ∧ (t.input i).arrival = s.comp.frame ∧ (t.input i).limit = (s.input i).limit
        ∧ (t.input i).held = (if (s.monitor (monLost i)).latched then (s.input i).held else none)
        ∧ (∀ n, n ≠ i → t.input n = s.input n)
        ∧ t.monitor (monLost i) = { (s.monitor (monLost i)) with condition := false }
        ∧ ∀ m, m ≠ monLost i → t.monitor m = s.monitor m))
    ∧ (∀ (width height : Nat) (tiles : List Nat), width = 0 ∨ height = 0 →
      Leads (.inputFrameArrival i width height tiles) s s [] untouched (fun _ => True))
    ∧ Leads (.inputFrameDiscarded i) s s [] untouched (fun _ => True)

/-! ### Panel links -/

/-- SLOT_START and LINK_HOLD_END (R64 to R67, R69 to R72, R76) in a frame whose map is built, `l1` being the link as the slot open before it, if
one was, has ended: in a Send slot of a link that is Up, not held, with room, and with a tile left to send, the packet of its tile starts, counted
as an attempt, in eight chunks of eight pixel rows each, that of the reported scan group first and the eighth marked last; on a link that is Down
its one probe of the frame starts, of tile 0; where R66 and R76 allow neither, none starts and a forced Idle slot is used up; and a packet that
got no status in its slot is Nacked, so that the slot after it is an Idle slot (a fourth Nack, with the Retry condition present already, spends
the tile). That a probe counts among the packets started and the Nacks of its frame is the model's choice (DEDUCED, log 21). A hold of 1 ends
with its slot: that LINK_HOLD_END is the whole slot start is the model's choice (log 5). -/
def Obligations.SlotsStartPacketsAsAllowed : Prop :=
  ∀ (k : LinkId) (m : ComposedMap) (l l1 : Link) (s : State), s.link k = l → l.frame = some s.comp.frame → s.comp.map = some m →
    m.frame = s.comp.frame → (l.spent = true → (s.monitor (monRetry k)).condition = true) →
    l1 = { l with
      slotOpen := true
      slot := if l.slotOpen then l.slot + 1 else l.slot
      hold := if l.slotOpen = true ∧ l.holdFresh = false then l.hold - 1 else l.hold
      holdFresh := l.holdFresh && !l.slotOpen } →
    let send := l.pattern.getD (l1.slot % 8) false = true
    let may := l.down = false ∧ l.probe = false ∧ l.quiet = false ∧ send ∧ l.forcedIdle = false ∧ l1.hold = 0
      ∧ (l.room = true ∨ l.mode = .oneAhead ∧ l.overrun = true) ∧ l.tile < 96
    let mayProbe := l.down = true ∧ l.probe = true ∧ l.probeSent = false ∧ send
    let chunks : List Chunk := [0, 1, 2, 3, 4, 5, 6, 7].map (fun n =>
      { group := l.group ^^^ n, rows := [0, 1, 2, 3, 4, 5, 6, 7].map (fun i => 8 * i + (l.group ^^^ n)), last := decide (n = 7) })
    (l.packet = none → may →
      Leads (.slotStart k) s s [.links] untouched (fun t =>
        t.link k = { l1 with
            forcedIdle := false, attempts := l.attempts + 1, started := l.started + 1, overrun := l.room
            packet := some { tile := l.tile, frame := s.comp.frame, chunks := chunks, probe := false
                             content := m.content (l.tile % 48) (2 * k.val + l.tile / 48) } }
        ∧ ∀ n, n ≠ k → t.link n = s.link n))
    ∧ (l.packet = none → mayProbe →
      Leads (.slotStart k) s s [.links] untouched (fun t =>
        t.link k = { l1 with
            forcedIdle := false, probeSent := true, started := l.started + 1
            packet := some { tile := 0, frame := s.comp.frame, chunks := chunks, probe := true, content := m.content 0 (2 * k.val) } }
        ∧ ∀ n, n ≠ k → t.link n = s.link n))
    ∧ (l.packet = none → ¬may → ¬mayProbe →
      Leads (.slotStart k) s s [.links] untouched (fun t =>
        t.link k = { l1 with forcedIdle := false } ∧ ∀ n, n ≠ k → t.link n = s.link n))
    ∧ (∀ x, l.packet = some x → x.probe = false → l.down = false → (l.attempts < 4 ∨ (s.monitor (monRetry k)).condition = true) →
      Leads (.slotStart k) s s [.links] untouched (fun t =>
        t.link k = { l1 with
            packet := none, forcedIdle := false, nacks := l.nacks + 1, pacing := 31
            tile := if l.attempts < 4 then l.tile else l.tile + 1
            attempts := if l.attempts < 4 then l.attempts else 0
            spent := if l.attempts < 4 then l.spent else true }
        ∧ ∀ n, n ≠ k → t.link n = s.link n))
    ∧ (∀ x, l.packet = some x → x.probe = true → l.probeSent = true → (l.down = true ∨ l.quiet = true) →
      Leads (.slotStart k) s s [.links] untouched (fun t =>
        t.link k = { l1 with packet := none, forcedIdle := false, nacks := l.nacks + 1 } ∧ ∀ n, n ≠ k → t.link n = s.link n))
    ∧ (l.slotOpen = true → l.holdFresh = false → l.hold = 1 →
      ∃ t, exec (.linkHoldEnd k) s = .next t ∧ exec (.slotStart k) s = .next t
        ∧ (t.link k).hold = 0 ∧ (t.link k).slot = l.slot + 1 ∧ (t.link k).slotOpen = true ∧ ∀ n, n ≠ k → t.link n = s.link n)

/-- RECEIVER_STATUS and SLOT_END_NO_STATUS (R68, R70 to R72, R76): an Ack delivers the tile and moves on, a Nack sets the pacing value to 31 and
leaves the tile to be sent again until its fourth, which spends the tile and raises the Retry condition where it is absent, with its SourceFault
(R60, R79); every status replaces room, scan group, hold and last-status frame; a slot that ends with no status is a Nack; and the first status on a
Down link, its probe's own or an idle one, brings it Up. That a probe's Nack counts among the Nacks is the model's choice (DEDUCED, log 21). A
status taken while no slot is open counts its hold from the slot that has ended (the model's choice, log 44), and a SourceFault without a region has
a presence byte (log 7). -/
def Obligations.StatusAcksNacksAndRevives : Prop :=
  ∀ (k : LinkId) (l : Link) (x : Packet) (room : Bool) (group : Fin 8) (hold : Byte) (s : State), s.link k = l →
    (l.down = false → l.packet = some x → x.probe = false → l.spent = false →
      (Leads (.receiverStatus k true room group hold true) s s [.links] untouched (fun t =>
          t.link k = { l with
              packet := none, tile := l.tile + 1, attempts := 0, acked := l.acked ++ [l.tile]
              pacing := if l.attempts = 1 then l.pacing - 1 else l.pacing
              forcedIdle := decide (0 < (if l.attempts = 1 then l.pacing - 1 else l.pacing))
              room := room, group := group.val, hold := hold.toNat, holdFresh := l.slotOpen, lastStatus := s.comp.frame }
          ∧ ∀ n, n ≠ k → t.link n = s.link n))
      ∧ (l.attempts < 4 →
        Leads (.receiverStatus k false room group hold true) s s [.links] untouched (fun t =>
          t.link k = { l with
              packet := none, nacks := l.nacks + 1, pacing := 31, forcedIdle := true
              room := room, group := group.val, hold := hold.toNat, holdFresh := l.slotOpen, lastStatus := s.comp.frame }
          ∧ ∀ n, n ≠ k → t.link n = s.link n)
        ∧ (l.slotOpen = true → Leads (.slotEndNoStatus k) s s [.links] untouched (fun t =>
          t.link k = { l with
              packet := none, nacks := l.nacks + 1, pacing := 31, forcedIdle := true, slotOpen := false, slot := l.slot + 1
              hold := if l.holdFresh then l.hold else l.hold - 1, holdFresh := false }
          ∧ ∀ n, n ≠ k → t.link n = s.link n)))
      ∧ (4 ≤ l.attempts → (s.monitor (monRetry k)).condition = true →
        Leads (.receiverStatus k false room group hold true) s s [.links] untouched (fun t =>
          (t.link k).tile = l.tile + 1 ∧ (t.link k).attempts = 0 ∧ (t.link k).spent = true ∧ (t.link k).acked = l.acked
          ∧ (t.link k).nacks = l.nacks + 1 ∧ ∀ n, n ≠ k → t.link n = s.link n))
      ∧ (4 ≤ l.attempts → (s.monitor (monRetry k)).condition = false →
        Leads (.receiverStatus k false room group hold true) s s [.links, .monitors]
          (if (s.monitor (monRetry k)).latched = false ∧ (s.monitor (monRetry k)).enable = true then
            noted [s.director] { kind := .sourceFault, fields := [.named (21 + k.val), .num s.comp.frame.toNat, .absent] } else untouched)
          (fun t =>
            t.link k = { l with
                packet := none, tile := l.tile + 1, attempts := 0, spent := true, nacks := l.nacks + 1, pacing := 31, forcedIdle := true
                room := room, group := group.val, hold := hold.toNat, holdFresh := l.slotOpen, lastStatus := s.comp.frame }
            ∧ t.monitor (monRetry k) = { (s.monitor (monRetry k)) with
                condition := true, latched := (s.monitor (monRetry k)).latched || (s.monitor (monRetry k)).latch }
            ∧ (∀ m, m ≠ monRetry k → t.monitor m = s.monitor m) ∧ ∀ n, n ≠ k → t.link n = s.link n)))
    ∧ (l.down = true → l.packet = some x → x.probe = true → l.spent = false → ∀ ack,
        Leads (.receiverStatus k ack room group hold true) s s [.links, .monitors] untouched (fun t =>
          t.link k = { l with
              down := false, pacing := 0, overrun := false, quiet := true, packet := none, nacks := if ack then l.nacks else l.nacks + 1
              room := room, group := group.val, hold := hold.toNat, holdFresh := l.slotOpen, lastStatus := s.comp.frame }
          ∧ t.monitor (monDown k) = { (s.monitor (monDown k)) with condition := false }
          ∧ (∀ m, m ≠ monDown k → t.monitor m = s.monitor m) ∧ ∀ n, n ≠ k → t.link n = s.link n))
    ∧ (l.down = false → l.spent = false → ∀ ack,
        Leads (.receiverStatus k ack room group hold false) s s [.links] untouched (fun t =>
          t.link k = { l with room := room, group := group.val, hold := hold.toNat, holdFresh := l.slotOpen, lastStatus := s.comp.frame }
          ∧ ∀ n, n ≠ k → t.link n = s.link n))
    ∧ (l.down = true → l.spent = false → ∀ ack,
        Leads (.receiverStatus k ack room group hold false) s s [.links, .monitors] untouched (fun t =>
          t.link k = { l with
              down := false, pacing := 0, overrun := false, quiet := true
              room := room, group := group.val, hold := hold.toNat, holdFresh := l.slotOpen, lastStatus := s.comp.frame }
          ∧ (t.monitor (monDown k)).condition = false ∧ ∀ n, n ≠ k → t.link n = s.link n))

/-- FRAME_CLOSE (R71, R73, R74, R79, R139 to R143): a link with no packet in progress closes the frame it was sending, keeps its delivery record,
settles its two monitors and begins the current frame; no account loses exposure by it, none gains more than 256 units, and none gains in Setup.
Where it hands over the last of the frame's eight records, the tally is taken: each spot-list entry earns the 256ths of its region's tiles that
the region supplied and a link delivered, or nothing below its contract's Qmin; a contract's credit is the sum over its entries, at most 256, and
joins its exposure in Live; last credit and last frame tallied are noted, and the records and the map are released. That a frame is closed in a
step after the tick that ended it, whose selections come first, is the model's choice (log 17). -/
def Obligations.FrameCloseRecordsTheDelivery : Prop :=
  (∀ (k : LinkId) (f : FrameNo) (l : Link) (s : State), s.link k = l → l.packet = none → l.frame = some f → f ≠ s.comp.frame →
    ∃ t, exec (.frameClose k) s = .next t
      ∧ (t.link k).record = some { frame := f, link := k, delivered := l.acked, started := l.started, nacks := l.nacks }
      ∧ (t.link k).frame = some s.comp.frame ∧ (t.link k).slot = 0 ∧ (t.link k).slotOpen = false ∧ (t.link k).tile = 0
      ∧ (t.link k).attempts = 0 ∧ (t.link k).acked = [] ∧ (t.link k).spent = false ∧ (t.link k).started = 0 ∧ (t.link k).nacks = 0
      ∧ (t.link k).mode = l.armed.mode.getD l.mode ∧ (t.link k).pattern = l.armed.pattern.getD l.pattern
      ∧ (t.link k).pacing = l.pacing ∧ (t.link k).room = l.room ∧ (t.link k).overrun = l.overrun ∧ (t.link k).group = l.group
      ∧ (t.link k).waiting = l.waiting ∧ (t.link k).down = l.down
      ∧ (∀ n, n ≠ k → t.link n = s.link n)
      ∧ ((t.monitor (monIncomplete k)).condition = true ↔ ∃ i, i < 96 ∧ i ∉ l.acked)
      ∧ (t.monitor (monRetry k)).condition = l.spent
      ∧ Only [.links, .monitors, .exposure, .rotation, .comp] s t
      ∧ t.rotation = { s.rotation with contracts := t.rotation.contracts }
      ∧ (RotationLaw s → List.Forall₂
          (fun c d => d.terms = c.terms ∧ c.accrued ≤ d.accrued ∧ d.accrued ≤ c.accrued + 256
            ∧ (s.canvas.mode = .setup → d.accrued = c.accrued) ∧ d.history = c.history ∧ d.cut = c.cut ∧ d.shown = c.shown)
          s.rotation.contracts t.rotation.contracts))
  ∧ (∀ (k : LinkId) (f : FrameNo) (l : Link) (m : ComposedMap) (others : List DeliveryRecord) (s : State), s.link k = l → l.packet = none →
    l.frame = some f → f ≠ s.comp.frame → others = s.exposure.records.filter (fun x => decide (x.frame = f)) → others.length = 7 →
    s.comp.previous = some m → m.frame = f → (m.planes.map (fun x => x.region)).Nodup →
    let records := others ++ [{ frame := f, link := k, delivered := l.acked, started := l.started, nacks := l.nacks }]
    let shown := fun (c r : Nat) =>
      records.any (fun x => decide (x.link.val = r / 2) && x.delivered.contains (if r % 2 = 0 then c else 48 + c))
    let visible := fun (e : SpotEntry) =>
      ((m.planes.filter (fun x => decide (x.region = e.region))).flatMap (fun x =>
        x.tiles.filter (fun c => decide ((m.supplier c.1 c.2).region = e.region) && shown c.1 c.2))).length
    let credit := fun (c : Contract) =>
      min 256 ((m.spots.filter (fun e => decide (e.contract = c.terms.id))).map (fun e =>
        if c.terms.qmin ≤ 256 * visible e / e.tiles then 256 * visible e / e.tiles else 0)).sum
    ∃ t, exec (.frameClose k) s = .next t
      ∧ t.exposure = { lastTallied := some f, records := s.exposure.records.filter (fun x => !decide (x.frame = f)) }
      ∧ t.comp = { s.comp with previous := none }
      ∧ t.rotation = { s.rotation with
          contracts := s.rotation.contracts.map (fun c =>
            if m.spots.any (fun e => decide (e.contract = c.terms.id)) = true then
              if s.canvas.mode = .live then
                { c with accrued := min 4294967295 (c.accrued + credit c), lastCredit := some (credit c, f) }
              else { c with lastCredit := some (0, f) }
            else c) })

/-! ### The timebase and the whistle -/

/-- MS_STEP (R82, R84, R85, R198): the timebase rises by one; a Running clock loses 1 ms, none at a 100 ms boundary with C above 0 and 2 with C
below 0, and the possession time 1 ms; a clock that is not Running stands; every silence timer counts. That silence timers count in ms steps is
the model's choice (log 6). -/
def Obligations.MsStepCountsTheClocks : Prop :=
  ∀ (s : State), ClockLaw s → s.clock.horn = none → s.assets.op = none → (∀ e ∈ s.messages.held, s.messages.settings.holdLimit = 0) →
    (∀ p, (s.port p).silent = true ∨ (s.port p).timeout = 0 ∨ (s.port p).silentTimer < (s.port p).timeout) →
    (s.clock.state ≠ .running →
      Leads .msStep s s [.clock] (fun _ x => { x with silentTimer := x.silentTimer + 1 }) (fun t => t.clock = { s.clock with now := s.clock.now + 1 }))
    ∧ (s.clock.state = .running → 2 < s.clock.main → s.clock.possession ≠ 1 →
      Leads .msStep s s [.clock] (fun _ x => { x with silentTimer := x.silentTimer + 1 }) (fun t =>
        t.clock = { s.clock with
          now := s.clock.now + 1
          main := if (s.clock.now + 1).toNat % 100 = 0 ∧ 0 < s.clock.correction then s.clock.main
            else if (s.clock.now + 1).toNat % 100 = 0 ∧ s.clock.correction < 0 then s.clock.main - 2 else s.clock.main - 1
          correction := if (s.clock.now + 1).toNat % 100 = 0 ∧ 0 < s.clock.correction then s.clock.correction - 1
            else if (s.clock.now + 1).toNat % 100 = 0 ∧ s.clock.correction < 0 then s.clock.correction + 1 else s.clock.correction
          possession := s.clock.possession - 1 }))

/-- MAIN_EXPIRY, POSSESSION_EXPIRY, HORN_END and WHISTLE (R84, R95 to R98, R109, R110): the ms step that takes R to 0 expires the main clock, sounds
the horn and makes a capture event; the one that takes P to 0 sounds the horn and makes one too, and the main clock runs on; the step that reaches
the horn's end turns it off. That the command brings about that ms step is the model's choice (log 5). A whistle edge at least 20 ms after the last
one taken makes a capture event, and with whistle-stop on it stops a Running clock first; an earlier edge changes nothing. The ms of a whistle
between two ms steps is that of the step before it (the model's choice, log 46). -/
def Obligations.ExpiriesAndWhistlesAct : Prop :=
  (∀ (s : State), ClockLaw s →
    (s.clock.state = .running → s.clock.main = 1 → (s.clock.now + 1).toNat % 100 ≠ 0 → s.clock.possession ≠ 1 → s.clock.horn = none →
      ∃ t, exec .mainExpiry s = .next t ∧ t.clock.state = .expired ∧ t.clock.main = 0 ∧ t.clock.correction = 0
        ∧ t.clock.period = s.clock.period ∧ t.clock.horn = some (s.clock.now + 1 + BitVec.ofNat 64 s.clock.hornLength)
        ∧ t.captures.counter = (if 65535 ≤ s.captures.counter then 1 else s.captures.counter + 1)
        ∧ (s.captures.held = [] → ∃ c, t.captures.held = [(0, c)] ∧ c.source = .expiry ∧ c.port = none ∧ c.state = .expired ∧ c.main = 0))
    ∧ (s.clock.state = .running → s.clock.possession = 1 → 2 < s.clock.main → s.clock.horn = none →
      ∃ t, exec .possessionExpiry s = .next t ∧ t.clock.state = .running ∧ t.clock.possession = 0 ∧ 0 < t.clock.main
        ∧ t.clock.horn = some (s.clock.now + 1 + BitVec.ofNat 64 s.clock.hornLength)
        ∧ t.captures.counter = (if 65535 ≤ s.captures.counter then 1 else s.captures.counter + 1)
        ∧ (s.captures.held = [] → ∃ c, t.captures.held = [(0, c)] ∧ c.source = .possessionExpiry ∧ c.possession = 0))
    ∧ (s.clock.horn = some (s.clock.now + 1) → (s.clock.state ≠ .running ∨ 2 < s.clock.main ∧ s.clock.possession ≠ 1) →
      ∃ t, exec .hornEnd s = .next t ∧ t.clock.horn = none ∧ t.clock.state = s.clock.state ∧ t.captures = s.captures))
  ∧ ∀ (s : State),
    ((∀ w, s.clock.lastWhistle = some w → 20 ≤ (s.clock.now - w).toNat) →
      ∃ t, exec .whistle s = .next t
        ∧ t.clock = { s.clock with
            lastWhistle := some s.clock.now
            state := if s.clock.whistleStop = true ∧ s.clock.state = .running then .stopped else s.clock.state }
        ∧ t.captures.counter = (if 65535 ≤ s.captures.counter then 1 else s.captures.counter + 1)
        ∧ (s.captures.held = [] → t.captures.held
            = [(0, { number := t.captures.counter, source := .whistle, port := none, frame := s.comp.frame, ms := s.clock.now,
                     main := s.clock.main, possession := s.clock.possession, state := t.clock.state, period := s.clock.period })])
        ∧ Only [.clock, .captures] s t)
    ∧ (∀ w, s.clock.lastWhistle = some w → (s.clock.now - w).toNat < 20 → Leads .whistle s s [] untouched (fun _ => True))

/-- HELD_ENTRY_LAPSE and SILENCE_TIMEOUT (R40, R41, R99, R158, R198, R199): at the ms step that reaches the hold limit a Held entry leaves the queue;
a port whose silence timer reaches its timeout is Silent, is no longer Withdrawn, and its waiting claims go. That the first command brings about its
ms step, and that the second changes nothing before its time, are the model's choices (log 5), as is the ms step that the timer counts in (log 6). -/
def Obligations.TimeoutsAct : Prop :=
  (∀ (e : Entry) (s : State), e ∈ s.messages.held → 0 < s.messages.settings.holdLimit →
    s.messages.settings.holdLimit * 1000 ≤ (s.clock.now + 1 - e.submitted).toNat →
    ∃ t, exec (.heldEntryLapse e.submitter e.tag) s = .next t ∧ e ∉ t.messages.held ∧ t.clock.now = s.clock.now + 1
      ∧ ∀ x ∈ s.messages.held, (s.clock.now + 1 - x.submitted).toNat < s.messages.settings.holdLimit * 1000 → x ∈ t.messages.held)
  ∧ (∀ (p : PortId) (s : State), (s.port p).silent = false → (s.port p).timeout ≠ 0 → (s.port p).timeout ≤ (s.port p).silentTimer →
    ∃ t, exec (.silenceTimeout p) s = .next t ∧ (t.port p).silent = true ∧ (t.port p).withdrawn = false
      ∧ (t.monitor (monSilent p)).condition = true ∧ (∀ d ∈ (t.port p).requests, d.isWithdraw = false)
      ∧ (∀ r, (t.claims r).waiting = (s.claims r).waiting.filter (fun w => !decide (w.claimant = .port p))
          ∧ (t.claims r).holder = (s.claims r).holder.map
              (fun h => if h.claimant = .port p then { h with mark := some .dropRelease } else h))
      ∧ (∀ b, s.rotation.build = some b → b.owner = p → t.rotation.build = none)
      ∧ (t.clock.unsupervised = true ↔ s.clock.unsupervised = true ∨ (s.port p).role = .scoring ∧ s.clock.state = .running)
      ∧ t.messages = s.messages)
  ∧ (∀ (p : PortId) (s : State), ((s.port p).silent = true ∨ (s.port p).timeout = 0 ∨ (s.port p).silentTimer < (s.port p).timeout) →
    Leads (.silenceTimeout p) s s [] untouched (fun _ => True))

/-! ### Asset memory operations -/

/-- PAGE_PROGRAM_START and PAGE_PROGRAM_END (R174, R176, R178, R179, R181, R182): a program that waited starts on an idle memory with no mark pending;
a content page that ends well holds what the buffer held, and the Complete mark makes the asset Complete and closes the upload; one that fails retires
the record and closes the upload, with UploadFailed to the owner and to the director port, once where they are one port, and to the director port
alone where the owner was lost; one that ends well after its owner was lost aborts the upload. The deferred request that still waits is answered with
the fields its rule gives; that the answer of a GlyphSet's UploadBegin reports the advance widths stored, also when none was clamped, as 64 and the
glyph codes that store it, is read from R197 (DEDUCED, log 13). What a failed program leaves in the page is a free value (log 23). That a waiting
program starts so, also when its owner was lost meanwhile, is read from R174 (DEDUCED, logs 24 and 25). The ms from which a program started between
two ms steps counts is the model's choice (log 46). -/
def Obligations.PageProgramsEnd : Prop :=
  ∀ (u : Upload) (since : Ms) (s : State), s.assets.upload = some u →
    let answered := fun (t : State) (o : ResultCode) (adjusted : Bool) (fields : List Atom) =>
      ∀ q code, (s.port u.owner).requests = [.upload q code] →
        (t.port u.owner).requests = []
          ∧ (t.port u.owner).newest = some { seq := q, code := code, outcome := o, adjusted := adjusted,
                                             noticesLost := (s.port u.owner).noticesLost, fields := fields, counted := true, deferred := true }
    (∀ j, u.job = some j → s.assets.op = none → s.assets.retireList = [] →
      Leads .pageProgramStart s s [.assets] untouched (fun t =>
        t.assets = { s.assets with op := some { kind := .program j, since := s.clock.now } }))
    ∧ (∀ h, s.assets.op = some { kind := .program .header, since := since } → u.orphan = false → s.assets.copyOf u.first = .header h →
      ∃ t, exec (.pageProgramEnd true) s = .next t ∧ t.assets.op = none ∧ t.assets.upload = some { u with job := none }
        ∧ keyGet u.first t.assets.nor = some (.header h) ∧ Only [.assets] s t
        ∧ answered t .done u.adjusted ([nat u.first, nat u.count] ++ (if h.kind = .glyphSet then
              nat 64 :: textAtoms ((List.range 256).filter (fun c => decide (h.widths.getD c 0 = 64))) else [])))
    ∧ (∀ n, s.assets.op = some { kind := .program (.page n), since := since } → u.orphan = false → AssetLaw s →
      ∃ t, exec (.pageProgramEnd true) s = .next t ∧ t.assets.op = none
        ∧ t.assets.upload = some { u with job := none, committed := u.committed + 1 } ∧ t.assets.buffer = []
        ∧ (keyGet n t.assets.nor).getD (.content []) = .content s.assets.buffer
        ∧ (∀ a, a ≠ n → keyGet a t.assets.nor = keyGet a s.assets.nor) ∧ Only [.assets] s t
        ∧ answered t .done false [nat n, nat (u.committed + 1)])
    ∧ (∀ h, s.assets.op = some { kind := .program .completeMark, since := since } → u.orphan = false →
      keyGet u.first s.assets.nor = some (.header h) →
      ∃ t, exec (.pageProgramEnd true) s = .next t ∧ t.assets.op = none ∧ t.assets.upload = none ∧ t.assets.buffer = []
        ∧ keyGet u.first t.assets.nor = some (.header { h with complete := true })
        ∧ (∀ e ∈ t.assets.records, e.first = u.first → e.state = .complete) ∧ Only [.assets] s t
        ∧ answered t .done false [nat u.id, nat u.first, nat u.count])
    ∧ (∀ j, s.assets.op = some { kind := .program j, since := since } →
      ∃ t, exec (.pageProgramEnd false) s = .next t ∧ t.assets.op = none ∧ t.assets.upload = none ∧ t.assets.buffer = []
        ∧ t.assets.retireList = s.assets.retireList ∧ (∀ e ∈ t.assets.records, e.first = u.first → e.state = .retired)
        ∧ t.assets.copies = s.assets.copies.filter (fun e => decide (e.1 < u.first ∨ u.first + u.count ≤ e.1))
        ∧ t.free = s.free + 1 ∧ answered t .failed false [] ∧ Only [.assets, .free] s t
        ∧ (let told := if u.orphan = true ∨ u.owner = s.director then [s.director] else [u.owner, s.director]
           let failed : Notice := { kind := .uploadFailed, fields := nat u.id :: (match j with
             | .header => [.named 0, nat u.first]
             | .page n => [.named 1, nat n]
             | .completeMark => [.named 2, nat u.first]) }
           (∀ n, n ≠ u.owner ∨ (s.port n).requests = [] → t.port n = startFrame (noted told failed n (s.port n)))
             ∧ ∀ q code, (s.port u.owner).requests = [.upload q code] →
                 t.port u.owner = startFrame
                   (noted told failed u.owner (answerDeferred q code (refusal .failed) { (s.port u.owner) with requests := [] }))))
    ∧ (∀ j, s.assets.op = some { kind := .program j, since := since } → u.orphan = true →
      ∃ t, exec (.pageProgramEnd true) s = .next t ∧ t.assets.op = none ∧ t.assets.upload = none ∧ t.assets.buffer = []
        ∧ t.assets.retireList = s.assets.retireList ++ [u.first] ∧ (∀ e ∈ t.assets.records, e.first = u.first → e.state = .retired)
        ∧ t.assets.copies = s.assets.copies.filter (fun e => decide (e.1 < u.first ∨ u.first + u.count ≤ e.1))
        ∧ Only [.assets] s t
        ∧ (∀ n, n ≠ u.owner ∨ (s.port n).requests = [] → t.port n = startFrame (s.port n))
        ∧ (∀ n, j = .page n → answered t .done false [nat n, nat (u.committed + 1)])
        ∧ (∀ h, j = .completeMark → keyGet u.first s.assets.nor = some (.header h) →
            keyGet u.first t.assets.nor = some (.header { h with complete := true })
              ∧ answered t .done false [nat u.id, nat u.first, nat u.count])
        ∧ (∀ h, j = .header → s.assets.copyOf u.first = .header h → keyGet u.first t.assets.nor = some (.header h)
            ∧ answered t .done u.adjusted ([nat u.first, nat u.count] ++ (if h.kind = .glyphSet then
                nat 64 :: textAtoms ((List.range 256).filter (fun c => decide (h.widths.getD c 0 = 64))) else []))))

/-- MARK_PROGRAM_START, MARK_PROGRAM_END, RECLAIM_BLOCK_JUDGE and BLOCK_ERASE_END (R174, R184, R185): the mark at the head of the retire list is
programmed and leaves the list, with MarkFailed where it failed; a reclaim erases a block that qualifies and passes one that does not; an erase that
ends well frees the block, and one that fails makes its pages Dirty, with ReclaimFailed to the port that asked and to the director port, once where
they are one (the model's choice, log 51). With the last block the reclaim ends, and the port that asked gets its deferred answer, if its request
still waits: the blocks erased, the erases failed, the pages freed and the ids removed, 252 at most (DEDUCED, log 28), in the order of the records
(the model's choice, log 28). OPERATION_TIME_LIMIT (R174): past 20 ms for a program and 4,000 ms for an erase the operation in flight ends as the
memory's own report of an error would end it; before the limit of the operation in flight, and with none, nothing changes. That a limit counts the
ms steps of the timebase since the operation's start is the model's choice (log 6), as is the ms of a start between two ms steps (log 46); one block
judged a command is DEDUCED (log 24); what a failed erase leaves is a free value (log 23). -/
def Obligations.MarksAndErasesEnd : Prop :=
  (∀ (since : Ms) (s : State),
    (∀ first rest, s.assets.op = none → s.assets.retireList = first :: rest →
      Leads .markProgramStart s s [.assets] untouched (fun t =>
        t.assets = { s.assets with op := some { kind := .mark first, since := s.clock.now } }))
    ∧ (∀ first rest, s.assets.op = some { kind := .mark first, since := since } → s.assets.retireList = first :: rest →
      (∀ h, keyGet first s.assets.nor = some (.header h) →
        Leads (.markProgramEnd true) s s [.assets] untouched (fun t =>
          t.assets.op = none ∧ t.assets.retireList = rest ∧ keyGet first t.assets.nor = some (.header { h with retired := true })
          ∧ ∀ a, a ≠ first → keyGet a t.assets.nor = keyGet a s.assets.nor))
      ∧ (∀ e, s.assets.records.find? (fun x => decide (x.first = first)) = some e →
        Leads (.markProgramEnd false) s s [.assets] (noted [s.director] { kind := .markFailed, fields := [nat e.id, nat first] })
          (fun t => t.assets = { s.assets with op := none, retireList := rest })))
    ∧ (∀ x, s.assets.reclaim = some x → s.assets.op = none → s.assets.retireList = [] →
      (s.assets.qualifies x.next = true →
        Leads .reclaimBlockJudge s s [.assets] untouched (fun t =>
          t.assets = { s.assets with
            op := some { kind := .erase x.next, since := s.clock.now }, reclaim := some { x with next := x.next + 1 } }))
      ∧ (s.assets.qualifies x.next = false → x.next + 1 < 1024 →
        Leads .reclaimBlockJudge s s [.assets] untouched (fun t =>
          t.assets = { s.assets with reclaim := some { x with next := x.next + 1 } })))
    ∧ (∀ b x, s.assets.op = some { kind := .erase b, since := since } → s.assets.reclaim = some x → x.next < 1024 → AssetLaw s →
      Leads (.blockEraseEnd true) s s [.assets] untouched (fun t =>
        t.assets.op = none ∧ (∀ n, n / 16 = b → keyGet n t.assets.nor = none ∧ keyGet n t.assets.pageMap = none)
        ∧ (∀ n, n / 16 ≠ b → keyGet n t.assets.nor = keyGet n s.assets.nor)
        ∧ (∀ n, n / 16 ≠ b → (keyGet n t.assets.pageMap).isSome = (keyGet n s.assets.pageMap).isSome)
        ∧ t.assets.records = s.assets.records.filter (fun e => !(decide (e.first / 16 = b) && decide (e.state = .retired)))
        ∧ ∃ y, t.assets.reclaim = some y ∧ y.next = x.next ∧ y.erased = x.erased + 1 ∧ y.failed = x.failed
            ∧ y.freed = x.freed + (s.assets.pageMap.filter (fun e => decide (e.1 / 16 = b))).length)))
  ∧ (∀ (x : Reclaim) (since : Ms) (s : State), s.assets.reclaim = some x →
    let gone := fun (b : Nat) => s.assets.records.filter (fun e => decide (e.first / 16 = b) && decide (e.state = .retired))
    let pages := fun (b : Nat) => (s.assets.pageMap.filter (fun e => decide (e.1 / 16 = b))).length
    let told := if x.asker = s.director then [s.director] else [x.asker, s.director]
    let failed := fun (b : Nat) => ({ kind := .reclaimFailed, fields := [nat b] } : Notice)
    let answered := fun (erased failed freed : Nat) (ids : List Nat) (first : PortId → Port → Port) (t : State) =>
      ((s.port x.asker).requests = [] → PortsBecome first s t)
        ∧ ∀ q, (s.port x.asker).requests = [.reclaim q] →
            PortsBecome (thenPorts first (onPort x.asker (fun y =>
              answerDeferred q 53 (doneWith ([nat erased, nat failed, nat freed] ++ listAtoms (fun n => [nat n]) (ids.take 252)))
                { y with requests := [] }))) s t
    (s.assets.op = none → s.assets.retireList = [] → s.assets.qualifies x.next = false → x.next + 1 = 1024 →
      ∃ t, exec .reclaimBlockJudge s = .next t ∧ t.assets = { s.assets with reclaim := none } ∧ Only [.assets] s t
        ∧ answered x.erased x.failed x.freed x.removed untouched t)
    ∧ (∀ b, s.assets.op = some { kind := .erase b, since := since } → x.next = 1024 →
      (∃ t, exec (.blockEraseEnd true) s = .next t ∧ t.assets.op = none ∧ t.assets.reclaim = none ∧ Only [.assets] s t
        ∧ answered (x.erased + 1) x.failed (x.freed + pages b) (x.removed ++ (gone b).map (fun e => e.id)) untouched t)
      ∧ ∃ t, exec (.blockEraseEnd false) s = .next t ∧ t.assets.op = none ∧ t.assets.reclaim = none ∧ Only [.assets, .free] s t
        ∧ answered x.erased (x.failed + 1) x.freed (x.removed ++ (gone b).map (fun e => e.id)) (noted told (failed b)) t)
    ∧ (∀ b, s.assets.op = some { kind := .erase b, since := since } → x.next < 1024 →
      Leads (.blockEraseEnd false) s s [.assets, .free] (noted told (failed b)) (fun t =>
        t.assets.op = none ∧ (∀ n, n / 16 = b → keyGet n t.assets.pageMap = some .dirty) ∧ t.free = s.free + 16
        ∧ t.assets.records = s.assets.records.filter (fun e => !(decide (e.first / 16 = b) && decide (e.state = .retired)))
        ∧ t.assets.reclaim = some { x with failed := x.failed + 1, removed := x.removed ++ (gone b).map (fun e => e.id) })))
  ∧ (∀ (since : Ms) (s : State),
    (∀ j u, s.assets.op = some { kind := .program j, since := since } → s.assets.upload = some u → 20 ≤ (s.clock.now - since).toNat →
      ∃ t, exec .operationTimeLimit s = .next t ∧ exec (.pageProgramEnd false) s = .next t ∧ t.assets.op = none ∧ t.assets.upload = none)
    ∧ (∀ first, s.assets.op = some { kind := .mark first, since := since } → 20 ≤ (s.clock.now - since).toNat →
      ∃ t, exec .operationTimeLimit s = .next t ∧ exec (.markProgramEnd false) s = .next t ∧ t.assets.op = none)
    ∧ (∀ b x, s.assets.op = some { kind := .erase b, since := since } → s.assets.reclaim = some x → 4000 ≤ (s.clock.now - since).toNat →
      ∃ t, exec .operationTimeLimit s = .next t ∧ exec (.blockEraseEnd false) s = .next t ∧ t.assets.op = none
        ∧ t.free = s.free + 16 ∧ ∀ n, n / 16 = b → keyGet n t.assets.pageMap = some .dirty)
    ∧ ((∀ o, s.assets.op = some o → (s.clock.now - o.since).toNat < (match o.kind with
          | .program _ => 20
          | .mark _ => 20
          | .erase _ => 4000)) →
      Leads .operationTimeLimit s s [] untouched (fun _ => True)))

/-! ### The control link -/

/-- TX_FRAME_END (R189, R195): the line is free, and the transmitter takes the oldest answer, or else the oldest notice with the number of the
notice counter, which rises; with neither the line is idle. A notice queued while sixteen wait costs the oldest and sets NoticesLost; otherwise it
joins the end (R196). -/
def Obligations.TransmitterAndNoticeQueue : Prop :=
  (∀ (p : PortId) (x : Port) (s : State), s.port p = x → (∀ n, n ≠ p → startFrame (s.port n) = s.port n) →
    ∃ t, exec (.txFrameEnd p) s = .next t ∧ Only [] s t ∧ (∀ n, n ≠ p → t.port n = s.port n)
      ∧ (∀ a rest, x.answers = a :: rest → t.port p = { x with answers := rest, line := some (.answer a) })
      ∧ (∀ y rest, x.answers = [] → x.notices = y :: rest →
          t.port p = { x with notices := rest, line := some (.notice y x.noticeCounter), noticeCounter := x.noticeCounter + 1 })
      ∧ (x.answers = [] → x.notices = [] → t.port p = { x with line := none }))
  ∧ (∀ (p : PortId) (y : Notice) (s : State),
    ((s.port p).notices.length < 16 →
      (notify p y s).port p = { (s.port p) with notices := (s.port p).notices ++ [y] })
    ∧ (∀ old rest, (s.port p).notices = old :: rest → rest.length = 15 →
      (notify p y s).port p = { (s.port p) with notices := rest ++ [y], noticesLost := true })
    ∧ ∀ n, n ≠ p → (notify p y s).port n = s.port n)

/-- The checks of a request before its block (R191, R193): with eight answers waiting the frame is dropped; four outstanding make it Busy, before
Starting, before NotPermitted; in each case nothing reaches a block. The rights are those of the table of roles (R193). -/
def Obligations.RequestsAreCheckedInOrder : Prop :=
  (∀ (i : Instr) (p : PortId) (q : Byte) (code : Nat) (l : List Atom) (s : State), wireOf i = some (p, q, code, l) →
    (8 ≤ (s.port p).answers.length → Leads i s (frameArrives p s) [] untouched (fun _ => True))
    ∧ ((s.port p).answers.length < 8 →
      ∀ o, (4 ≤ (s.port p).outstanding ∧ code ≠ 58 ∧ o = ResultCode.busy
          ∨ ((s.port p).outstanding < 4 ∨ code = 58) ∧ s.assets.scanned = false ∧ code ≠ 59 ∧ o = .starting
          ∨ ((s.port p).outstanding < 4 ∨ code = 58) ∧ (s.assets.scanned = true ∨ code = 59) ∧ hasRight (s.port p).role code = false
              ∧ o = .notPermitted) →
      Leads i s (frameArrives p s) [] (onPort p (answerTo q code false (refusal o))) (fun _ => True)))
  ∧ (∀ code : Nat,
    (hasRight .director code = true ↔ (1 ≤ code ∧ code ≤ 59 ∧ code ≠ 36))
    ∧ (hasRight .scoring code = true ↔ (27 ≤ code ∧ code ≤ 38 ∨ code = 58 ∨ code = 59))
    ∧ (hasRight .replay code = true ↔ (code = 5 ∨ 22 ≤ code ∧ code ≤ 26 ∨ code = 37 ∨ code = 38 ∨ code = 58 ∨ code = 59))
    ∧ (hasRight .sponsor code = true ↔ (code = 5 ∨ 22 ≤ code ∧ code ≤ 26 ∨ 39 ≤ code ∧ code ≤ 54 ∨ code = 58 ∨ code = 59))
    ∧ (hasRight .messages code = true ↔ (54 ≤ code ∧ code ≤ 59))
    ∧ (hasRight .general code = true ↔ (code = 58 ∨ code = 59)))

/-- Encoding and reading agree: a request that fits the wire, laid out field by field as a master sends it, is read back as itself
(R190, R193). Field codes and groups, the counted bytes of UploadLoad and the code of All in SetLinkMode are the model's choices (logs 7, 11 and
31). -/
def Obligations.RequestPayloadsReadBack : Prop :=
  ∀ (i : Instr) (p : PortId) (q : Byte) (code : Nat) (l : List Atom), i.wf = true → wireOf i = some (p, q, code, l) →
    readPayload p q code (l.flatMap Atom.bytes) = some i

/-- RX_FRAME of a request's whole frame is that request (R189 to R191, R193): the receiver that hunts for a delimiter finds the frame, its CRC
agrees, and the part does what the request's command does. That a command of the table stands for the arrival of its frame is the model's choice
(log 2), as are the forms of fields the manual gives none (logs 7, 11 and 31). A payload has at most 1,024 bytes (R189); of the requests that fit
the forms of R190 an UploadBegin with a list of advance widths alone can be longer, and no frame carries it then (log 11). -/
def Obligations.ReceivedFramesAreTheirRequests : Prop :=
  ∀ (i : Instr) (p : PortId) (q : Byte) (code : Nat) (l : List Atom) (s : State), i.wf = true → wireOf i = some (p, q, code, l) →
    (l.flatMap Atom.bytes).length ≤ 1024 → (s.port p).rx = [] →
    exec (.rxFrame p (requestFrame q code (l.flatMap Atom.bytes))) s = exec i s ∧ ∃ t, exec i s = .next t

/-- RX_FRAME of a damaged frame and RX_BYTE_GAP (R191): a frame whose CRC does not match, or whose length field exceeds 1,024, is discarded whole,
and a gap discards what was received; nothing else changes, the silence timer included. -/
def Obligations.DamagedFramesAreDiscarded : Prop :=
  ∀ (p : PortId) (s : State),
    (∀ (q kind code : Byte) (payload crc : List Byte), (s.port p).rx = [] → payload.length ≤ 1024 → crc.length = 2 →
      crc ≠ bytesOf 2 (crc16 ([q, kind, code] ++ bytesOf 2 payload.length ++ payload)).toNat →
      Leads (.rxFrame p (0xA5#8 :: ([q, kind, code] ++ bytesOf 2 payload.length ++ payload) ++ crc)) s s [] untouched (fun _ => True))
    ∧ (∀ (q kind code hi lo : Byte), (s.port p).rx = [] → 1024 < hi.toNat * 256 + lo.toNat →
      Leads (.rxFrame p [0xA5#8, q, kind, code, hi, lo]) s s [] untouched (fun _ => True))
    ∧ Leads (.rxByteGap p) s s [] (onPort p (fun x => { x with rx := [] })) (fun _ => True)

/-! ### Laws every step keeps -/

/-- The Region Table's law, the fixed regions', and those of wait lists and claim sets hold after every step (R1, R4, R7, R20, R23); and a step that
gives a region a new holder, or a new last change, finds the region's dwell passed since the last (R33). -/
def Obligations.RegionsAndClaimsKeepTheirLaws : Prop :=
  ∀ s t : State, step s = .next t →
    (RegionLaw s → FixedLaw s → RegionLaw t ∧ FixedLaw t) ∧ (WaitLaw s → ClaimSetLaw s → WaitLaw t ∧ ClaimSetLaw t)
      ∧ ∀ r g, s.region r = some g →
          (∀ c, (t.claims r).holder = some c → (∀ h, (s.claims r).holder = some h → c.same h = false) →
            t.region r = some { g with lastChange := some t.comp.frame }
              ∧ ∀ f, g.lastChange = some f → g.dwell ≤ (t.comp.frame - f).toNat)
          ∧ (∀ x f, t.region r = some x → x.lastChange = some f → g.lastChange ≠ some f →
            f = t.comp.frame ∧ ∀ f0, g.lastChange = some f0 → g.dwell ≤ (f - f0).toNat)

/-- The clock and the score stay within their ranges, a Running clock has time left and an Expired one has none, and the Capture Slots keep
their law, after every step (R83, R84, R95, R100, R101, R109, R114); and a clock that is Running before and after a step has gained time only by a
ClockAdjust or by a mark beyond the window, which steps it (R83). The bytes of one RX_FRAME may carry several frames: there some byte ends the frame
of such a request, taken while the clock runs, or the clock does not run after some of the bytes, having been stopped by a frame among them. -/
def Obligations.ClockScoreAndCapturesKeepTheirLaws : Prop :=
  ∀ s t : State, step s = .next t → (ClockLaw s → ScoreLaw s → ClockLaw t ∧ ScoreLaw t) ∧ (CaptureLaw s → CaptureLaw t)
    ∧ (s.clock.state = .running → t.clock.state = .running → s.clock.main < t.clock.main →
        ∃ i rest, s.pending = i :: rest
          ∧ ((∃ p q delta, i = .clockAdjust p q delta) ∨ (∃ p q mark, i = .clockMark p q mark ∧ s.clock.window < t.clock.main - s.clock.main)
            ∨ ∃ p pre b post, i = .rxFrame p (pre ++ b :: post)
                ∧ ∃ u, u = rxBytes p pre { s with pending := rest }
                  ∧ (u.clock.state ≠ .running
                    ∨ ∃ f, judgeBytes ((u.port p).rx ++ [b]) = .valid f ∧ f.kind = 1
                        ∧ ((∃ delta, readPayload p f.seq f.code.toNat f.payload = some (.clockAdjust p f.seq delta))
                          ∨ ∃ mark, readPayload p f.seq f.code.toNat f.payload = some (.clockMark p f.seq mark)
                              ∧ u.clock.window < min 5999999 mark - u.clock.main))))

/-- Every port keeps the law of its queues and the roles theirs; conditions follow what they report, and latched flags their settings; after
every step (R40, R46, R59, R79, R99, R191, R192, R194, R196, R199). -/
def Obligations.PortsAndMonitorsKeepTheirLaws : Prop :=
  ∀ s t : State, step s = .next t →
    (PortLaw s → RoleLaw s → PortLaw t ∧ RoleLaw t) ∧ (MonitorLaw s → LatchLaw s → MonitorLaw t ∧ LatchLaw t)

/-- The Rotation Engine and the Message Engine keep their laws after every step (R117, R119, R120, R128, R138, R151 to R153). -/
def Obligations.EnginesKeepTheirLaws : Prop :=
  ∀ s t : State, step s = .next t → (RotationLaw s → RotationLaw t) ∧ (MessageLaw s → MessageLaw t)

/-- The memories keep their canonical form, and the operations under way stay inside them, after every step (R169, R174, R175, R184). -/
def Obligations.MemoriesKeepTheirForm : Prop := ∀ s t : State, AssetLaw s → step s = .next t → AssetLaw t

/-- The page map and the directory keep their law after every step: every page of an asset is one record's, no two records share one, and no erase
touches a page of a Writing or Complete asset (R169, R171); and so does the law of references: every asset referred to by a live claim, a spot or a
region's glyph set is Complete (R173). -/
def Obligations.DirectoryAndReferencesKeepTheirLaws : Prop :=
  ∀ s t : State, AssetLaw s → DirectoryLaw s → step s = .next t → DirectoryLaw t ∧ (ReferenceLaw s → ReferenceLaw t)

/-- The part right after reset meets every law. `State.reset` is the part with DIRSEL 0, RATESEL high and an erased asset memory, which the manual
leaves open (DESIGN CHOICE, log 1), and with nothing in progress (log 36). -/
def Obligations.ResetMeetsEveryLaw : Prop :=
  RegionLaw .reset ∧ FixedLaw .reset ∧ WaitLaw .reset ∧ ClaimSetLaw .reset ∧ ClockLaw .reset ∧ ScoreLaw .reset ∧ CaptureLaw .reset
    ∧ PortLaw .reset ∧ RoleLaw .reset ∧ MonitorLaw .reset ∧ LatchLaw .reset ∧ RotationLaw .reset ∧ MessageLaw .reset ∧ AssetLaw .reset
    ∧ DirectoryLaw .reset ∧ ReferenceLaw .reset
end

