-- ==== Sys2Proof/Laws/Memory.lean ====
section
/-! SUPPORT. The keyed lists that hold asset memory, show memory, the page buffer and the page map: what one element of them reads after
an operation, and that every operation keeps their canonical form. -/

namespace Sys2Proof.Machine

/-! ### Lists in rising key order -/

variable {α : Type}

/-- The canonical form says that every key is below every later one. -/
theorem keysRising_iff (l : List (Nat × α)) : keysRising l = true ↔ l.Pairwise (fun a b => a.1 < b.1) := by
  induction l with
  | nil => simp [keysRising]
  | cons a rest ih =>
    cases rest with
    | nil => simp [keysRising]
    | cons b rest =>
      rw [keysRising, Bool.and_eq_true, ih, decide_eq_true_iff, List.pairwise_cons (a := a)]
      refine ⟨fun ⟨hab, h⟩ => ⟨fun x hx => ?_, h⟩, fun ⟨ha, h⟩ => ⟨ha b (by simp), h⟩⟩
      rcases List.mem_cons.mp hx with rfl | hx
      · exact hab
      · exact lt_trans hab ((List.pairwise_cons.mp h).1 x hx)

/-- A key set and read. -/
theorem keyGet_keySet (j k : Nat) (v : α) (l : List (Nat × α)) : keyGet j (keySet k v l) = if j = k then some v else keyGet j l := by
  induction l with
  | nil => simp [keySet, keyGet, eq_comm]
  | cons a rest ih =>
    obtain ⟨i, w⟩ := a
    unfold keySet
    split
    · simp only [keyGet, eq_comm (a := j)]
    · split
      · next h =>
        subst h
        simp only [keyGet]
        split <;> split <;> first | rfl | omega
      · simp only [keyGet]
        rw [ih]
        split <;> split <;> first | rfl | omega

/-- A key the canonical form rules out reads as absent. -/
theorem keyGet_of_lt (k : Nat) (l : List (Nat × α)) (h : ∀ e ∈ l, k < e.1) : keyGet k l = none := by
  induction l with
  | nil => rfl
  | cons a rest ih =>
    have := h a (by simp)
    rw [keyGet, if_neg (by omega), ih (fun e he => h e (by simp [he]))]

/-- A key dropped and read. -/
theorem keyGet_keyDrop (j k : Nat) (l : List (Nat × α)) (h : keysRising l = true) :
    keyGet j (keyDrop k l) = if j = k then none else keyGet j l := by
  rw [keysRising_iff] at h
  induction l with
  | nil => simp [keyDrop, keyGet]
  | cons a rest ih =>
    obtain ⟨i, w⟩ := a
    obtain ⟨ha, hr⟩ := List.pairwise_cons.mp h
    unfold keyDrop
    split
    · next hi =>
      subst hi
      by_cases hj : j = i
      · subst hj; simpa using keyGet_of_lt _ _ ha
      · simp [keyGet, hj, Ne.symm hj]
    · next hi =>
      by_cases hj : i = j
      · subst hj; simp [keyGet, hi]
      · simp [keyGet, hj, ih hr]

theorem mem_keySet (k : Nat) (v : α) (l : List (Nat × α)) (e : Nat × α) (h : e ∈ keySet k v l) : e = (k, v) ∨ e ∈ l := by
  induction l with
  | nil => simpa [keySet] using h
  | cons a rest ih =>
    unfold keySet at h
    split at h
    · simpa using h
    · split at h
      · rcases List.mem_cons.mp h with h | h
        · exact .inl h
        · exact .inr (by simp [h])
      · rcases List.mem_cons.mp h with h | h
        · exact .inr (by simp [h])
        · exact (ih h).imp id (fun h => by simp [h])

theorem keyDrop_sublist (k : Nat) (l : List (Nat × α)) : (keyDrop k l).Sublist l := by
  induction l with
  | nil => exact .slnil
  | cons a rest ih =>
    unfold keyDrop
    split
    · exact List.sublist_cons_self _ _
    · exact ih.cons_cons _

/-- Setting a key keeps the keys rising. -/
theorem keysRising_keySet (k : Nat) (v : α) (l : List (Nat × α)) (h : keysRising l = true) : keysRising (keySet k v l) = true := by
  rw [keysRising_iff] at *
  induction l with
  | nil => simp [keySet]
  | cons a rest ih =>
    obtain ⟨ha, hr⟩ := List.pairwise_cons.mp h
    unfold keySet
    split
    · next hk =>
      refine List.pairwise_cons.mpr ⟨fun x hx => ?_, h⟩
      rcases List.mem_cons.mp hx with rfl | hx
      · exact hk
      · exact lt_trans hk (ha x hx)
    · split
      · next hk =>
        subst hk
        exact List.pairwise_cons.mpr ⟨ha, hr⟩
      · refine List.pairwise_cons.mpr ⟨fun x hx => ?_, ih hr⟩
        rcases mem_keySet k v rest x hx with rfl | hx
        · show a.1 < k; omega
        · exact ha x hx

/-- A part of a list in rising key order is in that order. -/
theorem keysRising_sublist {l m : List (Nat × α)} (hs : l.Sublist m) (h : keysRising m = true) : keysRising l = true := by
  rw [keysRising_iff] at *
  exact h.sublist hs

theorem keysRising_keyDrop (k : Nat) (l : List (Nat × α)) (h : keysRising l = true) : keysRising (keyDrop k l) = true :=
  keysRising_sublist (keyDrop_sublist k l) h

theorem keysRising_filter (p : Nat × α → Bool) (l : List (Nat × α)) (h : keysRising l = true) : keysRising (l.filter p) = true :=
  keysRising_sublist List.filter_sublist h

/-- A pass that sets one key after another keeps the keys rising, and every other property each setting keeps. -/
theorem foldl_keySet_keeps (P : Nat × α → Prop) (es : List (Nat × α)) (l : List (Nat × α)) (hr : keysRising l = true)
    (hl : ∀ e ∈ l, P e) (hes : ∀ e ∈ es, P e) :
    keysRising (es.foldl (fun m e => keySet e.1 e.2 m) l) = true ∧ ∀ e ∈ es.foldl (fun m e => keySet e.1 e.2 m) l, P e := by
  induction es generalizing l with
  | nil => exact ⟨hr, hl⟩
  | cons a rest ih =>
    refine ih (keySet a.1 a.2 l) (keysRising_keySet _ _ _ hr) (fun e he => ?_) (fun e he => hes e (by simp [he]))
    rcases mem_keySet _ _ _ _ he with rfl | he
    · exact hes a (by simp)
    · exact hl e he

/-! ### The bytes of a page -/

/-- A byte written and read (R177). -/
theorem cellRead_cellWrite (cells : List Host.Cell) (a c : Nat) (b : Byte) (h : keysRising cells = true) :
    cellRead (cellWrite cells a b) c = if c = a then b else cellRead cells c := by
  unfold cellRead cellWrite
  split
  · next hb => rw [keyGet_keyDrop _ _ _ h]; split <;> simp [hb]
  · rw [keyGet_keySet]; split <;> simp

/-- Writing a byte of a page keeps its bytes in canonical form (R175, R177). -/
theorem cellsWf_cellWrite (cells : List Host.Cell) (a : Nat) (b : Byte) (ha : a < 4096) (h : cellsWf cells = true) :
    cellsWf (cellWrite cells a b) = true := by
  simp only [cellsWf, Bool.and_eq_true, List.all_eq_true, decide_eq_true_eq] at *
  unfold cellWrite
  split
  · exact ⟨keysRising_keyDrop _ _ h.1, fun e he => h.2 e ((keyDrop_sublist a cells).subset he)⟩
  · next hb =>
    refine ⟨keysRising_keySet _ _ _ h.1, fun e he => ?_⟩
    rcases mem_keySet _ _ _ _ he with rfl | he
    · exact ⟨ha, hb⟩
    · exact h.2 e he

/-- Writing bytes inside a page keeps its bytes in canonical form (R177). -/
theorem cellsWf_cellsWrite (data : List Byte) (cells : List Host.Cell) (a : Nat) (ha : a + data.length ≤ 4096) (h : cellsWf cells = true) :
    cellsWf (cellsWrite cells a data) = true := by
  induction data generalizing cells a with
  | nil => exact h
  | cons b bs ih =>
    simp only [List.length_cons] at ha
    exact ih _ _ (by omega) (cellsWf_cellWrite cells a b (by omega) h)

/-! ### Pages -/

theorem pagesWf_iff (l : List (Nat × Page)) :
    pagesWf l = true ↔ keysRising l = true ∧ ∀ e ∈ l, e.1 < pageTotal ∧ e.2.wf = true := by
  simp [pagesWf, List.all_eq_true]

theorem pagesWf_keySet (p : Nat) (x : Page) (l : List (Nat × Page)) (hp : p < pageTotal) (hx : x.wf = true) (h : pagesWf l = true) :
    pagesWf (keySet p x l) = true := by
  rw [pagesWf_iff] at *
  refine ⟨keysRising_keySet _ _ _ h.1, fun e he => ?_⟩
  rcases mem_keySet _ _ _ _ he with rfl | he
  · exact ⟨hp, hx⟩
  · exact h.2 e he

theorem pagesWf_sublist {l m : List (Nat × Page)} (hs : l.Sublist m) (h : pagesWf m = true) : pagesWf l = true := by
  rw [pagesWf_iff] at *
  exact ⟨keysRising_sublist hs h.1, fun e he => h.2 e (hs.subset he)⟩

/-- Programming a page of asset memory with bytes keeps its form; a page of no programmed byte is not listed. -/
theorem pagesWf_norSet_content (p : Nat) (cells : List Host.Cell) (nor : List (Nat × Page)) (hp : p < pageTotal)
    (hc : cellsWf cells = true) (h : pagesWf nor = true) : pagesWf (norSet p (.content cells) nor) = true := by
  unfold norSet
  split
  · exact pagesWf_sublist (keyDrop_sublist p nor) h
  · next hne =>
    refine pagesWf_keySet p _ nor hp ?_ h
    simp only [Page.wf, hc, Bool.true_and]
    cases cells with
    | nil => exact absurd rfl hne
    | cons a l => rfl

/-- Programming a header page keeps the form of asset memory (R176). -/
theorem pagesWf_norSet_header (p : Nat) (x : Header) (nor : List (Nat × Page)) (hp : p < pageTotal) (h : pagesWf nor = true) :
    pagesWf (norSet p (.header x) nor) = true := by
  unfold norSet
  rw [if_neg (by simp)]
  exact pagesWf_keySet p _ nor hp rfl h

theorem lt_of_keyGet {nor : List (Nat × Page)} {p : Nat} {x : Page} (hg : keyGet p nor = some x) (h : pagesWf nor = true) :
    p < pageTotal := by
  rw [pagesWf_iff] at h
  obtain ⟨-, h⟩ := h
  induction nor with
  | nil => simp [keyGet] at hg
  | cons a rest ih =>
    unfold keyGet at hg
    split at hg
    · next hk => exact hk ▸ (h a (by simp)).1
    · exact ih hg (fun e he => h e (by simp [he]))

/-- Programming a state mark keeps the form of asset memory (R171, R174). -/
theorem pagesWf_norMark (p : Nat) (f : Header → Header) (nor : List (Nat × Page)) (h : pagesWf nor = true) :
    pagesWf (norMark p f nor) = true := by
  unfold norMark
  split
  · next x hx =>
    refine pagesWf_keySet p _ nor ?_ rfl h
    unfold norReading at hx
    split at hx
    · cases hx
    · next y hy => exact lt_of_keyGet hy h
  · exact h
  · exact h

/-- What a failed page program leaves keeps the form of asset memory (R181). -/
theorem pagesWf_programSpoil (j : Job) (u : Upload) (k : Nat) (nor : List (Nat × Page)) (hj : j.target u < pageTotal)
    (h : pagesWf nor = true) : pagesWf (programSpoil j u k nor) = true := by
  cases j with
  | header => exact pagesWf_keySet _ _ _ hj rfl h
  | page n => exact pagesWf_keySet _ _ _ hj rfl h
  | completeMark => exact pagesWf_norMark _ _ _ h

/-- What a failed block erase leaves keeps the form of asset memory (R185). -/
theorem pagesWf_eraseSpoil (b k : Nat) (nor : List (Nat × Page)) (hb : b < blockTotal) (h : pagesWf nor = true) :
    pagesWf (eraseSpoil b k nor) = true := by
  unfold eraseSpoil
  have hb' : b < 1024 := hb
  have key : ∀ (ns : List Nat), (∀ n ∈ ns, n < 16) → ∀ l : List (Nat × Page), pagesWf l = true →
      pagesWf (ns.foldl (fun l n => keySet (16 * b + n) (.unknown (k + n)) l) l) = true := by
    intro ns
    induction ns with
    | nil => intro _ l hl; exact hl
    | cons n rest ih =>
      intro hn l hl
      have hn16 := hn n (by simp)
      exact ih (fun m hm => hn m (by simp [hm])) _ (pagesWf_keySet _ _ _ (by unfold pageTotal; omega) rfl hl)
  exact key _ (fun n hn => by simpa using hn) nor h

/-- A good block erase keeps the form of asset memory (R184). -/
theorem pagesWf_filter (q : Nat × Page → Bool) (l : List (Nat × Page)) (h : pagesWf l = true) : pagesWf (l.filter q) = true :=
  pagesWf_sublist List.filter_sublist h

/-- Discarding the copies of a run keeps the form of show memory (R172). -/
theorem pagesWf_discardCopies (first count : Nat) (l : List (Nat × Page)) (h : pagesWf l = true) :
    pagesWf (discardCopies first count l) = true := pagesWf_filter _ _ h

/-! ### The page map -/

/-- A run joined to an asset keeps the page map in rising order and inside the memory (R176). -/
theorem allocate_keeps (first count : Nat) (map : List (Nat × PageStanding)) (hf : first + count ≤ pageTotal) (hr : keysRising map = true)
    (hm : ∀ e ∈ map, e.1 < pageTotal) :
    keysRising (allocate first count map) = true ∧ ∀ e ∈ allocate first count map, e.1 < pageTotal :=
  foldl_keySet_keeps (fun e => e.1 < pageTotal) _ map hr hm (fun e he => by
    simp only [runPart, List.mem_map, List.mem_range] at he
    obtain ⟨n, hn, rfl⟩ := he
    show first + n < pageTotal
    omega)

/-- A run found for an asset lies inside the memory (R176). -/
theorem firstFitFrom_fits (count : Nat) (map : List (Nat × PageStanding)) (at_ first : Nat)
    (hm : ∀ e ∈ map, e.1 < pageTotal) (h : firstFitFrom count at_ map = some first) : first + count ≤ pageTotal := by
  induction map generalizing at_ with
  | nil =>
    unfold firstFitFrom at h
    split at h <;> simp at h
    subst h; assumption
  | cons a rest ih =>
    unfold firstFitFrom at h
    split at h
    · have := hm a (by simp)
      simp at h; subst h; omega
    · exact ih _ (fun e he => hm e (by simp [he])) h

/-- The memories right after reset are in canonical form. -/
theorem memory_wf_reset : Memory.wf State.reset.assets = true := by decide

end Sys2Proof.Machine
end

