-- ==== Sys2Proof/Laws/State.lean ====
section
/-! SUPPORT. What each update of the state leaves as it was: one lemma for each field of `State` and each update of Machine/Ops.lean
and of the blocks, so that no later proof unfolds a record update. -/

namespace Sys2Proof.Machine

/-! ### setPort -/

@[simp] theorem setPort_pending (s : State) (p : PortId) (x : Port) : (s.setPort p x).pending = s.pending := rfl
@[simp] theorem setPort_dirsel (s : State) (p : PortId) (x : Port) : (s.setPort p x).dirsel = s.dirsel := rfl
@[simp] theorem setPort_ratesel (s : State) (p : PortId) (x : Port) : (s.setPort p x).ratesel = s.ratesel := rfl
@[simp] theorem setPort_canvas (s : State) (p : PortId) (x : Port) : (s.setPort p x).canvas = s.canvas := rfl
@[simp] theorem setPort_arbiter (s : State) (p : PortId) (x : Port) : (s.setPort p x).arbiter = s.arbiter := rfl
@[simp] theorem setPort_comp (s : State) (p : PortId) (x : Port) : (s.setPort p x).comp = s.comp := rfl
@[simp] theorem setPort_inputs (s : State) (p : PortId) (x : Port) : (s.setPort p x).inputs = s.inputs := rfl
@[simp] theorem setPort_monitors (s : State) (p : PortId) (x : Port) : (s.setPort p x).monitors = s.monitors := rfl
@[simp] theorem setPort_links (s : State) (p : PortId) (x : Port) : (s.setPort p x).links = s.links := rfl
@[simp] theorem setPort_clock (s : State) (p : PortId) (x : Port) : (s.setPort p x).clock = s.clock := rfl
@[simp] theorem setPort_score (s : State) (p : PortId) (x : Port) : (s.setPort p x).score = s.score := rfl
@[simp] theorem setPort_captures (s : State) (p : PortId) (x : Port) : (s.setPort p x).captures = s.captures := rfl
@[simp] theorem setPort_rotation (s : State) (p : PortId) (x : Port) : (s.setPort p x).rotation = s.rotation := rfl
@[simp] theorem setPort_exposure (s : State) (p : PortId) (x : Port) : (s.setPort p x).exposure = s.exposure := rfl
@[simp] theorem setPort_messages (s : State) (p : PortId) (x : Port) : (s.setPort p x).messages = s.messages := rfl
@[simp] theorem setPort_assets (s : State) (p : PortId) (x : Port) : (s.setPort p x).assets = s.assets := rfl
@[simp] theorem setPort_free (s : State) (p : PortId) (x : Port) : (s.setPort p x).free = s.free := rfl

/-! ### setLink -/

@[simp] theorem setLink_pending (s : State) (k : LinkId) (x : Link) : (s.setLink k x).pending = s.pending := rfl
@[simp] theorem setLink_dirsel (s : State) (k : LinkId) (x : Link) : (s.setLink k x).dirsel = s.dirsel := rfl
@[simp] theorem setLink_ratesel (s : State) (k : LinkId) (x : Link) : (s.setLink k x).ratesel = s.ratesel := rfl
@[simp] theorem setLink_canvas (s : State) (k : LinkId) (x : Link) : (s.setLink k x).canvas = s.canvas := rfl
@[simp] theorem setLink_arbiter (s : State) (k : LinkId) (x : Link) : (s.setLink k x).arbiter = s.arbiter := rfl
@[simp] theorem setLink_comp (s : State) (k : LinkId) (x : Link) : (s.setLink k x).comp = s.comp := rfl
@[simp] theorem setLink_inputs (s : State) (k : LinkId) (x : Link) : (s.setLink k x).inputs = s.inputs := rfl
@[simp] theorem setLink_monitors (s : State) (k : LinkId) (x : Link) : (s.setLink k x).monitors = s.monitors := rfl
@[simp] theorem setLink_clock (s : State) (k : LinkId) (x : Link) : (s.setLink k x).clock = s.clock := rfl
@[simp] theorem setLink_score (s : State) (k : LinkId) (x : Link) : (s.setLink k x).score = s.score := rfl
@[simp] theorem setLink_captures (s : State) (k : LinkId) (x : Link) : (s.setLink k x).captures = s.captures := rfl
@[simp] theorem setLink_rotation (s : State) (k : LinkId) (x : Link) : (s.setLink k x).rotation = s.rotation := rfl
@[simp] theorem setLink_exposure (s : State) (k : LinkId) (x : Link) : (s.setLink k x).exposure = s.exposure := rfl
@[simp] theorem setLink_messages (s : State) (k : LinkId) (x : Link) : (s.setLink k x).messages = s.messages := rfl
@[simp] theorem setLink_assets (s : State) (k : LinkId) (x : Link) : (s.setLink k x).assets = s.assets := rfl
@[simp] theorem setLink_ports (s : State) (k : LinkId) (x : Link) : (s.setLink k x).ports = s.ports := rfl
@[simp] theorem setLink_free (s : State) (k : LinkId) (x : Link) : (s.setLink k x).free = s.free := rfl

/-! ### setRegion -/

@[simp] theorem setRegion_pending (s : State) (r : RegionId) (x : Option Region) : (s.setRegion r x).pending = s.pending := rfl
@[simp] theorem setRegion_dirsel (s : State) (r : RegionId) (x : Option Region) : (s.setRegion r x).dirsel = s.dirsel := rfl
@[simp] theorem setRegion_ratesel (s : State) (r : RegionId) (x : Option Region) : (s.setRegion r x).ratesel = s.ratesel := rfl
@[simp] theorem setRegion_arbiter (s : State) (r : RegionId) (x : Option Region) : (s.setRegion r x).arbiter = s.arbiter := rfl
@[simp] theorem setRegion_comp (s : State) (r : RegionId) (x : Option Region) : (s.setRegion r x).comp = s.comp := rfl
@[simp] theorem setRegion_inputs (s : State) (r : RegionId) (x : Option Region) : (s.setRegion r x).inputs = s.inputs := rfl
@[simp] theorem setRegion_monitors (s : State) (r : RegionId) (x : Option Region) : (s.setRegion r x).monitors = s.monitors := rfl
@[simp] theorem setRegion_links (s : State) (r : RegionId) (x : Option Region) : (s.setRegion r x).links = s.links := rfl
@[simp] theorem setRegion_clock (s : State) (r : RegionId) (x : Option Region) : (s.setRegion r x).clock = s.clock := rfl
@[simp] theorem setRegion_score (s : State) (r : RegionId) (x : Option Region) : (s.setRegion r x).score = s.score := rfl
@[simp] theorem setRegion_captures (s : State) (r : RegionId) (x : Option Region) : (s.setRegion r x).captures = s.captures := rfl
@[simp] theorem setRegion_rotation (s : State) (r : RegionId) (x : Option Region) : (s.setRegion r x).rotation = s.rotation := rfl
@[simp] theorem setRegion_exposure (s : State) (r : RegionId) (x : Option Region) : (s.setRegion r x).exposure = s.exposure := rfl
@[simp] theorem setRegion_messages (s : State) (r : RegionId) (x : Option Region) : (s.setRegion r x).messages = s.messages := rfl
@[simp] theorem setRegion_assets (s : State) (r : RegionId) (x : Option Region) : (s.setRegion r x).assets = s.assets := rfl
@[simp] theorem setRegion_ports (s : State) (r : RegionId) (x : Option Region) : (s.setRegion r x).ports = s.ports := rfl
@[simp] theorem setRegion_free (s : State) (r : RegionId) (x : Option Region) : (s.setRegion r x).free = s.free := rfl

/-! ### setClaims -/

@[simp] theorem setClaims_pending (s : State) (r : RegionId) (x : RegionClaims) : (s.setClaims r x).pending = s.pending := rfl
@[simp] theorem setClaims_dirsel (s : State) (r : RegionId) (x : RegionClaims) : (s.setClaims r x).dirsel = s.dirsel := rfl
@[simp] theorem setClaims_ratesel (s : State) (r : RegionId) (x : RegionClaims) : (s.setClaims r x).ratesel = s.ratesel := rfl
@[simp] theorem setClaims_canvas (s : State) (r : RegionId) (x : RegionClaims) : (s.setClaims r x).canvas = s.canvas := rfl
@[simp] theorem setClaims_comp (s : State) (r : RegionId) (x : RegionClaims) : (s.setClaims r x).comp = s.comp := rfl
@[simp] theorem setClaims_inputs (s : State) (r : RegionId) (x : RegionClaims) : (s.setClaims r x).inputs = s.inputs := rfl
@[simp] theorem setClaims_monitors (s : State) (r : RegionId) (x : RegionClaims) : (s.setClaims r x).monitors = s.monitors := rfl
@[simp] theorem setClaims_links (s : State) (r : RegionId) (x : RegionClaims) : (s.setClaims r x).links = s.links := rfl
@[simp] theorem setClaims_clock (s : State) (r : RegionId) (x : RegionClaims) : (s.setClaims r x).clock = s.clock := rfl
@[simp] theorem setClaims_score (s : State) (r : RegionId) (x : RegionClaims) : (s.setClaims r x).score = s.score := rfl
@[simp] theorem setClaims_captures (s : State) (r : RegionId) (x : RegionClaims) : (s.setClaims r x).captures = s.captures := rfl
@[simp] theorem setClaims_rotation (s : State) (r : RegionId) (x : RegionClaims) : (s.setClaims r x).rotation = s.rotation := rfl
@[simp] theorem setClaims_exposure (s : State) (r : RegionId) (x : RegionClaims) : (s.setClaims r x).exposure = s.exposure := rfl
@[simp] theorem setClaims_messages (s : State) (r : RegionId) (x : RegionClaims) : (s.setClaims r x).messages = s.messages := rfl
@[simp] theorem setClaims_assets (s : State) (r : RegionId) (x : RegionClaims) : (s.setClaims r x).assets = s.assets := rfl
@[simp] theorem setClaims_ports (s : State) (r : RegionId) (x : RegionClaims) : (s.setClaims r x).ports = s.ports := rfl
@[simp] theorem setClaims_free (s : State) (r : RegionId) (x : RegionClaims) : (s.setClaims r x).free = s.free := rfl

/-! ### setMonitor -/

@[simp] theorem setMonitor_pending (s : State) (m : MonitorId) (x : Monitor) : (s.setMonitor m x).pending = s.pending := rfl
@[simp] theorem setMonitor_dirsel (s : State) (m : MonitorId) (x : Monitor) : (s.setMonitor m x).dirsel = s.dirsel := rfl
@[simp] theorem setMonitor_ratesel (s : State) (m : MonitorId) (x : Monitor) : (s.setMonitor m x).ratesel = s.ratesel := rfl
@[simp] theorem setMonitor_canvas (s : State) (m : MonitorId) (x : Monitor) : (s.setMonitor m x).canvas = s.canvas := rfl
@[simp] theorem setMonitor_arbiter (s : State) (m : MonitorId) (x : Monitor) : (s.setMonitor m x).arbiter = s.arbiter := rfl
@[simp] theorem setMonitor_comp (s : State) (m : MonitorId) (x : Monitor) : (s.setMonitor m x).comp = s.comp := rfl
@[simp] theorem setMonitor_inputs (s : State) (m : MonitorId) (x : Monitor) : (s.setMonitor m x).inputs = s.inputs := rfl
@[simp] theorem setMonitor_links (s : State) (m : MonitorId) (x : Monitor) : (s.setMonitor m x).links = s.links := rfl
@[simp] theorem setMonitor_clock (s : State) (m : MonitorId) (x : Monitor) : (s.setMonitor m x).clock = s.clock := rfl
@[simp] theorem setMonitor_score (s : State) (m : MonitorId) (x : Monitor) : (s.setMonitor m x).score = s.score := rfl
@[simp] theorem setMonitor_captures (s : State) (m : MonitorId) (x : Monitor) : (s.setMonitor m x).captures = s.captures := rfl
@[simp] theorem setMonitor_rotation (s : State) (m : MonitorId) (x : Monitor) : (s.setMonitor m x).rotation = s.rotation := rfl
@[simp] theorem setMonitor_exposure (s : State) (m : MonitorId) (x : Monitor) : (s.setMonitor m x).exposure = s.exposure := rfl
@[simp] theorem setMonitor_messages (s : State) (m : MonitorId) (x : Monitor) : (s.setMonitor m x).messages = s.messages := rfl
@[simp] theorem setMonitor_assets (s : State) (m : MonitorId) (x : Monitor) : (s.setMonitor m x).assets = s.assets := rfl
@[simp] theorem setMonitor_ports (s : State) (m : MonitorId) (x : Monitor) : (s.setMonitor m x).ports = s.ports := rfl
@[simp] theorem setMonitor_free (s : State) (m : MonitorId) (x : Monitor) : (s.setMonitor m x).free = s.free := rfl

/-! ### setInput -/

@[simp] theorem setInput_pending (s : State) (i : InputId) (x : PictureInput) : (s.setInput i x).pending = s.pending := by cases i <;> rfl
@[simp] theorem setInput_dirsel (s : State) (i : InputId) (x : PictureInput) : (s.setInput i x).dirsel = s.dirsel := by cases i <;> rfl
@[simp] theorem setInput_ratesel (s : State) (i : InputId) (x : PictureInput) : (s.setInput i x).ratesel = s.ratesel := by cases i <;> rfl
@[simp] theorem setInput_canvas (s : State) (i : InputId) (x : PictureInput) : (s.setInput i x).canvas = s.canvas := by cases i <;> rfl
@[simp] theorem setInput_arbiter (s : State) (i : InputId) (x : PictureInput) : (s.setInput i x).arbiter = s.arbiter := by cases i <;> rfl
@[simp] theorem setInput_comp (s : State) (i : InputId) (x : PictureInput) : (s.setInput i x).comp = s.comp := by cases i <;> rfl
@[simp] theorem setInput_monitors (s : State) (i : InputId) (x : PictureInput) : (s.setInput i x).monitors = s.monitors := by cases i <;> rfl
@[simp] theorem setInput_links (s : State) (i : InputId) (x : PictureInput) : (s.setInput i x).links = s.links := by cases i <;> rfl
@[simp] theorem setInput_clock (s : State) (i : InputId) (x : PictureInput) : (s.setInput i x).clock = s.clock := by cases i <;> rfl
@[simp] theorem setInput_score (s : State) (i : InputId) (x : PictureInput) : (s.setInput i x).score = s.score := by cases i <;> rfl
@[simp] theorem setInput_captures (s : State) (i : InputId) (x : PictureInput) : (s.setInput i x).captures = s.captures := by cases i <;> rfl
@[simp] theorem setInput_rotation (s : State) (i : InputId) (x : PictureInput) : (s.setInput i x).rotation = s.rotation := by cases i <;> rfl
@[simp] theorem setInput_exposure (s : State) (i : InputId) (x : PictureInput) : (s.setInput i x).exposure = s.exposure := by cases i <;> rfl
@[simp] theorem setInput_messages (s : State) (i : InputId) (x : PictureInput) : (s.setInput i x).messages = s.messages := by cases i <;> rfl
@[simp] theorem setInput_assets (s : State) (i : InputId) (x : PictureInput) : (s.setInput i x).assets = s.assets := by cases i <;> rfl
@[simp] theorem setInput_ports (s : State) (i : InputId) (x : PictureInput) : (s.setInput i x).ports = s.ports := by cases i <;> rfl
@[simp] theorem setInput_free (s : State) (i : InputId) (x : PictureInput) : (s.setInput i x).free = s.free := by cases i <;> rfl

/-! ### setCurrentSpot -/

@[simp] theorem setCurrentSpot_pending (s : State) (r : RegionId) (x : Option CurrentSpot) : (s.setCurrentSpot r x).pending = s.pending := rfl
@[simp] theorem setCurrentSpot_dirsel (s : State) (r : RegionId) (x : Option CurrentSpot) : (s.setCurrentSpot r x).dirsel = s.dirsel := rfl
@[simp] theorem setCurrentSpot_ratesel (s : State) (r : RegionId) (x : Option CurrentSpot) : (s.setCurrentSpot r x).ratesel = s.ratesel := rfl
@[simp] theorem setCurrentSpot_canvas (s : State) (r : RegionId) (x : Option CurrentSpot) : (s.setCurrentSpot r x).canvas = s.canvas := rfl
@[simp] theorem setCurrentSpot_arbiter (s : State) (r : RegionId) (x : Option CurrentSpot) : (s.setCurrentSpot r x).arbiter = s.arbiter := rfl
@[simp] theorem setCurrentSpot_comp (s : State) (r : RegionId) (x : Option CurrentSpot) : (s.setCurrentSpot r x).comp = s.comp := rfl
@[simp] theorem setCurrentSpot_inputs (s : State) (r : RegionId) (x : Option CurrentSpot) : (s.setCurrentSpot r x).inputs = s.inputs := rfl
@[simp] theorem setCurrentSpot_monitors (s : State) (r : RegionId) (x : Option CurrentSpot) : (s.setCurrentSpot r x).monitors = s.monitors := rfl
@[simp] theorem setCurrentSpot_links (s : State) (r : RegionId) (x : Option CurrentSpot) : (s.setCurrentSpot r x).links = s.links := rfl
@[simp] theorem setCurrentSpot_clock (s : State) (r : RegionId) (x : Option CurrentSpot) : (s.setCurrentSpot r x).clock = s.clock := rfl
@[simp] theorem setCurrentSpot_score (s : State) (r : RegionId) (x : Option CurrentSpot) : (s.setCurrentSpot r x).score = s.score := rfl
@[simp] theorem setCurrentSpot_captures (s : State) (r : RegionId) (x : Option CurrentSpot) : (s.setCurrentSpot r x).captures = s.captures := rfl
@[simp] theorem setCurrentSpot_exposure (s : State) (r : RegionId) (x : Option CurrentSpot) : (s.setCurrentSpot r x).exposure = s.exposure := rfl
@[simp] theorem setCurrentSpot_messages (s : State) (r : RegionId) (x : Option CurrentSpot) : (s.setCurrentSpot r x).messages = s.messages := rfl
@[simp] theorem setCurrentSpot_assets (s : State) (r : RegionId) (x : Option CurrentSpot) : (s.setCurrentSpot r x).assets = s.assets := rfl
@[simp] theorem setCurrentSpot_ports (s : State) (r : RegionId) (x : Option CurrentSpot) : (s.setCurrentSpot r x).ports = s.ports := rfl
@[simp] theorem setCurrentSpot_free (s : State) (r : RegionId) (x : Option CurrentSpot) : (s.setCurrentSpot r x).free = s.free := rfl

/-! ### setPass -/

@[simp] theorem setPass_pending (s : State) (r : RegionId) (x : Option Pass) : (s.setPass r x).pending = s.pending := rfl
@[simp] theorem setPass_dirsel (s : State) (r : RegionId) (x : Option Pass) : (s.setPass r x).dirsel = s.dirsel := rfl
@[simp] theorem setPass_ratesel (s : State) (r : RegionId) (x : Option Pass) : (s.setPass r x).ratesel = s.ratesel := rfl
@[simp] theorem setPass_canvas (s : State) (r : RegionId) (x : Option Pass) : (s.setPass r x).canvas = s.canvas := rfl
@[simp] theorem setPass_arbiter (s : State) (r : RegionId) (x : Option Pass) : (s.setPass r x).arbiter = s.arbiter := rfl
@[simp] theorem setPass_comp (s : State) (r : RegionId) (x : Option Pass) : (s.setPass r x).comp = s.comp := rfl
@[simp] theorem setPass_inputs (s : State) (r : RegionId) (x : Option Pass) : (s.setPass r x).inputs = s.inputs := rfl
@[simp] theorem setPass_monitors (s : State) (r : RegionId) (x : Option Pass) : (s.setPass r x).monitors = s.monitors := rfl
@[simp] theorem setPass_links (s : State) (r : RegionId) (x : Option Pass) : (s.setPass r x).links = s.links := rfl
@[simp] theorem setPass_clock (s : State) (r : RegionId) (x : Option Pass) : (s.setPass r x).clock = s.clock := rfl
@[simp] theorem setPass_score (s : State) (r : RegionId) (x : Option Pass) : (s.setPass r x).score = s.score := rfl
@[simp] theorem setPass_captures (s : State) (r : RegionId) (x : Option Pass) : (s.setPass r x).captures = s.captures := rfl
@[simp] theorem setPass_rotation (s : State) (r : RegionId) (x : Option Pass) : (s.setPass r x).rotation = s.rotation := rfl
@[simp] theorem setPass_exposure (s : State) (r : RegionId) (x : Option Pass) : (s.setPass r x).exposure = s.exposure := rfl
@[simp] theorem setPass_assets (s : State) (r : RegionId) (x : Option Pass) : (s.setPass r x).assets = s.assets := rfl
@[simp] theorem setPass_ports (s : State) (r : RegionId) (x : Option Pass) : (s.setPass r x).ports = s.ports := rfl
@[simp] theorem setPass_free (s : State) (r : RegionId) (x : Option Pass) : (s.setPass r x).free = s.free := rfl

/-! ### setOffering -/

@[simp] theorem setOffering_pending (s : State) (e : Engine) (r : RegionId) (b : Bool) : (s.setOffering e r b).pending = s.pending := by cases e <;> rfl
@[simp] theorem setOffering_dirsel (s : State) (e : Engine) (r : RegionId) (b : Bool) : (s.setOffering e r b).dirsel = s.dirsel := by cases e <;> rfl
@[simp] theorem setOffering_ratesel (s : State) (e : Engine) (r : RegionId) (b : Bool) : (s.setOffering e r b).ratesel = s.ratesel := by cases e <;> rfl
@[simp] theorem setOffering_canvas (s : State) (e : Engine) (r : RegionId) (b : Bool) : (s.setOffering e r b).canvas = s.canvas := by cases e <;> rfl
@[simp] theorem setOffering_arbiter (s : State) (e : Engine) (r : RegionId) (b : Bool) : (s.setOffering e r b).arbiter = s.arbiter := by cases e <;> rfl
@[simp] theorem setOffering_comp (s : State) (e : Engine) (r : RegionId) (b : Bool) : (s.setOffering e r b).comp = s.comp := by cases e <;> rfl
@[simp] theorem setOffering_inputs (s : State) (e : Engine) (r : RegionId) (b : Bool) : (s.setOffering e r b).inputs = s.inputs := by cases e <;> rfl
@[simp] theorem setOffering_monitors (s : State) (e : Engine) (r : RegionId) (b : Bool) : (s.setOffering e r b).monitors = s.monitors := by cases e <;> rfl
@[simp] theorem setOffering_links (s : State) (e : Engine) (r : RegionId) (b : Bool) : (s.setOffering e r b).links = s.links := by cases e <;> rfl
@[simp] theorem setOffering_clock (s : State) (e : Engine) (r : RegionId) (b : Bool) : (s.setOffering e r b).clock = s.clock := by cases e <;> rfl
@[simp] theorem setOffering_score (s : State) (e : Engine) (r : RegionId) (b : Bool) : (s.setOffering e r b).score = s.score := by cases e <;> rfl
@[simp] theorem setOffering_captures (s : State) (e : Engine) (r : RegionId) (b : Bool) : (s.setOffering e r b).captures = s.captures := by cases e <;> rfl
@[simp] theorem setOffering_exposure (s : State) (e : Engine) (r : RegionId) (b : Bool) : (s.setOffering e r b).exposure = s.exposure := by cases e <;> rfl
@[simp] theorem setOffering_assets (s : State) (e : Engine) (r : RegionId) (b : Bool) : (s.setOffering e r b).assets = s.assets := by cases e <;> rfl
@[simp] theorem setOffering_ports (s : State) (e : Engine) (r : RegionId) (b : Bool) : (s.setOffering e r b).ports = s.ports := by cases e <;> rfl
@[simp] theorem setOffering_free (s : State) (e : Engine) (r : RegionId) (b : Bool) : (s.setOffering e r b).free = s.free := by cases e <;> rfl

/-! ### withPending -/

@[simp] theorem withPending_dirsel (s : State) (l : List Instr) : (s.withPending l).dirsel = s.dirsel := rfl
@[simp] theorem withPending_ratesel (s : State) (l : List Instr) : (s.withPending l).ratesel = s.ratesel := rfl
@[simp] theorem withPending_canvas (s : State) (l : List Instr) : (s.withPending l).canvas = s.canvas := rfl
@[simp] theorem withPending_arbiter (s : State) (l : List Instr) : (s.withPending l).arbiter = s.arbiter := rfl
@[simp] theorem withPending_comp (s : State) (l : List Instr) : (s.withPending l).comp = s.comp := rfl
@[simp] theorem withPending_inputs (s : State) (l : List Instr) : (s.withPending l).inputs = s.inputs := rfl
@[simp] theorem withPending_monitors (s : State) (l : List Instr) : (s.withPending l).monitors = s.monitors := rfl
@[simp] theorem withPending_links (s : State) (l : List Instr) : (s.withPending l).links = s.links := rfl
@[simp] theorem withPending_clock (s : State) (l : List Instr) : (s.withPending l).clock = s.clock := rfl
@[simp] theorem withPending_score (s : State) (l : List Instr) : (s.withPending l).score = s.score := rfl
@[simp] theorem withPending_captures (s : State) (l : List Instr) : (s.withPending l).captures = s.captures := rfl
@[simp] theorem withPending_rotation (s : State) (l : List Instr) : (s.withPending l).rotation = s.rotation := rfl
@[simp] theorem withPending_exposure (s : State) (l : List Instr) : (s.withPending l).exposure = s.exposure := rfl
@[simp] theorem withPending_messages (s : State) (l : List Instr) : (s.withPending l).messages = s.messages := rfl
@[simp] theorem withPending_assets (s : State) (l : List Instr) : (s.withPending l).assets = s.assets := rfl
@[simp] theorem withPending_ports (s : State) (l : List Instr) : (s.withPending l).ports = s.ports := rfl
@[simp] theorem withPending_free (s : State) (l : List Instr) : (s.withPending l).free = s.free := rfl

/-! ### setClock -/

@[simp] theorem setClock_pending (s : State) (k : Clock) : (setClock k s).pending = s.pending := rfl
@[simp] theorem setClock_dirsel (s : State) (k : Clock) : (setClock k s).dirsel = s.dirsel := rfl
@[simp] theorem setClock_ratesel (s : State) (k : Clock) : (setClock k s).ratesel = s.ratesel := rfl
@[simp] theorem setClock_canvas (s : State) (k : Clock) : (setClock k s).canvas = s.canvas := rfl
@[simp] theorem setClock_arbiter (s : State) (k : Clock) : (setClock k s).arbiter = s.arbiter := rfl
@[simp] theorem setClock_comp (s : State) (k : Clock) : (setClock k s).comp = s.comp := rfl
@[simp] theorem setClock_inputs (s : State) (k : Clock) : (setClock k s).inputs = s.inputs := rfl
@[simp] theorem setClock_monitors (s : State) (k : Clock) : (setClock k s).monitors = s.monitors := rfl
@[simp] theorem setClock_links (s : State) (k : Clock) : (setClock k s).links = s.links := rfl
@[simp] theorem setClock_score (s : State) (k : Clock) : (setClock k s).score = s.score := rfl
@[simp] theorem setClock_captures (s : State) (k : Clock) : (setClock k s).captures = s.captures := rfl
@[simp] theorem setClock_rotation (s : State) (k : Clock) : (setClock k s).rotation = s.rotation := rfl
@[simp] theorem setClock_exposure (s : State) (k : Clock) : (setClock k s).exposure = s.exposure := rfl
@[simp] theorem setClock_messages (s : State) (k : Clock) : (setClock k s).messages = s.messages := rfl
@[simp] theorem setClock_assets (s : State) (k : Clock) : (setClock k s).assets = s.assets := rfl
@[simp] theorem setClock_ports (s : State) (k : Clock) : (setClock k s).ports = s.ports := rfl
@[simp] theorem setClock_free (s : State) (k : Clock) : (setClock k s).free = s.free := rfl

/-! ### setCaptures -/

@[simp] theorem setCaptures_pending (s : State) (x : Captures) : (setCaptures x s).pending = s.pending := rfl
@[simp] theorem setCaptures_dirsel (s : State) (x : Captures) : (setCaptures x s).dirsel = s.dirsel := rfl
@[simp] theorem setCaptures_ratesel (s : State) (x : Captures) : (setCaptures x s).ratesel = s.ratesel := rfl
@[simp] theorem setCaptures_canvas (s : State) (x : Captures) : (setCaptures x s).canvas = s.canvas := rfl
@[simp] theorem setCaptures_arbiter (s : State) (x : Captures) : (setCaptures x s).arbiter = s.arbiter := rfl
@[simp] theorem setCaptures_comp (s : State) (x : Captures) : (setCaptures x s).comp = s.comp := rfl
@[simp] theorem setCaptures_inputs (s : State) (x : Captures) : (setCaptures x s).inputs = s.inputs := rfl
@[simp] theorem setCaptures_monitors (s : State) (x : Captures) : (setCaptures x s).monitors = s.monitors := rfl
@[simp] theorem setCaptures_links (s : State) (x : Captures) : (setCaptures x s).links = s.links := rfl
@[simp] theorem setCaptures_clock (s : State) (x : Captures) : (setCaptures x s).clock = s.clock := rfl
@[simp] theorem setCaptures_score (s : State) (x : Captures) : (setCaptures x s).score = s.score := rfl
@[simp] theorem setCaptures_rotation (s : State) (x : Captures) : (setCaptures x s).rotation = s.rotation := rfl
@[simp] theorem setCaptures_exposure (s : State) (x : Captures) : (setCaptures x s).exposure = s.exposure := rfl
@[simp] theorem setCaptures_messages (s : State) (x : Captures) : (setCaptures x s).messages = s.messages := rfl
@[simp] theorem setCaptures_assets (s : State) (x : Captures) : (setCaptures x s).assets = s.assets := rfl
@[simp] theorem setCaptures_ports (s : State) (x : Captures) : (setCaptures x s).ports = s.ports := rfl
@[simp] theorem setCaptures_free (s : State) (x : Captures) : (setCaptures x s).free = s.free := rfl

/-! ### setAssets -/

@[simp] theorem setAssets_pending (s : State) (a : Assets) : (setAssets a s).pending = s.pending := rfl
@[simp] theorem setAssets_dirsel (s : State) (a : Assets) : (setAssets a s).dirsel = s.dirsel := rfl
@[simp] theorem setAssets_ratesel (s : State) (a : Assets) : (setAssets a s).ratesel = s.ratesel := rfl
@[simp] theorem setAssets_canvas (s : State) (a : Assets) : (setAssets a s).canvas = s.canvas := rfl
@[simp] theorem setAssets_arbiter (s : State) (a : Assets) : (setAssets a s).arbiter = s.arbiter := rfl
@[simp] theorem setAssets_comp (s : State) (a : Assets) : (setAssets a s).comp = s.comp := rfl
@[simp] theorem setAssets_inputs (s : State) (a : Assets) : (setAssets a s).inputs = s.inputs := rfl
@[simp] theorem setAssets_monitors (s : State) (a : Assets) : (setAssets a s).monitors = s.monitors := rfl
@[simp] theorem setAssets_links (s : State) (a : Assets) : (setAssets a s).links = s.links := rfl
@[simp] theorem setAssets_clock (s : State) (a : Assets) : (setAssets a s).clock = s.clock := rfl
@[simp] theorem setAssets_score (s : State) (a : Assets) : (setAssets a s).score = s.score := rfl
@[simp] theorem setAssets_captures (s : State) (a : Assets) : (setAssets a s).captures = s.captures := rfl
@[simp] theorem setAssets_rotation (s : State) (a : Assets) : (setAssets a s).rotation = s.rotation := rfl
@[simp] theorem setAssets_exposure (s : State) (a : Assets) : (setAssets a s).exposure = s.exposure := rfl
@[simp] theorem setAssets_messages (s : State) (a : Assets) : (setAssets a s).messages = s.messages := rfl
@[simp] theorem setAssets_ports (s : State) (a : Assets) : (setAssets a s).ports = s.ports := rfl
@[simp] theorem setAssets_free (s : State) (a : Assets) : (setAssets a s).free = s.free := rfl

/-! ### setBuild -/

@[simp] theorem setBuild_pending (s : State) (b : Option Build) : (setBuild b s).pending = s.pending := rfl
@[simp] theorem setBuild_dirsel (s : State) (b : Option Build) : (setBuild b s).dirsel = s.dirsel := rfl
@[simp] theorem setBuild_ratesel (s : State) (b : Option Build) : (setBuild b s).ratesel = s.ratesel := rfl
@[simp] theorem setBuild_canvas (s : State) (b : Option Build) : (setBuild b s).canvas = s.canvas := rfl
@[simp] theorem setBuild_arbiter (s : State) (b : Option Build) : (setBuild b s).arbiter = s.arbiter := rfl
@[simp] theorem setBuild_comp (s : State) (b : Option Build) : (setBuild b s).comp = s.comp := rfl
@[simp] theorem setBuild_inputs (s : State) (b : Option Build) : (setBuild b s).inputs = s.inputs := rfl
@[simp] theorem setBuild_monitors (s : State) (b : Option Build) : (setBuild b s).monitors = s.monitors := rfl
@[simp] theorem setBuild_links (s : State) (b : Option Build) : (setBuild b s).links = s.links := rfl
@[simp] theorem setBuild_clock (s : State) (b : Option Build) : (setBuild b s).clock = s.clock := rfl
@[simp] theorem setBuild_score (s : State) (b : Option Build) : (setBuild b s).score = s.score := rfl
@[simp] theorem setBuild_captures (s : State) (b : Option Build) : (setBuild b s).captures = s.captures := rfl
@[simp] theorem setBuild_exposure (s : State) (b : Option Build) : (setBuild b s).exposure = s.exposure := rfl
@[simp] theorem setBuild_messages (s : State) (b : Option Build) : (setBuild b s).messages = s.messages := rfl
@[simp] theorem setBuild_assets (s : State) (b : Option Build) : (setBuild b s).assets = s.assets := rfl
@[simp] theorem setBuild_ports (s : State) (b : Option Build) : (setBuild b s).ports = s.ports := rfl
@[simp] theorem setBuild_free (s : State) (b : Option Build) : (setBuild b s).free = s.free := rfl

/-! ### setHeld -/

@[simp] theorem setHeld_pending (s : State) (l : List Entry) : (setHeld l s).pending = s.pending := rfl
@[simp] theorem setHeld_dirsel (s : State) (l : List Entry) : (setHeld l s).dirsel = s.dirsel := rfl
@[simp] theorem setHeld_ratesel (s : State) (l : List Entry) : (setHeld l s).ratesel = s.ratesel := rfl
@[simp] theorem setHeld_canvas (s : State) (l : List Entry) : (setHeld l s).canvas = s.canvas := rfl
@[simp] theorem setHeld_arbiter (s : State) (l : List Entry) : (setHeld l s).arbiter = s.arbiter := rfl
@[simp] theorem setHeld_comp (s : State) (l : List Entry) : (setHeld l s).comp = s.comp := rfl
@[simp] theorem setHeld_inputs (s : State) (l : List Entry) : (setHeld l s).inputs = s.inputs := rfl
@[simp] theorem setHeld_monitors (s : State) (l : List Entry) : (setHeld l s).monitors = s.monitors := rfl
@[simp] theorem setHeld_links (s : State) (l : List Entry) : (setHeld l s).links = s.links := rfl
@[simp] theorem setHeld_clock (s : State) (l : List Entry) : (setHeld l s).clock = s.clock := rfl
@[simp] theorem setHeld_score (s : State) (l : List Entry) : (setHeld l s).score = s.score := rfl
@[simp] theorem setHeld_captures (s : State) (l : List Entry) : (setHeld l s).captures = s.captures := rfl
@[simp] theorem setHeld_rotation (s : State) (l : List Entry) : (setHeld l s).rotation = s.rotation := rfl
@[simp] theorem setHeld_exposure (s : State) (l : List Entry) : (setHeld l s).exposure = s.exposure := rfl
@[simp] theorem setHeld_assets (s : State) (l : List Entry) : (setHeld l s).assets = s.assets := rfl
@[simp] theorem setHeld_ports (s : State) (l : List Entry) : (setHeld l s).ports = s.ports := rfl
@[simp] theorem setHeld_free (s : State) (l : List Entry) : (setHeld l s).free = s.free := rfl

/-! ### setApproved -/

@[simp] theorem setApproved_pending (s : State) (l : List Entry) : (setApproved l s).pending = s.pending := rfl
@[simp] theorem setApproved_dirsel (s : State) (l : List Entry) : (setApproved l s).dirsel = s.dirsel := rfl
@[simp] theorem setApproved_ratesel (s : State) (l : List Entry) : (setApproved l s).ratesel = s.ratesel := rfl
@[simp] theorem setApproved_canvas (s : State) (l : List Entry) : (setApproved l s).canvas = s.canvas := rfl
@[simp] theorem setApproved_arbiter (s : State) (l : List Entry) : (setApproved l s).arbiter = s.arbiter := rfl
@[simp] theorem setApproved_comp (s : State) (l : List Entry) : (setApproved l s).comp = s.comp := rfl
@[simp] theorem setApproved_inputs (s : State) (l : List Entry) : (setApproved l s).inputs = s.inputs := rfl
@[simp] theorem setApproved_monitors (s : State) (l : List Entry) : (setApproved l s).monitors = s.monitors := rfl
@[simp] theorem setApproved_links (s : State) (l : List Entry) : (setApproved l s).links = s.links := rfl
@[simp] theorem setApproved_clock (s : State) (l : List Entry) : (setApproved l s).clock = s.clock := rfl
@[simp] theorem setApproved_score (s : State) (l : List Entry) : (setApproved l s).score = s.score := rfl
@[simp] theorem setApproved_captures (s : State) (l : List Entry) : (setApproved l s).captures = s.captures := rfl
@[simp] theorem setApproved_rotation (s : State) (l : List Entry) : (setApproved l s).rotation = s.rotation := rfl
@[simp] theorem setApproved_exposure (s : State) (l : List Entry) : (setApproved l s).exposure = s.exposure := rfl
@[simp] theorem setApproved_assets (s : State) (l : List Entry) : (setApproved l s).assets = s.assets := rfl
@[simp] theorem setApproved_ports (s : State) (l : List Entry) : (setApproved l s).ports = s.ports := rfl
@[simp] theorem setApproved_free (s : State) (l : List Entry) : (setApproved l s).free = s.free := rfl

/-! ### setRx -/

@[simp] theorem setRx_pending (s : State) (p : PortId) (l : List Byte) : (setRx p l s).pending = s.pending := rfl
@[simp] theorem setRx_dirsel (s : State) (p : PortId) (l : List Byte) : (setRx p l s).dirsel = s.dirsel := rfl
@[simp] theorem setRx_ratesel (s : State) (p : PortId) (l : List Byte) : (setRx p l s).ratesel = s.ratesel := rfl
@[simp] theorem setRx_canvas (s : State) (p : PortId) (l : List Byte) : (setRx p l s).canvas = s.canvas := rfl
@[simp] theorem setRx_arbiter (s : State) (p : PortId) (l : List Byte) : (setRx p l s).arbiter = s.arbiter := rfl
@[simp] theorem setRx_comp (s : State) (p : PortId) (l : List Byte) : (setRx p l s).comp = s.comp := rfl
@[simp] theorem setRx_inputs (s : State) (p : PortId) (l : List Byte) : (setRx p l s).inputs = s.inputs := rfl
@[simp] theorem setRx_monitors (s : State) (p : PortId) (l : List Byte) : (setRx p l s).monitors = s.monitors := rfl
@[simp] theorem setRx_links (s : State) (p : PortId) (l : List Byte) : (setRx p l s).links = s.links := rfl
@[simp] theorem setRx_clock (s : State) (p : PortId) (l : List Byte) : (setRx p l s).clock = s.clock := rfl
@[simp] theorem setRx_score (s : State) (p : PortId) (l : List Byte) : (setRx p l s).score = s.score := rfl
@[simp] theorem setRx_captures (s : State) (p : PortId) (l : List Byte) : (setRx p l s).captures = s.captures := rfl
@[simp] theorem setRx_rotation (s : State) (p : PortId) (l : List Byte) : (setRx p l s).rotation = s.rotation := rfl
@[simp] theorem setRx_exposure (s : State) (p : PortId) (l : List Byte) : (setRx p l s).exposure = s.exposure := rfl
@[simp] theorem setRx_messages (s : State) (p : PortId) (l : List Byte) : (setRx p l s).messages = s.messages := rfl
@[simp] theorem setRx_assets (s : State) (p : PortId) (l : List Byte) : (setRx p l s).assets = s.assets := rfl
@[simp] theorem setRx_free (s : State) (p : PortId) (l : List Byte) : (setRx p l s).free = s.free := rfl

/-! ### notify -/

@[simp] theorem notify_pending (s : State) (p : PortId) (n : Notice) : (notify p n s).pending = s.pending := rfl
@[simp] theorem notify_dirsel (s : State) (p : PortId) (n : Notice) : (notify p n s).dirsel = s.dirsel := rfl
@[simp] theorem notify_ratesel (s : State) (p : PortId) (n : Notice) : (notify p n s).ratesel = s.ratesel := rfl
@[simp] theorem notify_canvas (s : State) (p : PortId) (n : Notice) : (notify p n s).canvas = s.canvas := rfl
@[simp] theorem notify_arbiter (s : State) (p : PortId) (n : Notice) : (notify p n s).arbiter = s.arbiter := rfl
@[simp] theorem notify_comp (s : State) (p : PortId) (n : Notice) : (notify p n s).comp = s.comp := rfl
@[simp] theorem notify_inputs (s : State) (p : PortId) (n : Notice) : (notify p n s).inputs = s.inputs := rfl
@[simp] theorem notify_monitors (s : State) (p : PortId) (n : Notice) : (notify p n s).monitors = s.monitors := rfl
@[simp] theorem notify_links (s : State) (p : PortId) (n : Notice) : (notify p n s).links = s.links := rfl
@[simp] theorem notify_clock (s : State) (p : PortId) (n : Notice) : (notify p n s).clock = s.clock := rfl
@[simp] theorem notify_score (s : State) (p : PortId) (n : Notice) : (notify p n s).score = s.score := rfl
@[simp] theorem notify_captures (s : State) (p : PortId) (n : Notice) : (notify p n s).captures = s.captures := rfl
@[simp] theorem notify_rotation (s : State) (p : PortId) (n : Notice) : (notify p n s).rotation = s.rotation := rfl
@[simp] theorem notify_exposure (s : State) (p : PortId) (n : Notice) : (notify p n s).exposure = s.exposure := rfl
@[simp] theorem notify_messages (s : State) (p : PortId) (n : Notice) : (notify p n s).messages = s.messages := rfl
@[simp] theorem notify_assets (s : State) (p : PortId) (n : Notice) : (notify p n s).assets = s.assets := rfl
@[simp] theorem notify_free (s : State) (p : PortId) (n : Notice) : (notify p n s).free = s.free := rfl

/-! ### notifyAll -/

@[simp] theorem notifyAll_pending (s : State) (ps : List PortId) (n : Notice) : (notifyAll ps n s).pending = s.pending := rfl
@[simp] theorem notifyAll_dirsel (s : State) (ps : List PortId) (n : Notice) : (notifyAll ps n s).dirsel = s.dirsel := rfl
@[simp] theorem notifyAll_ratesel (s : State) (ps : List PortId) (n : Notice) : (notifyAll ps n s).ratesel = s.ratesel := rfl
@[simp] theorem notifyAll_canvas (s : State) (ps : List PortId) (n : Notice) : (notifyAll ps n s).canvas = s.canvas := rfl
@[simp] theorem notifyAll_arbiter (s : State) (ps : List PortId) (n : Notice) : (notifyAll ps n s).arbiter = s.arbiter := rfl
@[simp] theorem notifyAll_comp (s : State) (ps : List PortId) (n : Notice) : (notifyAll ps n s).comp = s.comp := rfl
@[simp] theorem notifyAll_inputs (s : State) (ps : List PortId) (n : Notice) : (notifyAll ps n s).inputs = s.inputs := rfl
@[simp] theorem notifyAll_monitors (s : State) (ps : List PortId) (n : Notice) : (notifyAll ps n s).monitors = s.monitors := rfl
@[simp] theorem notifyAll_links (s : State) (ps : List PortId) (n : Notice) : (notifyAll ps n s).links = s.links := rfl
@[simp] theorem notifyAll_clock (s : State) (ps : List PortId) (n : Notice) : (notifyAll ps n s).clock = s.clock := rfl
@[simp] theorem notifyAll_score (s : State) (ps : List PortId) (n : Notice) : (notifyAll ps n s).score = s.score := rfl
@[simp] theorem notifyAll_captures (s : State) (ps : List PortId) (n : Notice) : (notifyAll ps n s).captures = s.captures := rfl
@[simp] theorem notifyAll_rotation (s : State) (ps : List PortId) (n : Notice) : (notifyAll ps n s).rotation = s.rotation := rfl
@[simp] theorem notifyAll_exposure (s : State) (ps : List PortId) (n : Notice) : (notifyAll ps n s).exposure = s.exposure := rfl
@[simp] theorem notifyAll_messages (s : State) (ps : List PortId) (n : Notice) : (notifyAll ps n s).messages = s.messages := rfl
@[simp] theorem notifyAll_assets (s : State) (ps : List PortId) (n : Notice) : (notifyAll ps n s).assets = s.assets := rfl
@[simp] theorem notifyAll_free (s : State) (ps : List PortId) (n : Notice) : (notifyAll ps n s).free = s.free := rfl

/-! ### sendAnswer -/

@[simp] theorem sendAnswer_pending (s : State) (p : PortId) (q : Byte) (code : Nat) (counted : Bool) (r : Reply) : (sendAnswer p q code counted r s).pending = s.pending := rfl
@[simp] theorem sendAnswer_dirsel (s : State) (p : PortId) (q : Byte) (code : Nat) (counted : Bool) (r : Reply) : (sendAnswer p q code counted r s).dirsel = s.dirsel := rfl
@[simp] theorem sendAnswer_ratesel (s : State) (p : PortId) (q : Byte) (code : Nat) (counted : Bool) (r : Reply) : (sendAnswer p q code counted r s).ratesel = s.ratesel := rfl
@[simp] theorem sendAnswer_canvas (s : State) (p : PortId) (q : Byte) (code : Nat) (counted : Bool) (r : Reply) : (sendAnswer p q code counted r s).canvas = s.canvas := rfl
@[simp] theorem sendAnswer_arbiter (s : State) (p : PortId) (q : Byte) (code : Nat) (counted : Bool) (r : Reply) : (sendAnswer p q code counted r s).arbiter = s.arbiter := rfl
@[simp] theorem sendAnswer_comp (s : State) (p : PortId) (q : Byte) (code : Nat) (counted : Bool) (r : Reply) : (sendAnswer p q code counted r s).comp = s.comp := rfl
@[simp] theorem sendAnswer_inputs (s : State) (p : PortId) (q : Byte) (code : Nat) (counted : Bool) (r : Reply) : (sendAnswer p q code counted r s).inputs = s.inputs := rfl
@[simp] theorem sendAnswer_monitors (s : State) (p : PortId) (q : Byte) (code : Nat) (counted : Bool) (r : Reply) : (sendAnswer p q code counted r s).monitors = s.monitors := rfl
@[simp] theorem sendAnswer_links (s : State) (p : PortId) (q : Byte) (code : Nat) (counted : Bool) (r : Reply) : (sendAnswer p q code counted r s).links = s.links := rfl
@[simp] theorem sendAnswer_clock (s : State) (p : PortId) (q : Byte) (code : Nat) (counted : Bool) (r : Reply) : (sendAnswer p q code counted r s).clock = s.clock := rfl
@[simp] theorem sendAnswer_score (s : State) (p : PortId) (q : Byte) (code : Nat) (counted : Bool) (r : Reply) : (sendAnswer p q code counted r s).score = s.score := rfl
@[simp] theorem sendAnswer_captures (s : State) (p : PortId) (q : Byte) (code : Nat) (counted : Bool) (r : Reply) : (sendAnswer p q code counted r s).captures = s.captures := rfl
@[simp] theorem sendAnswer_rotation (s : State) (p : PortId) (q : Byte) (code : Nat) (counted : Bool) (r : Reply) : (sendAnswer p q code counted r s).rotation = s.rotation := rfl
@[simp] theorem sendAnswer_exposure (s : State) (p : PortId) (q : Byte) (code : Nat) (counted : Bool) (r : Reply) : (sendAnswer p q code counted r s).exposure = s.exposure := rfl
@[simp] theorem sendAnswer_messages (s : State) (p : PortId) (q : Byte) (code : Nat) (counted : Bool) (r : Reply) : (sendAnswer p q code counted r s).messages = s.messages := rfl
@[simp] theorem sendAnswer_assets (s : State) (p : PortId) (q : Byte) (code : Nat) (counted : Bool) (r : Reply) : (sendAnswer p q code counted r s).assets = s.assets := rfl
@[simp] theorem sendAnswer_free (s : State) (p : PortId) (q : Byte) (code : Nat) (counted : Bool) (r : Reply) : (sendAnswer p q code counted r s).free = s.free := rfl

/-! ### mapClaims -/

@[simp] theorem mapClaims_pending (s : State) (f : RegionId → RegionClaims → RegionClaims) : (mapClaims f s).pending = s.pending := by simp only [mapClaims]
@[simp] theorem mapClaims_dirsel (s : State) (f : RegionId → RegionClaims → RegionClaims) : (mapClaims f s).dirsel = s.dirsel := by simp only [mapClaims]
@[simp] theorem mapClaims_ratesel (s : State) (f : RegionId → RegionClaims → RegionClaims) : (mapClaims f s).ratesel = s.ratesel := by simp only [mapClaims]
@[simp] theorem mapClaims_canvas (s : State) (f : RegionId → RegionClaims → RegionClaims) : (mapClaims f s).canvas = s.canvas := by simp only [mapClaims]
@[simp] theorem mapClaims_comp (s : State) (f : RegionId → RegionClaims → RegionClaims) : (mapClaims f s).comp = s.comp := by simp only [mapClaims]
@[simp] theorem mapClaims_inputs (s : State) (f : RegionId → RegionClaims → RegionClaims) : (mapClaims f s).inputs = s.inputs := by simp only [mapClaims]
@[simp] theorem mapClaims_monitors (s : State) (f : RegionId → RegionClaims → RegionClaims) : (mapClaims f s).monitors = s.monitors := by simp only [mapClaims]
@[simp] theorem mapClaims_links (s : State) (f : RegionId → RegionClaims → RegionClaims) : (mapClaims f s).links = s.links := by simp only [mapClaims]
@[simp] theorem mapClaims_clock (s : State) (f : RegionId → RegionClaims → RegionClaims) : (mapClaims f s).clock = s.clock := by simp only [mapClaims]
@[simp] theorem mapClaims_score (s : State) (f : RegionId → RegionClaims → RegionClaims) : (mapClaims f s).score = s.score := by simp only [mapClaims]
@[simp] theorem mapClaims_captures (s : State) (f : RegionId → RegionClaims → RegionClaims) : (mapClaims f s).captures = s.captures := by simp only [mapClaims]
@[simp] theorem mapClaims_rotation (s : State) (f : RegionId → RegionClaims → RegionClaims) : (mapClaims f s).rotation = s.rotation := by simp only [mapClaims]
@[simp] theorem mapClaims_exposure (s : State) (f : RegionId → RegionClaims → RegionClaims) : (mapClaims f s).exposure = s.exposure := by simp only [mapClaims]
@[simp] theorem mapClaims_messages (s : State) (f : RegionId → RegionClaims → RegionClaims) : (mapClaims f s).messages = s.messages := by simp only [mapClaims]
@[simp] theorem mapClaims_assets (s : State) (f : RegionId → RegionClaims → RegionClaims) : (mapClaims f s).assets = s.assets := by simp only [mapClaims]
@[simp] theorem mapClaims_ports (s : State) (f : RegionId → RegionClaims → RegionClaims) : (mapClaims f s).ports = s.ports := by simp only [mapClaims]
@[simp] theorem mapClaims_free (s : State) (f : RegionId → RegionClaims → RegionClaims) : (mapClaims f s).free = s.free := by simp only [mapClaims]

/-! ### countSilence -/

@[simp] theorem countSilence_pending (s : State) : (countSilence s).pending = s.pending := rfl
@[simp] theorem countSilence_dirsel (s : State) : (countSilence s).dirsel = s.dirsel := rfl
@[simp] theorem countSilence_ratesel (s : State) : (countSilence s).ratesel = s.ratesel := rfl
@[simp] theorem countSilence_canvas (s : State) : (countSilence s).canvas = s.canvas := rfl
@[simp] theorem countSilence_arbiter (s : State) : (countSilence s).arbiter = s.arbiter := rfl
@[simp] theorem countSilence_comp (s : State) : (countSilence s).comp = s.comp := rfl
@[simp] theorem countSilence_inputs (s : State) : (countSilence s).inputs = s.inputs := rfl
@[simp] theorem countSilence_monitors (s : State) : (countSilence s).monitors = s.monitors := rfl
@[simp] theorem countSilence_links (s : State) : (countSilence s).links = s.links := rfl
@[simp] theorem countSilence_clock (s : State) : (countSilence s).clock = s.clock := rfl
@[simp] theorem countSilence_score (s : State) : (countSilence s).score = s.score := rfl
@[simp] theorem countSilence_captures (s : State) : (countSilence s).captures = s.captures := rfl
@[simp] theorem countSilence_rotation (s : State) : (countSilence s).rotation = s.rotation := rfl
@[simp] theorem countSilence_exposure (s : State) : (countSilence s).exposure = s.exposure := rfl
@[simp] theorem countSilence_messages (s : State) : (countSilence s).messages = s.messages := rfl
@[simp] theorem countSilence_assets (s : State) : (countSilence s).assets = s.assets := rfl
@[simp] theorem countSilence_free (s : State) : (countSilence s).free = s.free := rfl

/-! ### pump -/

@[simp] theorem pump_pending (s : State) : (pump s).pending = s.pending := rfl
@[simp] theorem pump_dirsel (s : State) : (pump s).dirsel = s.dirsel := rfl
@[simp] theorem pump_ratesel (s : State) : (pump s).ratesel = s.ratesel := rfl
@[simp] theorem pump_canvas (s : State) : (pump s).canvas = s.canvas := rfl
@[simp] theorem pump_arbiter (s : State) : (pump s).arbiter = s.arbiter := rfl
@[simp] theorem pump_comp (s : State) : (pump s).comp = s.comp := rfl
@[simp] theorem pump_inputs (s : State) : (pump s).inputs = s.inputs := rfl
@[simp] theorem pump_monitors (s : State) : (pump s).monitors = s.monitors := rfl
@[simp] theorem pump_links (s : State) : (pump s).links = s.links := rfl
@[simp] theorem pump_clock (s : State) : (pump s).clock = s.clock := rfl
@[simp] theorem pump_score (s : State) : (pump s).score = s.score := rfl
@[simp] theorem pump_captures (s : State) : (pump s).captures = s.captures := rfl
@[simp] theorem pump_rotation (s : State) : (pump s).rotation = s.rotation := rfl
@[simp] theorem pump_exposure (s : State) : (pump s).exposure = s.exposure := rfl
@[simp] theorem pump_messages (s : State) : (pump s).messages = s.messages := rfl
@[simp] theorem pump_assets (s : State) : (pump s).assets = s.assets := rfl
@[simp] theorem pump_free (s : State) : (pump s).free = s.free := rfl

end Sys2Proof.Machine
end

