-- ==== Sys2Proof/Laws/Ops.lean ====
section
/-! SUPPORT. What each shared operation of Machine/Ops.lean does, said once: reading one element after an update of it, and what
notices, answers and the transmitters make of a port. -/

namespace Sys2Proof.Machine

/-! ### One element of a bank -/

theorem vector_get_set {α : Type} {n : Nat} (v : Vector α n) (i j : Fin n) (x : α) :
    (v.set i.val x i.isLt).get j = if j = i then x else v.get j := by
  simp only [Vector.get_eq_getElem, Vector.getElem_set, Fin.ext_iff, eq_comm]

theorem port_setPort (s : State) (p n : PortId) (x : Port) : (s.setPort p x).port n = if n = p then x else s.port n :=
  vector_get_set s.ports p n x

@[simp] theorem port_setPort_self (s : State) (p : PortId) (x : Port) : (s.setPort p x).port p = x := by simp [port_setPort]

theorem link_setLink (s : State) (k n : LinkId) (x : Link) : (s.setLink k x).link n = if n = k then x else s.link n :=
  vector_get_set s.links k n x

@[simp] theorem link_setLink_self (s : State) (k : LinkId) (x : Link) : (s.setLink k x).link k = x := by simp [link_setLink]

theorem region_setRegion (s : State) (r n : RegionId) (x : Option Region) :
    (s.setRegion r x).region n = if n = r then x else s.region n := vector_get_set s.canvas.regions r n x

@[simp] theorem region_setRegion_self (s : State) (r : RegionId) (x : Option Region) : (s.setRegion r x).region r = x := by
  simp [region_setRegion]

theorem claims_setClaims (s : State) (r n : RegionId) (x : RegionClaims) :
    (s.setClaims r x).claims n = if n = r then x else s.claims n := vector_get_set s.arbiter.claims r n x

@[simp] theorem claims_setClaims_self (s : State) (r : RegionId) (x : RegionClaims) : (s.setClaims r x).claims r = x := by
  simp [claims_setClaims]

theorem monitor_setMonitor (s : State) (m n : MonitorId) (x : Monitor) :
    (s.setMonitor m x).monitor n = if n = m then x else s.monitor n := vector_get_set s.monitors m n x

@[simp] theorem monitor_setMonitor_self (s : State) (m : MonitorId) (x : Monitor) : (s.setMonitor m x).monitor m = x := by
  simp [monitor_setMonitor]

theorem input_setInput (s : State) (i n : InputId) (x : PictureInput) : (s.setInput i x).input n = if n = i then x else s.input n := by
  cases i <;> cases n <;> rfl

@[simp] theorem input_setInput_self (s : State) (i : InputId) (x : PictureInput) : (s.setInput i x).input i = x := by
  simp [input_setInput]

theorem currentSpot_setCurrentSpot (s : State) (r n : RegionId) (x : Option CurrentSpot) :
    (s.setCurrentSpot r x).currentSpot n = if n = r then x else s.currentSpot n := vector_get_set s.rotation.current r n x

theorem pass_setPass (s : State) (r n : RegionId) (x : Option Pass) : (s.setPass r x).pass n = if n = r then x else s.pass n :=
  vector_get_set s.messages.passes r n x

theorem offering_setOffering (s : State) (e : Engine) (r n : RegionId) (b : Bool) :
    (s.setOffering e r b).offering e n = if n = r then b else s.offering e n := by
  cases e
  · exact vector_get_set s.rotation.offering r n b
  · exact vector_get_set s.messages.offering r n b

/-! ### Banks of ports -/

theorem get_updatePort (v : Vector Port 6) (p n : PortId) (f : Port → Port) :
    (updatePort v p f).get n = if n = p then f (v.get n) else v.get n := by
  unfold updatePort
  rw [vector_get_set]
  by_cases h : n = p <;> simp [h]

/-- A pass over ports that names each at most once changes those it names, each on its own. -/
theorem get_foldl_updatePort (f : PortId → Port → Port) (ps : List PortId) (hps : ps.Nodup) (v : Vector Port 6) (n : PortId) :
    (ps.foldl (fun w p => updatePort w p (f p)) v).get n = if n ∈ ps then f n (v.get n) else v.get n := by
  induction ps generalizing v with
  | nil => simp
  | cons p rest ih =>
    obtain ⟨hp, hrest⟩ := List.nodup_cons.mp hps
    rw [List.foldl_cons, ih hrest, get_updatePort]
    by_cases hn : n = p
    · subst hn; simp [hp]
    · simp [hn]

theorem mem_allPorts (p : PortId) : p ∈ allPorts := by revert p; decide

theorem allPorts_nodup : allPorts.Nodup := by decide

theorem mem_allRegions (r : RegionId) : r ∈ allRegions := by revert r; decide

theorem allRegions_nodup : allRegions.Nodup := by decide

theorem mem_allLinks (k : LinkId) : k ∈ allLinks := by revert k; decide

theorem allLinks_nodup : allLinks.Nodup := by decide

theorem mem_allMonitors (m : MonitorId) : m ∈ allMonitors := by revert m; decide

theorem allMonitors_nodup : allMonitors.Nodup := by decide

theorem portsOf_nodup (s : State) (roles : List Role) : (s.portsOf roles).Nodup := allPorts_nodup.filter _

theorem mem_portsOf (s : State) (roles : List Role) (p : PortId) : p ∈ s.portsOf roles ↔ (s.port p).role ∈ roles ∨ p = s.director := by
  simp [State.portsOf, mem_allPorts]

/-- The reads of a bank that a bank of 33 changed region by region gives. -/
theorem get_foldl_set33 {α : Type} (f : RegionId → α → α) (rs : List RegionId) (hrs : rs.Nodup) (v : Vector α 33) (n : RegionId) :
    (rs.foldl (fun w r => w.set r.val (f r (w.get r)) r.isLt) v).get n = if n ∈ rs then f n (v.get n) else v.get n := by
  induction rs generalizing v with
  | nil => simp
  | cons r rest ih =>
    obtain ⟨hr, hrest⟩ := List.nodup_cons.mp hrs
    rw [List.foldl_cons, ih hrest, vector_get_set]
    by_cases hn : n = r
    · subst hn; simp [hr]
    · simp [hn]

@[simp] theorem claims_mapClaims (f : RegionId → RegionClaims → RegionClaims) (s : State) (r : RegionId) :
    (mapClaims f s).claims r = f r (s.claims r) := by
  unfold mapClaims State.claims
  simp only
  rw [get_foldl_set33 f allRegions allRegions_nodup]
  simp [mem_allRegions]

/-! ### Notices, answers and transmitters (R194 to R196) -/

theorem port_notify (p n : PortId) (x : Notice) (s : State) : (notify p x s).port n = if n = p then noteTo x (s.port n) else s.port n :=
  get_updatePort s.ports p n (noteTo x)

theorem port_notifyAll (ps : List PortId) (hps : ps.Nodup) (x : Notice) (s : State) (n : PortId) :
    (notifyAll ps x s).port n = if n ∈ ps then noteTo x (s.port n) else s.port n :=
  get_foldl_updatePort (fun _ => noteTo x) ps hps s.ports n

theorem port_sendAnswer (p n : PortId) (q : Byte) (code : Nat) (counted : Bool) (r : Reply) (s : State) :
    (sendAnswer p q code counted r s).port n = if n = p then answerTo q code counted r (s.port n) else s.port n :=
  get_updatePort s.ports p n (answerTo q code counted r)

/-- After a step every transmitter that was free has looked (R195). -/
@[simp] theorem port_pump (s : State) (n : PortId) : (pump s).port n = startFrame (s.port n) := by
  unfold pump State.port
  simp only
  rw [get_foldl_updatePort (fun _ => startFrame) allPorts allPorts_nodup]
  simp [mem_allPorts]

/-- A notice adds itself, and costs the oldest when sixteen wait (R196). -/
theorem noteTo_notices (x : Notice) (t : Port) :
    (noteTo x t).notices = (if 16 ≤ t.notices.length then t.notices.tail else t.notices) ++ [x] := by
  unfold noteTo
  split <;> rfl

theorem noteTo_length (x : Notice) (t : Port) (h : t.notices.length ≤ 16) : (noteTo x t).notices.length ≤ 16 := by
  rw [noteTo_notices]
  split <;> simp <;> omega

/-- What a notice leaves of a port. -/
theorem noteTo_kept (x : Notice) (t : Port) :
    (noteTo x t).role = t.role ∧ (noteTo x t).rx = t.rx ∧ (noteTo x t).silentTimer = t.silentTimer ∧ (noteTo x t).timeout = t.timeout
      ∧ (noteTo x t).silent = t.silent ∧ (noteTo x t).withdrawn = t.withdrawn ∧ (noteTo x t).noticeCounter = t.noticeCounter
      ∧ (noteTo x t).requests = t.requests ∧ (noteTo x t).answers = t.answers ∧ (noteTo x t).line = t.line
      ∧ (noteTo x t).priorityMap = t.priorityMap := by
  unfold noteTo
  split <;> simp

/-- What an answer leaves of a port, and the answer it adds (R194). -/
theorem answerTo_kept (q : Byte) (code : Nat) (counted : Bool) (r : Reply) (t : Port) :
    answerTo q code counted r t = { t with answers := t.answers ++ [t.answerOf q code counted false r] } := rfl

theorem answerDeferred_kept (q : Byte) (code : Nat) (r : Reply) (t : Port) :
    answerDeferred q code r t = { t with answers := t.answers ++ [t.answerOf q code true true r] } := rfl

/-- What a transmitter that looks leaves of a port. -/
theorem startFrame_kept (t : Port) :
    (startFrame t).role = t.role ∧ (startFrame t).rx = t.rx ∧ (startFrame t).silentTimer = t.silentTimer
      ∧ (startFrame t).timeout = t.timeout ∧ (startFrame t).silent = t.silent ∧ (startFrame t).withdrawn = t.withdrawn
      ∧ (startFrame t).noticesLost = t.noticesLost ∧ (startFrame t).requests = t.requests ∧ (startFrame t).priorityMap = t.priorityMap := by
  unfold startFrame
  split
  · simp
  · split
    · simp
    · split <;> simp

/-- An answer starts before a notice, the oldest first (R195). -/
theorem startFrame_answer (t : Port) (a : Answer) (rest : List Answer) (hl : t.line = none) (ha : t.answers = a :: rest) :
    startFrame t = { t with answers := rest, line := some (.answer a) } := by
  unfold startFrame
  rw [hl, ha]

/-- A transmitter that is sending goes on (R195). -/
theorem startFrame_busy (t : Port) (x : TxFrame) (hl : t.line = some x) : startFrame t = t := by
  unfold startFrame
  rw [hl]

/-- A notice starts when no answer waits, the oldest first, and takes the counter's value (R189, R195). -/
theorem startFrame_notice (t : Port) (n : Notice) (rest : List Notice) (hl : t.line = none) (ha : t.answers = []) (hn : t.notices = n :: rest) :
    startFrame t = { t with notices := rest, line := some (.notice n t.noticeCounter), noticeCounter := t.noticeCounter + 1 } := by
  unfold startFrame
  rw [hl, ha, hn]

/-- With neither waiting the line stays idle (R195). -/
theorem startFrame_idle (t : Port) (ha : t.answers = []) (hn : t.notices = []) : startFrame t = t := by
  unfold startFrame
  rw [ha, hn]
  split <;> rfl

/-- A transmitter that has looked finds nothing more to do (R195). -/
@[simp] theorem startFrame_startFrame (t : Port) : startFrame (startFrame t) = startFrame t := by
  rcases hl : t.line with _ | x
  · rcases ha : t.answers with _ | ⟨a, rest⟩
    · rcases hn : t.notices with _ | ⟨n, rest⟩
      · rw [startFrame_idle t ha hn, startFrame_idle t ha hn]
      · rw [startFrame_notice t n rest hl ha hn]; exact startFrame_busy _ _ rfl
    · rw [startFrame_answer t a rest hl ha]; exact startFrame_busy _ _ rfl
  · rw [startFrame_busy t x hl, startFrame_busy t x hl]

/-- A whole step that follows a whole step finds every transmitter as it left them (R195). -/
@[simp] theorem pump_pump (s : State) : pump (pump s) = pump s := by
  have h : (pump (pump s)).ports = (pump s).ports := by
    ext i hi
    have : (pump (pump s)).port ⟨i, hi⟩ = (pump s).port ⟨i, hi⟩ := by simp
    exact this
  show ({ pump s with ports := (pump (pump s)).ports } : State) = pump s
  rw [h]

/-- A deferred request is outstanding before a transmitter looks if it is after (R192, R194). -/
theorem startFrame_deferredOutstanding (t : Port) : (startFrame t).deferredOutstanding = t.deferredOutstanding := by
  rcases hl : t.line with _ | x
  · rcases ha : t.answers with _ | ⟨a, rest⟩
    · rcases hn : t.notices with _ | ⟨n, rest⟩
      · rw [startFrame_idle t ha hn]
      · rw [startFrame_notice t n rest hl ha hn]; simp [Port.deferredOutstanding, hl]
    · rw [startFrame_answer t a rest hl ha]; simp [Port.deferredOutstanding, hl, ha, Bool.or_comm, Bool.or_left_comm]
  · rw [startFrame_busy t x hl]

/-- The outstanding requests of a port are as many before a transmitter looks as after (R194). -/
theorem startFrame_outstanding (t : Port) : (startFrame t).outstanding = t.outstanding := by
  unfold startFrame
  split
  · rfl
  · next hl =>
    split
    · next a rest ha =>
      unfold Port.outstanding
      rw [hl, ha]
      cases h : a.counted <;> simp [h]
      omega
    · split
      · unfold Port.outstanding
        rw [hl]
      · rfl

/-! ### Port reset, the answer of a reclaim, and the widths an answer reports -/

/-- A port reset leaves a port its role, settings, silence and the frame on its line, and empties the rest (R200). -/
theorem cleared_kept (x : Port) :
    x.cleared.role = x.role ∧ x.cleared.silentTimer = x.silentTimer ∧ x.cleared.timeout = x.timeout ∧ x.cleared.silent = x.silent
      ∧ x.cleared.priorityMap = x.priorityMap ∧ x.cleared.line = x.line ∧ x.cleared.requests = [] ∧ x.cleared.answers = []
      ∧ x.cleared.notices = [] ∧ x.cleared.rx = [] ∧ x.cleared.withdrawn = false ∧ x.cleared.noticesLost = false := by
  simp [Port.cleared]

/-- After a port reset at most the request whose answer is on the line is outstanding (R194, R200). -/
theorem cleared_outstanding (x : Port) : x.cleared.outstanding ≤ 1 := by
  unfold Port.outstanding Port.cleared
  simp only [List.length_nil, List.filter_nil, Nat.zero_add]
  split <;> (try split) <;> omega

theorem atomsSize_eq_sum (l : List Atom) : atomsSize l = (l.map Atom.size).sum := (List.sum_eq_foldl (xs := l.map Atom.size)).symm

@[simp] theorem atomsSize_append (l m : List Atom) : atomsSize (l ++ m) = atomsSize l + atomsSize m := by simp [atomsSize_eq_sum]

/-- A list of numbers takes a 2-byte count and 4 bytes a number (R190). -/
theorem atomsSize_numbers (l : List Nat) : atomsSize (listAtoms (fun n => [nat n]) l) = 2 + 4 * l.length := by
  induction l with
  | nil => rfl
  | cons n rest ih =>
    simp [listAtoms, atomsSize_eq_sum, Atom.size, nat] at ih ⊢
    omega

/-- The answer of a reclaim fits the payload, flags and request code counted (R194). -/
theorem reclaimReply_fits (x : Reclaim) : 2 + atomsSize x.reply.fields ≤ 1024 := by
  have h : (x.removed.take removedRoom).length ≤ 252 := List.length_take_le ..
  simp only [Reclaim.reply, atomsSize_append, atomsSize_numbers]
  simp [atomsSize_eq_sum, Atom.size, nat] at h ⊢
  omega

/-- The codes an answer reports as storing the greatest width are those that store it (R176, R197). -/
theorem mem_fullWidthCodes (widths : List Nat) (c : Nat) : c ∈ fullWidthCodes widths ↔ c < 256 ∧ widths.getD c 0 = 64 := by
  simp [fullWidthCodes]

/-! ### Packets, and the order of the directory -/

/-- A packet carries each scan group once, whichever comes first (R67). -/
theorem packetChunks_groups (g : Fin 8) : ((packetChunks g.val).map (fun c => c.group)).Perm (List.range 8) := by
  revert g
  decide

/-- Every chunk of a packet carries the pixel rows of its group (R67). -/
theorem packetChunks_rows (g : Nat) : ∀ c ∈ packetChunks g, c.rows = scanRows c.group := by
  simp [packetChunks]

/-- The first chunk of a packet is of the group last reported, and the last alone is marked last (R67). -/
theorem packetChunks_ends (g : Nat) :
    (packetChunks g).head?.map (fun c => c.group) = some g
      ∧ (packetChunks g).map (fun c => c.last) = [false, false, false, false, false, false, false, true] := by
  simp [packetChunks]

/-- Where a record stands against the place a list starts at (R186). -/
theorem assetRecord_before_iff (id page : Nat) (e : AssetRecord) :
    AssetRecord.before id page e = true ↔ e.id < id ∨ e.id = id ∧ e.first < page := by
  simp [AssetRecord.before]

/-! ### Named values that may be none (R190) -/

@[simp] theorem viewAtoms_none : viewAtoms .none = [.absent] := rfl

theorem viewAtoms_bound {v : ViewBinding} (h : v ≠ .none) : viewAtoms v = [.present, .named (viewCode v)] := if_neg h

@[simp] theorem arrowAtoms_none : arrowAtoms .none = [.absent] := rfl

theorem arrowAtoms_side {a : Arrow} (h : a ≠ .none) : arrowAtoms a = [.present, .named (arrowCode a)] := if_neg h

end Sys2Proof.Machine
end

