-- ==== Sys2Proof/Laws/PerInstr.lean ====
section
/-! SUPPORT. A statement about every command, made command by command: what a request carries on the link has one of the 59 request codes
of R193, and an event carries nothing. -/

namespace Sys2Proof.Laws

open Sys2Proof.Machine

/-- The code a command has on the link, if it has one, is a request code (R193). -/
def RequestCode.Statement (i : Instr) : Prop := ∀ x, wireOf i = some x → 1 ≤ x.2.2.1 ∧ x.2.2.1 ≤ 59

theorem RequestCode.deviceReset (dirsel : Fin 8) (ratesel : Bool) : RequestCode.Statement (.deviceReset dirsel ratesel) := by
  intro x h; cases h

theorem RequestCode.startupScanEnd (failedMarks : List Nat) : RequestCode.Statement (.startupScanEnd failedMarks) := by
  intro x h; cases h

theorem RequestCode.genlockEdge (t : Nat) : RequestCode.Statement (.genlockEdge t) := by
  intro x h; cases h

theorem RequestCode.frameTimerExpiry (t : Nat) : RequestCode.Statement (.frameTimerExpiry t) := by
  intro x h; cases h

theorem RequestCode.genlockLost (t : Nat) : RequestCode.Statement (.genlockLost t) := by
  intro x h; cases h

theorem RequestCode.claimDurationEnd (r : RegionId) : RequestCode.Statement (.claimDurationEnd r) := by
  intro x h; cases h

theorem RequestCode.spotComplete (r : RegionId) : RequestCode.Statement (.spotComplete r) := by
  intro x h; cases h

theorem RequestCode.passComplete (r : RegionId) : RequestCode.Statement (.passComplete r) := by
  intro x h; cases h

theorem RequestCode.scoreFlashEnd : RequestCode.Statement .scoreFlashEnd := by
  intro x h; cases h

theorem RequestCode.inputFrameArrival (i : InputId) (width height : Nat) (tiles : List Nat) : RequestCode.Statement (.inputFrameArrival i width height tiles) := by
  intro x h; cases h

theorem RequestCode.inputFrameDiscarded (i : InputId) : RequestCode.Statement (.inputFrameDiscarded i) := by
  intro x h; cases h

theorem RequestCode.inputLost (i : InputId) : RequestCode.Statement (.inputLost i) := by
  intro x h; cases h

theorem RequestCode.holdLimitFallback (r : RegionId) : RequestCode.Statement (.holdLimitFallback r) := by
  intro x h; cases h

theorem RequestCode.slotStart (k : LinkId) : RequestCode.Statement (.slotStart k) := by
  intro x h; cases h

theorem RequestCode.receiverStatus (k : LinkId) (ack room : Bool) (group : Fin 8) (hold : Byte) (afterLast : Bool) : RequestCode.Statement (.receiverStatus k ack room group hold afterLast) := by
  intro x h; cases h

theorem RequestCode.slotEndNoStatus (k : LinkId) : RequestCode.Statement (.slotEndNoStatus k) := by
  intro x h; cases h

theorem RequestCode.linkHoldEnd (k : LinkId) : RequestCode.Statement (.linkHoldEnd k) := by
  intro x h; cases h

theorem RequestCode.frameClose (k : LinkId) : RequestCode.Statement (.frameClose k) := by
  intro x h; cases h

theorem RequestCode.linkDown (k : LinkId) : RequestCode.Statement (.linkDown k) := by
  intro x h; cases h

theorem RequestCode.msStep : RequestCode.Statement .msStep := by
  intro x h; cases h

theorem RequestCode.mainExpiry : RequestCode.Statement .mainExpiry := by
  intro x h; cases h

theorem RequestCode.possessionExpiry : RequestCode.Statement .possessionExpiry := by
  intro x h; cases h

theorem RequestCode.hornEnd : RequestCode.Statement .hornEnd := by
  intro x h; cases h

theorem RequestCode.whistle : RequestCode.Statement .whistle := by
  intro x h; cases h

theorem RequestCode.heldEntryLapse (p : PortId) (tag : Nat) : RequestCode.Statement (.heldEntryLapse p tag) := by
  intro x h; cases h

theorem RequestCode.pageProgramStart : RequestCode.Statement .pageProgramStart := by
  intro x h; cases h

theorem RequestCode.pageProgramEnd (ok : Bool) : RequestCode.Statement (.pageProgramEnd ok) := by
  intro x h; cases h

theorem RequestCode.markProgramStart : RequestCode.Statement .markProgramStart := by
  intro x h; cases h

theorem RequestCode.markProgramEnd (ok : Bool) : RequestCode.Statement (.markProgramEnd ok) := by
  intro x h; cases h

theorem RequestCode.reclaimBlockJudge : RequestCode.Statement .reclaimBlockJudge := by
  intro x h; cases h

theorem RequestCode.blockEraseEnd (ok : Bool) : RequestCode.Statement (.blockEraseEnd ok) := by
  intro x h; cases h

theorem RequestCode.operationTimeLimit : RequestCode.Statement .operationTimeLimit := by
  intro x h; cases h

theorem RequestCode.rxFrame (p : PortId) (bytes : List Byte) : RequestCode.Statement (.rxFrame p bytes) := by
  intro x h; cases h

theorem RequestCode.rxByteGap (p : PortId) : RequestCode.Statement (.rxByteGap p) := by
  intro x h; cases h

theorem RequestCode.silenceTimeout (p : PortId) : RequestCode.Statement (.silenceTimeout p) := by
  intro x h; cases h

theorem RequestCode.txFrameEnd (p : PortId) : RequestCode.Statement (.txFrameEnd p) := by
  intro x h; cases h

theorem RequestCode.defineRegion (p : PortId) (q : Byte) (d : DefineFields) : RequestCode.Statement (.defineRegion p q d) := by
  intro x h; cases h; simp

theorem RequestCode.deleteRegion (p : PortId) (q : Byte) (id : Nat) : RequestCode.Statement (.deleteRegion p q id) := by
  intro x h; cases h; simp

theorem RequestCode.setBase (p : PortId) (q : Byte) (fill dwell : Option Nat) : RequestCode.Statement (.setBase p q fill dwell) := by
  intro x h; cases h; simp

theorem RequestCode.setFill (p : PortId) (q : Byte) (pattern red green blue : Nat) : RequestCode.Statement (.setFill p q pattern red green blue) := by
  intro x h; cases h; simp

theorem RequestCode.readRegion (p : PortId) (q : Byte) (id : Nat) : RequestCode.Statement (.readRegion p q id) := by
  intro x h; cases h; simp

theorem RequestCode.goLive (p : PortId) (q : Byte) : RequestCode.Statement (.goLive p q) := by
  intro x h; cases h; simp

theorem RequestCode.endLive (p : PortId) (q : Byte) : RequestCode.Statement (.endLive p q) := by
  intro x h; cases h; simp

theorem RequestCode.matchReset (p : PortId) (q : Byte) : RequestCode.Statement (.matchReset p q) := by
  intro x h; cases h; simp

theorem RequestCode.setPortRole (p : PortId) (q : Byte) (port : Nat) (role : Named Role) : RequestCode.Statement (.setPortRole p q port role) := by
  intro x h; cases h; simp

theorem RequestCode.setPortTimeout (p : PortId) (q : Byte) (port ms : Nat) : RequestCode.Statement (.setPortTimeout p q port ms) := by
  intro x h; cases h; simp

theorem RequestCode.setPriorityMap (p : PortId) (q : Byte) (port : Nat) (ranks : List Nat) : RequestCode.Statement (.setPriorityMap p q port ranks) := by
  intro x h; cases h; simp

theorem RequestCode.setEngineRank (p : PortId) (q : Byte) (engine : Named Engine) (rank : Nat) : RequestCode.Statement (.setEngineRank p q engine rank) := by
  intro x h; cases h; simp

theorem RequestCode.readComposition (p : PortId) (q : Byte) (col row : Nat) : RequestCode.Statement (.readComposition p q col row) := by
  intro x h; cases h; simp

theorem RequestCode.setInput (p : PortId) (q : Byte) (input : Named InputId) (limit : Nat) : RequestCode.Statement (.setInput p q input limit) := by
  intro x h; cases h; simp

theorem RequestCode.setMonitor (p : PortId) (q : Byte) (monitor : Named MonitorId) (enable latch : Option Bool) : RequestCode.Statement (.setMonitor p q monitor enable latch) := by
  intro x h; cases h; simp

theorem RequestCode.clearFaults (p : PortId) (q : Byte) (monitor : Option (Named MonitorId)) : RequestCode.Statement (.clearFaults p q monitor) := by
  intro x h; cases h; simp

theorem RequestCode.setLinkMode (p : PortId) (q : Byte) (link : Named LinkSel) (mode : Option (Named FlowMode)) (pattern : Option (List (Named Bool))) : RequestCode.Statement (.setLinkMode p q link mode pattern) := by
  intro x h; cases h; simp

theorem RequestCode.readLink (p : PortId) (q : Byte) (link : Nat) : RequestCode.Statement (.readLink p q link) := by
  intro x h; cases h; simp

theorem RequestCode.messageApprove (p : PortId) (q : Byte) (port tag : Nat) : RequestCode.Statement (.messageApprove p q port tag) := by
  intro x h; cases h; simp

theorem RequestCode.messageReject (p : PortId) (q : Byte) (port tag : Nat) : RequestCode.Statement (.messageReject p q port tag) := by
  intro x h; cases h; simp

theorem RequestCode.messageConfig (p : PortId) (q : Byte) (f : MessageFields) : RequestCode.Statement (.messageConfig p q f) := by
  intro x h; cases h; simp

theorem RequestCode.claim (p : PortId) (q : Byte) (region tag priority : Nat) (content : ContentField) (duration : Nat) (resume : Bool) : RequestCode.Statement (.claim p q region tag priority content duration resume) := by
  intro x h; cases h; simp

theorem RequestCode.release (p : PortId) (q : Byte) (tag : Nat) : RequestCode.Statement (.release p q tag) := by
  intro x h; cases h; simp

theorem RequestCode.withdraw (p : PortId) (q : Byte) : RequestCode.Statement (.withdraw p q) := by
  intro x h; cases h; simp

theorem RequestCode.resume (p : PortId) (q : Byte) : RequestCode.Statement (.resume p q) := by
  intro x h; cases h; simp

theorem RequestCode.readClaims (p : PortId) (q : Byte) (port : Nat) : RequestCode.Statement (.readClaims p q port) := by
  intro x h; cases h; simp

theorem RequestCode.clockStart (p : PortId) (q : Byte) : RequestCode.Statement (.clockStart p q) := by
  intro x h; cases h; simp

theorem RequestCode.clockStop (p : PortId) (q : Byte) : RequestCode.Statement (.clockStop p q) := by
  intro x h; cases h; simp

theorem RequestCode.clockSet (p : PortId) (q : Byte) (main possession : Option Nat) : RequestCode.Statement (.clockSet p q main possession) := by
  intro x h; cases h; simp

theorem RequestCode.clockAdjust (p : PortId) (q : Byte) (delta : Int) : RequestCode.Statement (.clockAdjust p q delta) := by
  intro x h; cases h; simp

theorem RequestCode.possessionReset (p : PortId) (q : Byte) (value : Option Nat) : RequestCode.Statement (.possessionReset p q value) := by
  intro x h; cases h; simp

theorem RequestCode.nextPeriod (p : PortId) (q : Byte) : RequestCode.Statement (.nextPeriod p q) := by
  intro x h; cases h; simp

theorem RequestCode.scoreSet (p : PortId) (q : Byte) (f : ScoreFields) : RequestCode.Statement (.scoreSet p q f) := by
  intro x h; cases h; simp

theorem RequestCode.clockConfig (p : PortId) (q : Byte) (f : ClockFields) : RequestCode.Statement (.clockConfig p q f) := by
  intro x h; cases h; simp

theorem RequestCode.readClock (p : PortId) (q : Byte) : RequestCode.Statement (.readClock p q) := by
  intro x h; cases h; simp

theorem RequestCode.clockMark (p : PortId) (q : Byte) (mark : Nat) : RequestCode.Statement (.clockMark p q mark) := by
  intro x h; cases h; simp

theorem RequestCode.capture (p : PortId) (q : Byte) : RequestCode.Statement (.capture p q) := by
  intro x h; cases h; simp

theorem RequestCode.takeCapture (p : PortId) (q : Byte) : RequestCode.Statement (.takeCapture p q) := by
  intro x h; cases h; simp

theorem RequestCode.rotationBegin (p : PortId) (q : Byte) : RequestCode.Statement (.rotationBegin p q) := by
  intro x h; cases h; simp

theorem RequestCode.rotationContract (p : PortId) (q : Byte) (id : Nat) (name : Option (List Nat)) (target qmin : Option Nat) : RequestCode.Statement (.rotationContract p q id name target qmin) := by
  intro x h; cases h; simp

theorem RequestCode.rotationSpot (p : PortId) (q : Byte) (spot contract asset slot : Nat) (regions : List Nat) : RequestCode.Statement (.rotationSpot p q spot contract asset slot regions) := by
  intro x h; cases h; simp

theorem RequestCode.rotationCommit (p : PortId) (q : Byte) : RequestCode.Statement (.rotationCommit p q) := by
  intro x h; cases h; simp

theorem RequestCode.rotationDiscard (p : PortId) (q : Byte) : RequestCode.Statement (.rotationDiscard p q) := by
  intro x h; cases h; simp

theorem RequestCode.contractSuspend (p : PortId) (q : Byte) (id : Nat) (on : Bool) : RequestCode.Statement (.contractSuspend p q id on) := by
  intro x h; cases h; simp

theorem RequestCode.readRotation (p : PortId) (q : Byte) (start : Option Nat) : RequestCode.Statement (.readRotation p q start) := by
  intro x h; cases h; simp

theorem RequestCode.readExposure (p : PortId) (q : Byte) (contract start : Option Nat) : RequestCode.Statement (.readExposure p q contract start) := by
  intro x h; cases h; simp

theorem RequestCode.uploadBegin (p : PortId) (q : Byte) (u : UploadFields) : RequestCode.Statement (.uploadBegin p q u) := by
  intro x h; cases h; simp

theorem RequestCode.uploadLoad (p : PortId) (q : Byte) (offset : Nat) (data : List Byte) : RequestCode.Statement (.uploadLoad p q offset data) := by
  intro x h; cases h; simp

theorem RequestCode.uploadCommit (p : PortId) (q : Byte) : RequestCode.Statement (.uploadCommit p q) := by
  intro x h; cases h; simp

theorem RequestCode.uploadFinish (p : PortId) (q : Byte) : RequestCode.Statement (.uploadFinish p q) := by
  intro x h; cases h; simp

theorem RequestCode.uploadAbort (p : PortId) (q : Byte) : RequestCode.Statement (.uploadAbort p q) := by
  intro x h; cases h; simp

theorem RequestCode.assetRetire (p : PortId) (q : Byte) (id : Nat) : RequestCode.Statement (.assetRetire p q id) := by
  intro x h; cases h; simp

theorem RequestCode.assetReclaim (p : PortId) (q : Byte) : RequestCode.Statement (.assetReclaim p q) := by
  intro x h; cases h; simp

theorem RequestCode.assetList (p : PortId) (q : Byte) (startId startPage : Option Nat) : RequestCode.Statement (.assetList p q startId startPage) := by
  intro x h; cases h; simp

theorem RequestCode.messageSubmit (p : PortId) (q : Byte) (tag : Nat) (text : List Nat) (style : Named Style) (repeats : Option Nat) : RequestCode.Statement (.messageSubmit p q tag text style repeats) := by
  intro x h; cases h; simp

theorem RequestCode.messageWithdraw (p : PortId) (q : Byte) (tag : Nat) (port : Option Nat) : RequestCode.Statement (.messageWithdraw p q tag port) := by
  intro x h; cases h; simp

theorem RequestCode.readMessages (p : PortId) (q : Byte) (start : Option Nat) : RequestCode.Statement (.readMessages p q start) := by
  intro x h; cases h; simp

theorem RequestCode.portReset (p : PortId) (q : Byte) (port : Option Nat) : RequestCode.Statement (.portReset p q port) := by
  intro x h; cases h; simp

theorem RequestCode.readStatus (p : PortId) (q : Byte) : RequestCode.Statement (.readStatus p q) := by
  intro x h; cases h; simp

end Sys2Proof.Laws
end

