-- ==== Sys2Proof/Laws/Requests.lean ====
section
/-! SUPPORT. What a request does on its way to its block and back (R191, R193, R194): the frame is heard, the gate passes, and the block's
answer, or the deferred request, joins the port. -/

namespace Sys2Proof.Machine

/-! ### A valid frame is heard (R191, R198, R199) -/

/-- The port a valid frame arrives at: its silence timer restarts, and Silent ends. -/
theorem port_frameArrives (p n : PortId) (s : State) :
    (frameArrives p s).port n = if n = p then { s.port p with silentTimer := 0, silent := false } else s.port n := by
  unfold frameArrives
  by_cases h : (s.port p).silent = true
  · simp only [h, if_true]
    show ((s.setPort p _).port n) = _
    rw [port_setPort]
  · simp only [h]
    show ((s.setPort p _).port n) = _
    rw [port_setPort]

/-- Nothing but the ports and the monitors changes as a frame is heard. -/
theorem frameArrives_kept (p : PortId) (s : State) :
    (frameArrives p s).pending = s.pending ∧ (frameArrives p s).dirsel = s.dirsel ∧ (frameArrives p s).ratesel = s.ratesel
      ∧ (frameArrives p s).canvas = s.canvas ∧ (frameArrives p s).arbiter = s.arbiter ∧ (frameArrives p s).comp = s.comp
      ∧ (frameArrives p s).inputs = s.inputs ∧ (frameArrives p s).links = s.links ∧ (frameArrives p s).clock = s.clock
      ∧ (frameArrives p s).score = s.score ∧ (frameArrives p s).captures = s.captures ∧ (frameArrives p s).rotation = s.rotation
      ∧ (frameArrives p s).exposure = s.exposure ∧ (frameArrives p s).messages = s.messages ∧ (frameArrives p s).assets = s.assets
      ∧ (frameArrives p s).free = s.free := by
  unfold frameArrives lower
  by_cases h : (s.port p).silent = true <;> simp [h]

@[simp] theorem frameArrives_pending (p : PortId) (s : State) : (frameArrives p s).pending = s.pending := (frameArrives_kept p s).1
@[simp] theorem frameArrives_dirsel (p : PortId) (s : State) : (frameArrives p s).dirsel = s.dirsel := (frameArrives_kept p s).2.1
@[simp] theorem frameArrives_ratesel (p : PortId) (s : State) : (frameArrives p s).ratesel = s.ratesel := (frameArrives_kept p s).2.2.1
@[simp] theorem frameArrives_canvas (p : PortId) (s : State) : (frameArrives p s).canvas = s.canvas := (frameArrives_kept p s).2.2.2.1
@[simp] theorem frameArrives_arbiter (p : PortId) (s : State) : (frameArrives p s).arbiter = s.arbiter := by simp [frameArrives_kept]
@[simp] theorem frameArrives_comp (p : PortId) (s : State) : (frameArrives p s).comp = s.comp := by simp [frameArrives_kept]
@[simp] theorem frameArrives_inputs (p : PortId) (s : State) : (frameArrives p s).inputs = s.inputs := by simp [frameArrives_kept]
@[simp] theorem frameArrives_links (p : PortId) (s : State) : (frameArrives p s).links = s.links := by simp [frameArrives_kept]
@[simp] theorem frameArrives_clock (p : PortId) (s : State) : (frameArrives p s).clock = s.clock := by simp [frameArrives_kept]
@[simp] theorem frameArrives_score (p : PortId) (s : State) : (frameArrives p s).score = s.score := by simp [frameArrives_kept]
@[simp] theorem frameArrives_captures (p : PortId) (s : State) : (frameArrives p s).captures = s.captures := by simp [frameArrives_kept]
@[simp] theorem frameArrives_rotation (p : PortId) (s : State) : (frameArrives p s).rotation = s.rotation := by simp [frameArrives_kept]
@[simp] theorem frameArrives_exposure (p : PortId) (s : State) : (frameArrives p s).exposure = s.exposure := by simp [frameArrives_kept]
@[simp] theorem frameArrives_messages (p : PortId) (s : State) : (frameArrives p s).messages = s.messages := by simp [frameArrives_kept]
@[simp] theorem frameArrives_assets (p : PortId) (s : State) : (frameArrives p s).assets = s.assets := by simp [frameArrives_kept]
@[simp] theorem frameArrives_free (p : PortId) (s : State) : (frameArrives p s).free = s.free := by simp [frameArrives_kept]

/-- What a heard frame leaves of every port. -/
theorem frameArrives_port_kept (p n : PortId) (s : State) :
    ((frameArrives p s).port n).role = (s.port n).role ∧ ((frameArrives p s).port n).rx = (s.port n).rx
      ∧ ((frameArrives p s).port n).timeout = (s.port n).timeout ∧ ((frameArrives p s).port n).withdrawn = (s.port n).withdrawn
      ∧ ((frameArrives p s).port n).noticesLost = (s.port n).noticesLost
      ∧ ((frameArrives p s).port n).noticeCounter = (s.port n).noticeCounter ∧ ((frameArrives p s).port n).requests = (s.port n).requests
      ∧ ((frameArrives p s).port n).answers = (s.port n).answers ∧ ((frameArrives p s).port n).notices = (s.port n).notices
      ∧ ((frameArrives p s).port n).line = (s.port n).line ∧ ((frameArrives p s).port n).priorityMap = (s.port n).priorityMap := by
  rw [port_frameArrives]
  by_cases h : n = p
  · subst h; simp
  · simp [h]

@[simp] theorem frameArrives_role (p n : PortId) (s : State) : ((frameArrives p s).port n).role = (s.port n).role :=
  (frameArrives_port_kept p n s).1
@[simp] theorem frameArrives_withdrawn (p n : PortId) (s : State) : ((frameArrives p s).port n).withdrawn = (s.port n).withdrawn := by
  simp [frameArrives_port_kept]
@[simp] theorem frameArrives_answers (p n : PortId) (s : State) : ((frameArrives p s).port n).answers = (s.port n).answers := by
  simp [frameArrives_port_kept]
@[simp] theorem frameArrives_requests (p n : PortId) (s : State) : ((frameArrives p s).port n).requests = (s.port n).requests := by
  simp [frameArrives_port_kept]
@[simp] theorem frameArrives_priorityMap (p n : PortId) (s : State) : ((frameArrives p s).port n).priorityMap = (s.port n).priorityMap := by
  simp [frameArrives_port_kept]
@[simp] theorem frameArrives_outstanding (p n : PortId) (s : State) : ((frameArrives p s).port n).outstanding = (s.port n).outstanding := by
  unfold Port.outstanding
  simp [frameArrives_port_kept]
@[simp] theorem frameArrives_director (p : PortId) (s : State) : (frameArrives p s).director = s.director := by simp [State.director]
@[simp] theorem frameArrives_portsOf (p : PortId) (s : State) (roles : List Role) : (frameArrives p s).portsOf roles = s.portsOf roles := by
  simp [State.portsOf]
@[simp] theorem frameArrives_region (p : PortId) (s : State) (r : RegionId) : (frameArrives p s).region r = s.region r := by
  simp [State.region]
@[simp] theorem frameArrives_claims (p : PortId) (s : State) (r : RegionId) : (frameArrives p s).claims r = s.claims r := by
  simp [State.claims]
@[simp] theorem frameArrives_link (p : PortId) (s : State) (k : LinkId) : (frameArrives p s).link k = s.link k := by
  simp [State.link]
@[simp] theorem frameArrives_input (p : PortId) (s : State) (i : InputId) : (frameArrives p s).input i = s.input i := by
  cases i <;> simp [State.input]
@[simp] theorem frameArrives_live (p : PortId) (s : State) : (frameArrives p s).live = s.live := by simp [State.live]
@[simp] theorem frameArrives_running (p : PortId) (s : State) : (frameArrives p s).running = s.running := by simp [State.running]
@[simp] theorem frameArrives_frame (p : PortId) (s : State) : (frameArrives p s).frame = s.frame := by simp [State.frame]
@[simp] theorem frameArrives_pass (p : PortId) (s : State) (r : RegionId) : (frameArrives p s).pass r = s.pass r := by simp [State.pass]
@[simp] theorem frameArrives_currentSpot (p : PortId) (s : State) (r : RegionId) : (frameArrives p s).currentSpot r = s.currentSpot r := by
  simp [State.currentSpot]
@[simp] theorem frameArrives_standings (p : PortId) (s : State) : (frameArrives p s).standings = s.standings := by
  simp [State.standings]
@[simp] theorem frameArrives_claimSet (p n : PortId) (s : State) : (frameArrives p s).claimSet n = s.claimSet n := by
  simp [State.claimSet]
@[simp] theorem frameArrives_claimOf (p n : PortId) (tag : Nat) (s : State) : (frameArrives p s).claimOf n tag = s.claimOf n tag := by
  simp [State.claimOf]

/-! ### The gate (R193) -/

/-- A right is a right to one of the 59 request codes. -/
theorem hasRight_code (role : Role) (code : Nat) (h : hasRight role code = true) : inRange 1 59 code = true := by
  have hb : code ≤ 59 ∧ 1 ≤ code := by
    unfold hasRight inRange at h
    split at h
    · simp at *; omega
    · cases role <;> simp at h <;> omega
  simp [inRange, hb.1, hb.2]

theorem Taken.gate {p : PortId} {code : Nat} {s : State} (h : Taken p code s) : gate p code (frameArrives p s) = none := by
  obtain ⟨-, h4, hs, hr⟩ := h
  have hc := hasRight_code _ _ hr
  unfold Machine.gate
  rw [frameArrives_outstanding, frameArrives_assets, frameArrives_role]
  rw [if_neg (by omega), if_neg (by simp [hc]), if_neg ?_, if_neg (by simp [hr])]
  rintro ⟨h0, h59⟩
  rcases hs with hs | hs
  · simp [hs] at h0
  · exact h59 hs

theorem Taken.uncongested {p : PortId} {code : Nat} {s : State} (h : Taken p code s) : ((frameArrives p s).port p).congested = false := by
  have := h.1
  simp [Port.congested]; omega

/-- A request that is taken reaches its block, and what the block says is the port's. -/
theorem receive_of_taken {p : PortId} {code : Nat} {s : State} (h : Taken p code s) (q : Byte) (act : State → State × Ans) :
    receive p q code act s = conclude p q code (act (frameArrives p s)) := by
  unfold receive taken
  simp only
  rw [h.uncongested, h.gate]
  simp

/-! ### What becomes of the part -/

/-- The fields an answer does not touch. -/
theorem only_pump_sendAnswer {parts : List Part} {s u : State} (p : PortId) (q : Byte) (code : Nat) (c : Bool) (r : Reply)
    (h : Only parts s u) : Only parts s (pump (sendAnswer p q code c r u)) := by
  refine ⟨by simpa using h.1, fun x hx => ?_⟩
  have := h.2 x hx
  cases x <;> simpa [Part.same] using this

/-- The fields the transmitters do not touch. -/
theorem only_pump {parts : List Part} {s u : State} (h : Only parts s u) : Only parts s (pump u) := by
  refine ⟨by simpa using h.1, fun x hx => ?_⟩
  have := h.2 x hx
  cases x <;> simpa [Part.same] using this

theorem only_setPort {parts : List Part} {s u : State} (p : PortId) (y : Port) (h : Only parts s u) : Only parts s (u.setPort p y) := by
  refine ⟨by simpa using h.1, fun x hx => ?_⟩
  have := h.2 x hx
  cases x <;> simpa [Part.same] using this

theorem only_refl (parts : List Part) (s : State) : Only parts s s := ⟨rfl, fun x _ => by cases x <;> simp [Part.same]⟩

/-- A request that is taken and answered: what is to be shown of its block. -/
theorem answers_of {i : Instr} {p : PortId} {q : Byte} {code : Nat} {s u : State} {r : Reply} {parts : List Part}
    {f : PortId → Port → Port} {P : State → Prop} {act : State → State × Ans} (hT : Taken p code s) (h58 : code ≠ 58) (h59 : code ≠ 59)
    (hx : exec i s = .next (pump (receive p q code act s))) (ha : act (frameArrives p s) = (u, .reply r))
    (hO : Only parts (frameArrives p s) u) (hf : ∀ n, u.port n = f n ((frameArrives p s).port n))
    (hP : P (pump (sendAnswer p q code true r u))) : Answers i p q code r parts f s P := by
  refine ⟨pump (sendAnswer p q code true r u), ?_, hP, only_pump_sendAnswer p q code true r hO, fun n => ?_⟩
  · rw [hx, receive_of_taken hT, ha]
    simp [conclude, h58, h59]
  · rw [port_pump, port_sendAnswer]
    by_cases hn : n = p <;> simp [answering, hn, hf]

/-- A request that is taken and deferred: what is to be shown of its block. -/
theorem defers_of {i : Instr} {p : PortId} {q : Byte} {code : Nat} {s u : State} {d : OpenRequest} {parts : List Part}
    {f : PortId → Port → Port} {P : State → Prop} {act : State → State × Ans} (hT : Taken p code s)
    (hx : exec i s = .next (pump (receive p q code act s))) (ha : act (frameArrives p s) = (u, .deferred d))
    (hO : Only parts (frameArrives p s) u) (hf : ∀ n, u.port n = f n ((frameArrives p s).port n))
    (hP : P (pump (u.setPort p (deferTo d (u.port p))))) : Defers i p d parts f s P := by
  refine ⟨pump (u.setPort p (deferTo d (u.port p))), ?_, hP, only_pump (only_setPort _ _ hO), fun n => ?_⟩
  · rw [hx, receive_of_taken hT, ha]
    simp [conclude]
  · rw [port_pump, port_setPort]
    by_cases hn : n = p <;> simp [deferring, hn, hf]

end Sys2Proof.Machine
end

