-- ==== Sys2Proof/Tests/Slice0.lean ====
section
/-! SUPPORT. The model's own tests: each check of WellFormed refuses an ill-formed command; the worked cases of the manual, one step each;
and, for every statement with hypotheses, a state and operands that meet them, clause by clause, at the edges of their ranges. -/

open Sys2Proof Sys2Proof.Machine

namespace Sys2Proof.Tests

-- The closed facts below are checked one after another: side by side they ask for more threads than the memory limit leaves.
set_option Elab.async false

/-! ### Small states -/

/-- The part after a start-up scan of an erased memory. -/
def ready : State := { State.reset with assets := { State.reset.assets with scanned := true } }

/-- The same in Live. -/
def live : State := { ready with canvas := { ready.canvas with mode := .live } }

/-- A plain region of 2 by 1 tiles on layer 1. -/
def small : Region :=
  { layer := 1, col := 46, row := 15, width := 2, height := 1, dwell := 2, sponsor := false, message := false, stoppage := false,
    policy := .hold, holdLimit := 3, fill := 0, view := .none, glyphSet := none, lastChange := none }

/-- A claim of port `p`. -/
def claimBy (p : PortId) (tag rank : Nat) : Claim :=
  { claimant := .port p, tag := tag, rank := rank, content := .fill 2, duration := 0, remaining := none, resume := false, mark := none }

/-- A Complete image of 2 by 1 tiles, id 1, on pages 0 to 4. -/
def image : AssetRecord := { id := 1, kind := .image, width := 2, height := 1, first := 0, count := 5, state := .complete }

/-- A Complete glyph set, id 4, on pages 100 to 132. -/
def glyphs : AssetRecord := { id := 4, kind := .glyphSet, width := 0, height := 0, first := 100, count := 33, state := .complete }

/-- A state with directory records. -/
def withRecords (l : List AssetRecord) (s : State) : State := { s with assets := { s.assets with records := l } }

/-- Region 1 with a holder and a wait list. -/
def claimed (g : Region) (holder : Option Claim) (waiting : List Claim) (s : State) : State :=
  (s.setRegion 1 (some g)).setClaims 1 { holder := holder, waiting := waiting, seenWaiting := 0 }

/-- The state after a command. -/
def after (i : Instr) (s : State) : State :=
  match exec i s with
  | .next t => t
  | .fault _ => s
  | .refused _ => s

/-- Port 3's silence timer stands at `timer`. -/
def silentAt (timer : Nat) : State := ready.setPort 3 { ready.port 3 with silentTimer := timer }

/-! ### Hypotheses that can be met: the canvas, the director, the reads -/

theorem witness_StepRunsTheFrontCommand : State.reset.pending = [] := rfl

/-- A region at the grid's last tile, without a view. -/
def defineCorner : DefineFields :=
  { id := 32, layer := 3, col := 47, row := 15, width := 1, height := 1, dwell := none, sponsor := none, message := none, stoppage := none,
    policy := none, holdLimit := none, fill := none, view := none, glyphSet := none }

/-- A region of the whole grid with a view and a glyph set. -/
def defineView : DefineFields :=
  { defineCorner with
    id := 1, layer := 1, col := 0, row := 0, width := 48, height := 16, dwell := some 601, policy := some (.known .fallback)
    view := some (.known .period), glyphSet := some 4 }

/-- A region of the worked layout, section 1.6. -/
def rectangle (id layer col row width height : Nat) : DefineFields :=
  { defineCorner with id := id, layer := layer, col := col, row := row, width := width, height := height }

def regionOf (d : DefineFields) : Region := { (recordOf d .hold .none) with dwell := 30 }

/-- Region 1 of section 9.9, with a glyph set of 24 px a code but for codes 1 to 31. -/
def messageRegion (s : State) : State :=
  let header : Header :=
    { id := 4, kind := .glyphSet, width := 0, height := 0, count := 33, widths := (List.range 256).map (fun c => if 1 ≤ c ∧ c ≤ 31 then 0 else 24),
      writing := true, complete := true, retired := false }
  let t := withRecords [glyphs] (s.setRegion 1 (some { regionOf (rectangle 1 1 0 0 48 2) with message := true, glyphSet := some 4 }))
  { t with assets := { t.assets with copies := [(100, .header header)] } }

/-- In Setup with region 2 on layer 2, no claim, and a glyph set. -/
def canvasState : State := withRecords [glyphs] (ready.setRegion 2 (some { small with layer := 2 }))

theorem canvasState_regionLaw : RegionLaw canvasState := by
  refine ⟨⟨Region.base, by decide +kernel⟩, ?_, ?_⟩
  · have h : ∀ r, r ≠ 0 → ∀ g ∈ canvasState.region r,
        1 ≤ g.layer ∧ g.layer ≤ 3 ∧ 1 ≤ g.width ∧ 1 ≤ g.height ∧ g.col + g.width ≤ 48 ∧ g.row + g.height ≤ 16 := by decide +kernel
    exact fun r g hr hg => h r hr g hg
  · have h : ∀ a b, a ≠ b → ∀ g ∈ canvasState.region a, ∀ x ∈ canvasState.region b, g.layer ≠ x.layer := by decide +kernel
    exact fun a b g x _ _ hab hg hx hl => absurd hl (h a b hab g hg x hx)

theorem witness_DefineRegionStoresItsRecord_corner :
    Taken 0 1 canvasState ∧ canvasState.canvas.mode = .setup ∧ RegionLaw canvasState ∧ defineCorner.id = (32 : RegionId).val
      ∧ 1 ≤ defineCorner.id ∧ 1 ≤ defineCorner.layer ∧ defineCorner.layer ≤ 3 ∧ 1 ≤ defineCorner.width ∧ 1 ≤ defineCorner.height
      ∧ defineCorner.col + defineCorner.width = 48 ∧ defineCorner.row + defineCorner.height = 16
      ∧ defineCorner.policy.getD (.known .hold) = .known .hold ∧ defineCorner.view.getD (.known .none) = .known .none
      ∧ defineCorner.message.getD false = false ∧ defineCorner.glyphSet = none
      ∧ (∀ n g, n ≠ (32 : RegionId) → canvasState.region n = some g → g.layer = defineCorner.layer →
          ∀ c y, ¬(inTiles g.col g.row g.width g.height c y
            ∧ inTiles defineCorner.col defineCorner.row defineCorner.width defineCorner.height c y))
      ∧ (canvasState.claims 32).holder = none ∧ (canvasState.claims 32).waiting = [] := by
  have h : ∀ n, n ≠ (32 : RegionId) → ∀ g ∈ canvasState.region n, g.layer ≠ 3 := by decide +kernel
  refine ⟨by unfold Taken; decide +kernel, by decide, canvasState_regionLaw, by decide, by decide, by decide, by decide, by decide, by decide,
    by decide, by decide, by decide, by decide, by decide, by decide, fun n g hn hg hl => absurd hl (h n hn g hg), by decide +kernel,
    by decide +kernel⟩

theorem witness_DefineRegionStoresItsRecord_view :
    Taken 0 1 canvasState ∧ canvasState.canvas.mode = .setup ∧ RegionLaw canvasState ∧ defineView.id = (1 : RegionId).val
      ∧ defineView.col + defineView.width = 48 ∧ defineView.row + defineView.height = 16
      ∧ defineView.policy.getD (.known .hold) = .known .fallback ∧ defineView.view.getD (.known .none) = .known .period
      ∧ defineView.sponsor.getD false = false ∧ defineView.message.getD false = false ∧ defineView.stoppage.getD false = false
      ∧ defineView.glyphSet = some 4 ∧ canvasState.assets.isComplete .glyphSet 4 = true
      ∧ (∀ n g, n ≠ (1 : RegionId) → canvasState.region n = some g → g.layer = defineView.layer →
          ∀ c y, ¬(inTiles g.col g.row g.width g.height c y
            ∧ inTiles defineView.col defineView.row defineView.width defineView.height c y))
      ∧ (canvasState.claims 1).holder = none ∧ (canvasState.claims 1).waiting = [] := by
  have h : ∀ n, n ≠ (1 : RegionId) → ∀ g ∈ canvasState.region n, g.layer ≠ 1 := by decide +kernel
  refine ⟨by unfold Taken; decide +kernel, by decide, canvasState_regionLaw, by decide, by decide, by decide, by decide, by decide, by decide,
    by decide, by decide, by decide, by decide +kernel, fun n g hn hg hl => absurd hl (h n hn g hg), by decide +kernel, by decide +kernel⟩

/-- Clause by clause: region 2 deleted; region 0's settings; the last pattern, and the first that is none. -/
theorem witness_CanvasSettingsAreStored :
    (Taken 0 2 canvasState ∧ canvasState.canvas.mode = .setup ∧ (2 : RegionId) ≠ 0 ∧ canvasState.region 2 = some { small with layer := 2 }
      ∧ (canvasState.claims 2).holder = none ∧ (canvasState.claims 2).waiting = [])
    ∧ (Taken 0 3 ready ∧ ready.canvas.mode = .setup ∧ ready.region 0 = some Region.base)
    ∧ (Taken 0 4 ready ∧ 7 < 8) ∧ (Taken 0 4 ready ∧ 8 ≤ 8) := by
  unfold Taken
  decide +kernel

theorem witness_GoLiveSetsTheMode : Taken 0 6 ready := by unfold Taken; decide +kernel

theorem witness_SetupRequestsAreRefusedInLive :
    live.canvas.mode = .live ∧ Taken 0 1 live ∧ Taken 0 2 live ∧ Taken 0 3 live ∧ Taken 0 8 live ∧ Taken 0 9 live := by
  unfold Taken
  decide +kernel

theorem witness_MatchResetStartsTheMatchAgain : Taken 0 8 ready ∧ ready.canvas.mode = .setup := by unfold Taken; decide +kernel

/-- Live with the main clock running. -/
def running : State := { live with clock := { live.clock with state := .running } }

/-- Live with the last period but one open, and a rotation staged. -/
def stagedState : State :=
  { live with clock := { live.clock with period := 8 }, rotation := { live.rotation with staged := some { contracts := [], spots := [] } } }

/-- Live in the last period. -/
def lastPeriod : State := { live with clock := { live.clock with period := 9 } }

/-- Clause by clause: EndLive at the end of a period, refused while the clock runs, in Setup; NextPeriod into period 9, refused while the
clock runs, and in period 9; and either with a rotation staged and no region that carries sponsors. -/
theorem witness_PeriodBoundaryRollsTheAccounts :
    (live.rotation.staged = none ∧ Taken 0 7 live ∧ live.canvas.mode = .live ∧ live.clock.state ≠ .running)
    ∧ (running.rotation.staged = none ∧ Taken 0 7 running ∧ running.canvas.mode = .live ∧ running.clock.state = .running)
    ∧ (ready.rotation.staged = none ∧ Taken 0 7 ready ∧ ready.canvas.mode = .setup)
    ∧ (Taken 0 32 live ∧ live.clock.state ≠ .running ∧ live.clock.period < 9)
    ∧ (Taken 0 32 running ∧ running.clock.state = .running)
    ∧ (lastPeriod.rotation.staged = none ∧ Taken 0 32 lastPeriod ∧ lastPeriod.clock.state ≠ .running ∧ lastPeriod.clock.period = 9)
    ∧ (Taken 0 32 stagedState ∧ stagedState.clock.state ≠ .running ∧ stagedState.clock.period + 1 = 9
        ∧ stagedState.rotation.staged = some { contracts := [], spots := [] })
    ∧ (Taken 0 7 stagedState ∧ stagedState.canvas.mode = .live
        ∧ ∀ r, ∀ g ∈ stagedState.region r, g.sponsor = false) := by
  unfold Taken
  refine ⟨?_, ?_, ?_, ?_, ?_, ?_, ?_, ?_⟩ <;> decide +kernel

def answer (q : Byte) : Answer :=
  { seq := q, code := 5, outcome := .done, adjusted := false, noticesLost := false, fields := [], counted := true, deferred := false }

/-- A port whose last deferred answer is on its line. -/
def lineAnswer : State := ready.setPort 5 { ready.port 5 with line := some (.answer { answer 1 with deferred := true }) }

/-- Clause by clause: the Scoring role for port 5; port 5 in use by the answer of a deferred request on its line; a timeout of another port, and
the two edges of its range; one that the port's timer has just reached, and one it has not by 1 ms; a map of eight ranks. -/
theorem witness_PortSettingsAreStored :
    (Taken 0 9 ready ∧ ready.canvas.mode = .setup ∧ (5 : PortId) ≠ ready.director ∧ Role.scoring ≠ .director
      ∧ (∀ m, m ≠ (5 : PortId) → (ready.port m).role ≠ .scoring) ∧ ready.claimSet 5 = [] ∧ (ready.port 5).requests = []
      ∧ ((ready.port 5).answers = [] ∧ (ready.port 5).line = none) ∧ ready.rotation.build = none ∧ ready.assets.upload = none)
    ∧ (Taken 0 9 lineAnswer ∧ lineAnswer.canvas.mode = .setup ∧ (lineAnswer.port 5).line = some (.answer { answer 1 with deferred := true }))
    ∧ (Taken 0 10 ready ∧ 250 = (if 1 = 0 then 0 else if 1 < 250 then 250 else if 10000 < 1 then 10000 else 1)
      ∧ (ready.port 5).silentTimer < 250)
    ∧ (Taken 0 10 ready ∧ 10000 = (if 10001 = 0 then 0 else if 10001 < 250 then 250 else if 10000 < 10001 then 10000 else 10001)
      ∧ (0 : PortId) = 0)
    ∧ (Taken 0 10 (silentAt 250) ∧ (3 : PortId) ≠ 0 ∧ 250 ≤ ((silentAt 250).port 3).silentTimer ∧ ((silentAt 250).port 3).silent = false)
    ∧ ((silentAt 249).port 3).silentTimer < 250
    ∧ (Taken 0 11 ready ∧ [0, 1, 2, 3, 4, 5, 6, 8].length = 8) := by
  unfold Taken
  decide +kernel

/-- Region 1 with a holder and a full wait list, every claim the director's but the last. -/
def fullList : State := claimed small (some (claimBy 0 1 7)) [claimBy 0 2 5, claimBy 0 3 4, claimBy 0 4 4, claimBy 2 9 3] ready

theorem fullList_waitLaw : WaitLaw fullList := by unfold WaitLaw; decide +kernel

/-- Region 1 with the rotation's claim waiting between two of port 0's. -/
def engineList : State :=
  claimed small none [claimBy 0 2 5, { claimBy 0 1 4 with claimant := .engine .rotation, content := .spot }, claimBy 0 3 3] ready

/-- A full list without an engine's claim; and one where the rotation's claim, ranked 5, stands behind the port's of the same rank. -/
theorem witness_EngineRankAppliesToLiveClaims :
    (Taken 0 12 fullList ∧ WaitLaw fullList)
    ∧ (Taken 0 12 engineList ∧ WaitLaw engineList
      ∧ (engineList.claims 1).waiting
        = [claimBy 0 2 5] ++ { claimBy 0 1 4 with claimant := .engine .rotation, content := .spot } :: [claimBy 0 3 3]
      ∧ ∀ x ∈ [claimBy 0 2 5] ++ [claimBy 0 3 3], x.claimant ≠ .engine .rotation) := by
  refine ⟨⟨by unfold Taken; decide +kernel, fullList_waitLaw⟩, by unfold Taken; decide +kernel, by unfold WaitLaw; decide +kernel, ?_, ?_⟩ <;>
    decide +kernel

theorem witness_MonitorAndInputRequestsAct : Taken 0 15 ready ∧ Taken 0 16 ready ∧ Taken 0 14 ready := by unfold Taken; decide +kernel

/-- Link 7 in the part's frame, with a setting taken since the last tick. -/
def settingsWait : State := ready.setLink 7 { Link.reset with frame := some 0, waiting := { mode := some .oneAhead, pattern := none } }

/-- Clause by clause: a pattern with one Send entry, and one without; an unknown flow mode; a pattern entry that is neither; at a tick, a link that
sends a frame, and one that has sent none. -/
theorem witness_LinkSettingsWaitForTheNextFrame :
    Taken 0 17 ready
    ∧ (some (.unknown 2) : Option (Named FlowMode)) = some (.unknown 2)
    ∧ ((∀ d, (none : Option (Named FlowMode)) ≠ some (.unknown d)) ∧ (.unknown 2 : Named Bool) ∈ [Named.known true, .unknown 2])
    ∧ (settingsWait.comp.timerStart + (if settingsWait.ratesel then 166667 else 200000) ≤ 166667
      ∧ (settingsWait.link 7).frame = some settingsWait.comp.frame ∧ (settingsWait.link 7).packet = none ∧ (settingsWait.link 6).frame = none)
    ∧ (∀ l, some [true, false, false, false, false, false, false, false] = some l → l.length = 8 ∧ true ∈ l)
    ∧ (∃ l, some [false, false, false, false, false, false, false, false] = some l ∧ ¬(l.length = 8 ∧ true ∈ l))
    ∧ (∃ l, some [true] = some l ∧ ¬(l.length = 8 ∧ true ∈ l)) := by
  refine ⟨by unfold Taken; decide +kernel, rfl, ⟨by simp, by decide⟩, by decide +kernel, ?_, ⟨_, rfl, by decide⟩, ⟨_, rfl, by decide⟩⟩
  rintro l ⟨⟩
  decide

/-- A contract of the active rotation. -/
def contract : Contract :=
  { terms := { id := 7, name := [65], target := 10, qmin := 192 }, suspended := false, accrued := 3, history := [], lastCredit := none, cut := 0,
    shown := 0 }

def withContract (s : State) : State := { s with rotation := { s.rotation with contracts := [contract] } }

/-- The law of the Asset Controller where no upload, operation or reclaim is under way. -/
theorem assetLaw_of_idle (s : State) (hw : Memory.wf s.assets = true) (hu : s.assets.upload = none) (ho : s.assets.op = none)
    (hr : s.assets.reclaim = none) (hs : s.assets.scanned = true) : AssetLaw s := by
  refine ⟨hw, ?_, ?_, ?_, ?_, ?_, ?_, ?_⟩ <;> simp [hu, ho, hr, hs]

/-- The composed map of frame 0 over the base alone. -/
def baseMap : ComposedMap :=
  { frame := 0, planes := [], baseFill := 0, baseColour := ⟨0, 0, 0⟩, spots := []
    base := { region := 0, layer := 0, col := 0, row := 0, width := 48, height := 16, presentable := true, content := .fill 0 ⟨0, 0, 0⟩ } }

/-- Read by read: a region that is not defined and one with claims; the clock; the last link; a port's own claims, and the director on another's;
the last tile of a map, and with none; the rotation; every account, and one; the directory; the messages; the status, before the scan has
ended; then the largest answer that needs no continuation, and a continued one. -/
theorem witness_ReadsReportWhatStands :
    (Taken 0 5 ready ∧ ready.region 1 = none) ∧ (Taken 0 5 fullList ∧ fullList.region 1 = some small) ∧ Taken 0 35 ready
    ∧ (Taken 0 18 ready ∧ ready.link 7 = Link.reset)
    ∧ (Taken 2 26 (fullList.setPort 2 { fullList.port 2 with role := .replay }) ∧ (2 : PortId) = 2)
    ∧ (Taken 0 26 fullList ∧ (fullList.port 0).role = .director)
    ∧ ((Taken 0 13 { ready with comp := { ready.comp with map := some baseMap } } ∧ 47 ≤ 47 ∧ 15 ≤ 15)
      ∧ Taken 0 13 ready ∧ ready.comp.map = none)
    ∧ Taken 0 45 ready
    ∧ (Taken 0 46 (withContract ready) ∧ 1 ≤ 7 ∧ 7 ≤ 255
      ∧ (withContract ready).rotation.contracts.find? (fun x => decide (x.terms.id = 7)) = some contract)
    ∧ (Taken 0 54 ready ∧ AssetLaw ready) ∧ Taken 0 57 ready ∧ Taken 0 59 State.reset
    ∧ atomsSize (List.replicate 1019 (.flag true)) + 2 * ([[]] : List (List (List Atom))).length + atomsSize ([[]] : List (List (List Atom))).flatten.flatten = 1021
    ∧ (1 ≤ 1 ∧ (∀ n, atomsSize ((fun _ : Nat => [Atom.absent]) n) ≤ 1) ∧ atomsSize (List.replicate 1019 (.flag true)) + 2 * 1 + 1 = 1022) := by
  unfold Taken
  refine ⟨?_, ?_, ?_, ?_, ?_, ?_, ?_, ?_, ?_, ⟨?_, assetLaw_of_idle _ (by decide +kernel) rfl rfl rfl rfl⟩, ?_, ?_, ?_, by decide, fun _ => Nat.le_refl 1,
    ?_⟩ <;> decide +kernel

/-! ### Hypotheses that can be met: claims, clock, score, captures -/

/-- Region 1 with two waiting claims of rank 5 and 3. -/
def shortList : State := claimed small (some (claimBy 0 1 7)) [claimBy 0 2 5, claimBy 0 3 3] ready

def withRequests (p : PortId) (l : List OpenRequest) (s : State) : State := s.setPort p { s.port p with requests := l }

/-- A claim of rank 5 on a list of two: it joins after the entry of equal rank and before the lower one. -/
theorem witness_ClaimJoinsTheWaitList_free :
    Taken 0 22 shortList ∧ (shortList.port 0).withdrawn = false ∧ contentAllowed (shortList.port 0).role (.fill 7) = true
      ∧ shortList.region 1 = some small ∧ small.view = .none ∧ 1 ≤ 65535 ∧ 65535 ≤ 65535 ∧ Supplies shortList small (.fill 7) (.fill 7)
      ∧ (∀ e ∈ shortList.claimSet 0, e.claim.tag ≠ 65535) ∧ (shortList.claimSet 0).length < 16
      ∧ 5 = (shortList.port 0).priorityMap.getD (min 7 5) 0 ∧ (∀ w ∈ [claimBy 0 2 5], 5 ≤ w.rank) ∧ (∀ w ∈ [claimBy 0 3 3], w.rank < 5)
      ∧ (shortList.claims 1).waiting = [claimBy 0 2 5] ++ [claimBy 0 3 3] ∧ (shortList.claims 1).waiting.length < 4 := by
  refine ⟨by unfold Taken; decide +kernel, ?_, ?_, ?_, ?_, ?_, ?_, ⟨by decide, rfl⟩, ?_, ?_, ?_, ?_, ?_, ?_, ?_⟩ <;> decide +kernel

/-- A claim that pushes the last entry of a full list off. -/
theorem witness_ClaimJoinsTheWaitList_evicts :
    Taken 0 22 fullList ∧ (fullList.port 0).withdrawn = false ∧ contentAllowed (fullList.port 0).role (.picture (.known .pb)) = true
      ∧ fullList.region 1 = some small ∧ Supplies fullList small (.picture (.known .pb)) (.picture .pb)
      ∧ (∀ e ∈ fullList.claimSet 0, e.claim.tag ≠ 5) ∧ (fullList.claimSet 0).length < 16
      ∧ 4 = (fullList.port 0).priorityMap.getD (min 7 4) 0
      ∧ (∀ w ∈ [claimBy 0 2 5, claimBy 0 3 4, claimBy 0 4 4], 4 ≤ w.rank) ∧ (∀ w ∈ ([] : List Claim), w.rank < 4)
      ∧ (fullList.claims 1).waiting = [claimBy 0 2 5, claimBy 0 3 4, claimBy 0 4 4] ++ [] ++ [claimBy 2 9 3]
      ∧ (fullList.claims 1).waiting.length = 4 ∧ (claimBy 2 9 3).claimant = .port 2 ∧ (claimBy 2 9 3).rank < 4 := by
  refine ⟨by unfold Taken; decide +kernel, ?_, ?_, ?_, rfl, ?_, ?_, ?_, ?_, ?_, ?_, ?_, ?_, ?_⟩ <;> decide +kernel

/-- A claim of the last entry's own rank on a full list. -/
theorem witness_ClaimJoinsTheWaitList_full :
    Taken 0 22 (withRecords [image] fullList) ∧ (fullList.port 0).withdrawn = false
      ∧ contentAllowed ((withRecords [image] fullList).port 0).role (.asset 1) = true
      ∧ (withRecords [image] fullList).region 1 = some small ∧ Supplies (withRecords [image] fullList) small (.asset 1) (.asset 1)
      ∧ (∀ e ∈ (withRecords [image] fullList).claimSet 0, e.claim.tag ≠ 6) ∧ 3 = (fullList.port 0).priorityMap.getD (min 7 3) 0
      ∧ (∀ w ∈ (fullList.claims 1).waiting, 3 ≤ w.rank) ∧ (fullList.claims 1).waiting.getLast? = some (claimBy 2 9 3)
      ∧ (fullList.claims 1).waiting.length = 4 ∧ 3 ≤ (claimBy 2 9 3).rank := by
  refine ⟨by unfold Taken; decide +kernel, ?_, ?_, ?_, ⟨rfl, image, by decide +kernel⟩, ?_, ?_, ?_, ?_, ?_, ?_⟩ <;> decide +kernel

/-- Clause by clause: a waiting claim, the holder, no claim of the tag. -/
theorem witness_ClaimsAreReleasedAndWithdrawn_release :
    Taken 0 23 shortList ∧ shortList.claimOf 0 3 = some ⟨1, false, 2, claimBy 0 3 3⟩
      ∧ shortList.claimOf 0 1 = some ⟨1, true, 0, claimBy 0 1 7⟩ ∧ shortList.claimOf 0 65535 = none := by
  unfold Taken
  decide +kernel

/-- Port 0's one holder is marked, and its Withdraw waits for it behind an upload request. -/
def withdrawing : State :=
  withRequests 0 [.upload 8 47, .withdraw 9 [1] 2 0]
    (claimed small (some { claimBy 0 1 7 with mark := some .dropRelease }) [claimBy 2 9 5] ready)

/-- Clause by clause: claims that wait only, and a holder among them; a deferred Withdraw at the moment of the next tick. -/
theorem witness_ClaimsAreReleasedAndWithdrawn_withdraw :
    (Taken 0 24 (claimed small none [claimBy 0 2 5] ready)
      ∧ ∀ r, ((claimed small none [claimBy 0 2 5] ready).claims r).heldBy (.port 0) = false)
    ∧ (Taken 0 24 shortList ∧ (shortList.claims 1).heldBy (.port 0) = true) ∧ Taken 0 25 shortList
    ∧ (withdrawing.comp.timerStart + (if withdrawing.ratesel then 166667 else 200000) ≤ 166667
      ∧ (withdrawing.port 0).requests = [.upload 8 47] ++ .withdraw 9 [1] 2 0 :: []
      ∧ (∀ d ∈ [OpenRequest.upload 8 47] ++ [], d.isWithdraw = false) ∧ ([1] : List Nat) ≠ [] ∧ ([1] : List Nat).Nodup
      ∧ (withdrawing.region 1 = some small ∧ small.view = .none
        ∧ (withdrawing.claims 1).holder = some { claimBy 0 1 7 with mark := some .dropRelease })
      ∧ ClaimSetLaw withdrawing) := by
  unfold Taken ClaimSetLaw
  decide +kernel

/-- Live, stopped, with a claim held on a stoppage region. -/
def stoppageHeld : State := claimed { small with stoppage := true } (some (claimBy 0 1 7)) [] live

def withMain (state : MainState) (main : Nat) (s : State) : State := { s with clock := { s.clock with state := state, main := main } }

/-- An entry of port 4's. -/
def entry (tag repeats : Nat) : Entry :=
  { submitter := 4, tag := tag, text := [65], style := .normal, repeats := repeats, passesDone := 0, submitted := 0, truncated := false,
    substituted := 0 }

def withMessages (held approved : List Entry) (s : State) : State :=
  { s with messages := { s.messages with held := held, approved := approved } }

/-- A pass of an entry on region 1. -/
def passing (x : Entry) (withdrawing : Bool) (run length : Nat) (s : State) : State :=
  s.setPass 1 (some { entry := x, withdrawing := withdrawing, start := 0, textWidth := 8, speed := 4, length := length, run := run, abort := false })

/-- The crawl of a Stoppage entry on a stoppage region, as the Message Engine holds it. -/
def crawlHeld : State :=
  passing { entry 1 1 with style := .stoppage } false 0 5 (claimed { small with stoppage := true, message := true }
    (some { claimBy 0 1 3 with claimant := .engine .message, content := .crawl, resume := true }) [] live)

/-- Clause by clause: a start with 1 ms left, a port's claim held, and with a Stoppage pass under way; a start while running; a start at zero, Stopped and Expired; a stop, and one of a standing clock. -/
theorem witness_ClockStartsAndStops :
    (Taken 0 27 (withMain .stopped 1 stoppageHeld) ∧ (withMain .stopped 1 stoppageHeld).clock.state = .stopped
      ∧ 0 < (withMain .stopped 1 stoppageHeld).clock.main
      ∧ (∀ r, (withMain .stopped 1 stoppageHeld).interest .message r = true →
          ((withMain .stopped 1 stoppageHeld).claims r).heldBy (.engine .message) = true
            ∨ ((withMain .stopped 1 stoppageHeld).claims r).awaitedBy (.engine .message) = true)
      ∧ (withMain .stopped 1 stoppageHeld).region 1 = some { small with stoppage := true }
      ∧ ((withMain .stopped 1 stoppageHeld).claims 1).holder = some (claimBy 0 1 7))
    ∧ (Taken 0 27 crawlHeld ∧ crawlHeld.clock.state = .stopped ∧ 0 < crawlHeld.clock.main
      ∧ (∀ r, crawlHeld.interest .message r = true →
          (crawlHeld.claims r).heldBy (.engine .message) = true ∨ (crawlHeld.claims r).awaitedBy (.engine .message) = true)
      ∧ (crawlHeld.pass 1).isSome = true)
    ∧ (Taken 0 27 running ∧ running.clock.state = .running)
    ∧ (Taken 0 27 (withMain .stopped 0 live) ∧ (withMain .stopped 0 live).clock.state = .stopped ∧ (withMain .stopped 0 live).clock.main = 0)
    ∧ (Taken 0 27 (withMain .expired 0 live) ∧ (withMain .expired 0 live).clock.state = .expired)
    ∧ (Taken 0 28 running ∧ running.clock.state = .running) ∧ (Taken 0 28 live ∧ live.clock.state ≠ .running) := by
  unfold Taken
  refine ⟨?_, ?_, ?_, ?_, ?_, ?_, ?_⟩ <;> decide +kernel

/-- A capture of number `n`. -/
def captureOf (n : Nat) : Capture :=
  { number := n, source := .whistle, port := none, frame := 0, ms := 0, main := 5, possession := 6, state := .stopped, period := 1 }

def withCaptures (held : List (Fin 2 × Capture)) (counter : Nat) (overflow : Bool) (s : State) : State :=
  { s with captures := { held := held, counter := counter, overflow := overflow } }

/-- What a capture event makes: with both slots free; with the first taken and the counter at its end; with the second taken; with both. -/
theorem captureMade_cases (source : CaptureSource) (port : Option PortId) (k : Clock) :
    (∃ x f, CaptureMade source port k live x f)
    ∧ (∃ x f, CaptureMade source port k (withCaptures [(0, captureOf 65535)] 65535 false live) x f)
    ∧ (∃ x f, CaptureMade source port k (withCaptures [(1, captureOf 2)] 2 false live) x f)
    ∧ ∃ x f, CaptureMade source port k (withCaptures [(1, captureOf 2), (0, captureOf 3)] 3 true live) x f :=
  ⟨⟨_, _, .inl ⟨0, by decide, by decide, rfl, rfl⟩⟩, ⟨_, _, .inl ⟨1, by decide, by decide, rfl, rfl⟩⟩,
    ⟨_, _, .inl ⟨0, by decide, by decide, rfl, rfl⟩⟩, _, _, .inr ⟨by decide, by decide, rfl, rfl⟩⟩

/-- Clause by clause: a set of a standing clock and of a running one; an adjustment past the lower edge of a standing clock; one that brings a
running clock to 0, with what its capture leaves; a possession reset. -/
theorem witness_ClockTimesAreSet :
    (Taken 0 29 live ∧ (some 6000000 : Option Nat).isSome = true ∧ live.clock.state ≠ .running)
    ∧ (Taken 0 29 running ∧ (some 100000 : Option Nat).isSome = true ∧ running.clock.state = .running)
    ∧ (Taken 0 30 live
        ∧ (-600000 : Int) = (if (-600001 : Int) < -600000 then -600000 else if 600000 < (-600001 : Int) then 600000 else -600001)
        ∧ (600000 : Int) = (if (live.clock.main : Int) + -600000 < 0 then 0
            else if 5999999 < (live.clock.main : Int) + -600000 then 5999999 else (live.clock.main : Int) + -600000)
        ∧ ¬(live.clock.state = .running ∧ (600000 : Int) = 0))
    ∧ (Taken 0 30 (withMain .running 600000 live) ∧ (withMain .running 600000 live).clock.state = .running
        ∧ (0 : Int) = (if ((withMain .running 600000 live).clock.main : Int) + -600000 < 0 then 0
            else if 5999999 < ((withMain .running 600000 live).clock.main : Int) + -600000 then 5999999
            else ((withMain .running 600000 live).clock.main : Int) + -600000)
        ∧ ∃ x f, CaptureMade .expiry none (expiredClock { (withMain .running 600000 live).clock with main := 0 })
            (withMain .running 600000 live) x f)
    ∧ Taken 0 31 live := by
  unfold Taken
  refine ⟨?_, ?_, ?_, ⟨?_, ?_, ?_, (captureMade_cases _ _ _).1⟩, ?_⟩ <;> decide +kernel

/-- Port 1 has the Scoring role, which alone may send ClockMark. -/
def scoring (s : State) : State := s.setPort 1 { s.port 1 with role := .scoring }

/-- Clause by clause: a mark at the window's edge and 1 ms beyond it while the clock runs, and one to 0 from 251 ms; at the hysteresis and 1 ms beyond it while it stands. -/
theorem witness_ClockMarkFollowsTheConsole :
    (Taken 1 36 (scoring running) ∧ 1200250 = min 5999999 1200250 ∧ (250 : Int) = ((1200250 : Nat) : Int) - ((scoring running).clock.main : Int)
      ∧ (scoring running).clock.state = .running ∧ (250 : Int).natAbs ≤ (scoring running).clock.window)
    ∧ (Taken 1 36 (scoring running) ∧ 1199749 = min 5999999 1199749
      ∧ (-251 : Int) = ((1199749 : Nat) : Int) - ((scoring running).clock.main : Int)
      ∧ (scoring running).clock.state = .running ∧ (scoring running).clock.window < (-251 : Int).natAbs ∧ 0 < 1199749)
    ∧ (Taken 1 36 (scoring live) ∧ 1200050 = min 5999999 1200050 ∧ (50 : Int) = ((1200050 : Nat) : Int) - ((scoring live).clock.main : Int)
      ∧ (scoring live).clock.state ≠ .running ∧ (50 : Int).natAbs ≤ (scoring live).clock.hysteresis)
    ∧ (Taken 1 36 (scoring live) ∧ 1200051 = min 5999999 1200051 ∧ (51 : Int) = ((1200051 : Nat) : Int) - ((scoring live).clock.main : Int)
      ∧ (scoring live).clock.state ≠ .running ∧ (scoring live).clock.hysteresis < (51 : Int).natAbs)
    ∧ (Taken 1 36 (scoring (withMain .running 251 live)) ∧ (-251 : Int) = ((0 : Nat) : Int) - ((scoring (withMain .running 251 live)).clock.main : Int)
      ∧ (scoring (withMain .running 251 live)).clock.state = .running ∧ (scoring (withMain .running 251 live)).clock.window < (-251 : Int).natAbs
      ∧ ∃ x f, CaptureMade .expiry none (expiredClock { (scoring (withMain .running 251 live)).clock with main := 0, unsupervised := false })
          (scoring (withMain .running 251 live)) x f) := by
  unfold Taken
  refine ⟨?_, ?_, ?_, ?_, ?_, ?_, ?_, ?_, _, _, .inl ⟨0, ?_, ?_, rfl, rfl⟩⟩ <;> decide +kernel

/-- Clause by clause: a score beyond its range; a length beyond its range for a standing clock. -/
theorem witness_ScoreAndClockSettingsAreStored :
    (Taken 0 33 ready ∧ (⟨some 1000, none, none, none, none, none, none⟩ : ScoreFields) ≠ ⟨none, none, none, none, none, none, none⟩
      ∧ (⟨some 1000, none, none, none, none, none, none⟩ : ScoreFields).arrow.getD (.known ready.score.arrow) = .known .none)
    ∧ (Taken 0 34 ready ∧ ((some 999 : Option Nat).isSome = true → ready.clock.state ≠ .running)) := by
  unfold Taken
  decide +kernel

/-- A capture with each filling of the slots (`captureMade_cases`); TakeCapture with one held, and with none. -/
theorem witness_CapturesAreStoredAndTaken :
    (Taken 0 37 live ∧ live.captures.counter ≤ 65535 ∧ ∃ x f, CaptureMade .request (some 0) live.clock live x f)
    ∧ (Taken 0 37 (withCaptures [(0, captureOf 65535)] 65535 false live)
      ∧ (withCaptures [(0, captureOf 65535)] 65535 false live).captures.counter ≤ 65535)
    ∧ Taken 0 37 (withCaptures [(1, captureOf 2), (0, captureOf 3)] 3 true live)
    ∧ (Taken 0 38 (withCaptures [(0, captureOf 3)] 3 false ready)
      ∧ (withCaptures [(0, captureOf 3)] 3 false ready).captures.held = (0, captureOf 3) :: [])
    ∧ (Taken 0 38 ready ∧ ready.captures.held = [] ∧ CaptureLaw ready) := by
  unfold Taken CaptureLaw
  refine ⟨⟨?_, ?_, (captureMade_cases _ _ _).1⟩, ?_, ?_, ?_, ?_⟩ <;> decide +kernel

/-! ### Hypotheses that can be met: rotation, assets, messages, ports -/

/-- A build of port 0 with one contract and one spot. -/
def plan : Plan :=
  { contracts := [{ id := 7, name := [65], target := 10, qmin := 192 }], spots := [{ id := 9, contract := 7, asset := 1, slot := 60, regions := [1] }] }

def building (owner : PortId) (x : Plan) (s : State) : State :=
  { s with rotation := { s.rotation with build := some { owner := owner, plan := x } } }

/-- Clause by clause: a build begun, with one open, none to discard, another port's, the owner's; and the law with a build open. -/
theorem witness_RotationBuildOpensAndCloses :
    (Taken 0 39 ready ∧ ready.rotation.build = none)
    ∧ (Taken 0 39 (building 3 plan ready) ∧ (building 3 plan ready).rotation.build.isSome = true)
    ∧ (Taken 0 43 ready ∧ ready.rotation.build = none)
    ∧ (Taken 0 43 (building 3 plan ready) ∧ (building 3 plan ready).rotation.build = some { owner := 3, plan := plan } ∧ (3 : PortId) ≠ 0)
    ∧ (Taken 0 43 (building 0 plan ready) ∧ (building 0 plan ready).rotation.build = some { owner := 0, plan := plan } ∧ (0 : PortId) = 0)
    ∧ (building 0 plan ready).rotation.build.isSome = true ∧ ready.canvas.mode = .setup := by
  unfold Taken
  decide +kernel

/-- R128 where no region shows a spot. -/
theorem spotsOnce_of_none (s : State) (h : ∀ r, s.currentSpot r = none) :
    (∀ r x, s.currentSpot r = some x → (s.claims r).heldBy (.engine .rotation) = true)
      ∧ ∀ a b x y, s.currentSpot a = some x → s.currentSpot b = some y → x.spot = y.spot → a = b := by
  simp [h]

theorem building_rotationLaw : RotationLaw (building 0 plan ready) := by
  refine ⟨by unfold PlanLaw; decide +kernel, by rintro t ⟨⟩, ?_, by decide +kernel, by decide +kernel, by decide +kernel, by decide +kernel,
    spotsOnce_of_none _ (by decide +kernel)⟩
  rintro b ⟨⟩
  unfold PlanLaw
  decide +kernel

/-- A build with one contract less than its limit, and one spot less. -/
def nearlyFull : Plan :=
  { contracts := (List.range 31).map (fun n => { id := n + 1, name := [], target := 0, qmin := 0 })
    spots := (List.range 63).map (fun n => { id := n + 1, contract := 1, asset := 1, slot := 60, regions := [1] }) }

/-- Clause by clause: the thirty-second contract, of id 255; the sixty-fourth spot, on eight regions; a contract suspended, and one unknown. -/
theorem witness_RotationEntriesAreAppended :
    (Taken 0 40 (building 0 nearlyFull ready)
      ∧ (building 0 nearlyFull ready).rotation.build = some { owner := 0, plan := nearlyFull } ∧ 1 ≤ 255 ∧ 255 ≤ 255
      ∧ (∀ o ∈ nearlyFull.contracts, o.id ≠ 255) ∧ nearlyFull.contracts.length < 32)
    ∧ (Taken 0 41 (withRecords [image] (building 0 nearlyFull ready))
      ∧ (withRecords [image] (building 0 nearlyFull ready)).rotation.build = some { owner := 0, plan := nearlyFull }
      ∧ [1, 2, 3, 4, 5, 6, 7, 32].length ≤ 8 ∧ [1, 2, 3, 4, 5, 6, 7, 32].Nodup ∧ (∀ n ∈ [1, 2, 3, 4, 5, 6, 7, 32], 1 ≤ n ∧ n ≤ 32)
      ∧ (withRecords [image] (building 0 nearlyFull ready)).assets.complete 1 = some image ∧ image.kind = .image
      ∧ (∀ o ∈ nearlyFull.spots, o.id ≠ 255) ∧ nearlyFull.spots.length < 64)
    ∧ (Taken 0 44 (withContract ready) ∧ (∃ c ∈ (withContract ready).rotation.contracts, c.terms.id = 7)
      ∧ ∀ c ∈ (withContract ready).rotation.contracts, c.terms.id ≠ 8) := by
  unfold Taken
  decide +kernel

/-- A build whose one spot, of an asset of 2 by 1 tiles, names region 1, which is `width` tiles wide. -/
def committing (width : Nat) (s : State) : State :=
  withRecords [image] (building 0 plan (s.setRegion 1 (some { small with width := width })))

/-- A spot's asset has the size of every defined region the spot names. -/
def Fits (s : State) (x : Spot) : Prop :=
  ∀ e r g, s.assets.complete x.asset = some e → r.val ∈ x.regions → s.region r = some g → e.width = g.width ∧ e.height = g.height

theorem committing_fits (s : State) (hs : s = live ∨ s = ready) : ∀ x ∈ plan.spots, Fits (committing 2 s) x := by
  have h : ∀ s ∈ [live, ready], ∀ x ∈ plan.spots, ∀ e ∈ (committing 2 s).assets.complete x.asset, ∀ r : RegionId, r.val ∈ x.regions →
      ∀ g ∈ (committing 2 s).region r, e.width = g.width ∧ e.height = g.height := by decide +kernel
  exact fun x hx e r g he hr hg => h s (by simpa using hs) x hx e he r hr g hg

/-- Whichever way the commit is made, a spot that does not fit meets the hypotheses of one clause. -/
theorem committing_misfit :
    ∀ x ∈ plan.spots, ¬Fits (committing 1 ready) x
      ∧ (Config.commitComparesDimensions = false ∨ Config.commitComparesDimensions = true) := by
  intro x hx
  rw [List.mem_singleton.mp hx]
  exact ⟨fun h => absurd (h image 1 { small with width := 1 } rfl (by decide) rfl) (by decide),
    by cases Config.commitComparesDimensions <;> simp⟩

/-- Clause by clause: a build that passes, in Live and in Setup; a second spot whose asset is not Complete, and one without a contract. -/
theorem witness_RotationCommitStagesOrReplaces :
    (∀ x ∈ plan.spots, Fits (committing 2 live) x ∧ Fits (committing 2 ready) x)
    ∧ (Taken 0 42 (committing 2 live) ∧ (committing 2 live).canvas.mode = .live
      ∧ (committing 2 live).rotation.build = some { owner := 0, plan := plan }
      ∧ ∀ x ∈ plan.spots, (∃ c ∈ plan.contracts, c.id = x.contract) ∧ ((committing 2 live).assets.complete x.asset).isSome = true)
    ∧ (Taken 0 42 (committing 2 ready) ∧ (committing 2 ready).canvas.mode = .setup
      ∧ ∀ x ∈ plan.spots, (∃ c ∈ plan.contracts, c.id = x.contract) ∧ ((committing 2 ready).assets.complete x.asset).isSome = true)
    ∧ (Taken 0 42 (building 0 plan ready) ∧ plan.spots = [] ++ { id := 9, contract := 7, asset := 1, slot := 60, regions := [1] } :: []
      ∧ (∀ y ∈ ([] : List Spot), (∃ c ∈ plan.contracts, c.id = y.contract)
          ∧ ((building 0 plan ready).assets.complete y.asset).isSome = true)
      ∧ (building 0 plan ready).assets.complete 1 = none) := by
  unfold Taken
  refine ⟨fun x hx => ⟨committing_fits live (.inl rfl) x hx, committing_fits ready (.inr rfl) x hx⟩, ?_⟩
  decide +kernel

/-- A page map whose first three Free pages in a row are 5, 6 and 7. -/
def gapMap : State := { ready with assets := { ready.assets with pageMap := [(0, .dirty), (2, .dirty), (4, .dirty)] } }

/-- The smallest Image, of three pages, with the highest id; and a GlyphSet on the 33 Free pages from 5 on, one advance width at 64 and one
beyond it. -/
theorem witness_UploadBeginAllocatesFirstFit :
    Taken 0 47 gapMap ∧ AssetLaw gapMap ∧ 1 ≤ 255 ∧ 255 ≤ 255 ∧ gapMap.assets.upload = none ∧ gapMap.assets.reclaim = none
      ∧ (∀ e ∈ gapMap.assets.records, e.id = 255 → e.state = .retired) ∧ 5 + (1 + 2 * 1 * 1) ≤ 16384
      ∧ (∀ n, 5 ≤ n → n < 5 + (1 + 2 * 1 * 1) → keyGet n gapMap.assets.pageMap = none)
      ∧ (∀ m, m < 5 → ∃ n, m ≤ n ∧ n < m + (1 + 2 * 1 * 1) ∧ (keyGet n gapMap.assets.pageMap).isSome = true)
      ∧ (64 :: 65 :: List.replicate 254 8).length = 256 ∧ 5 + 33 ≤ 16384
      ∧ (∀ n, 5 ≤ n → n < 5 + 33 → keyGet n gapMap.assets.pageMap = none)
      ∧ ∀ m, m < 5 → ∃ n, m ≤ n ∧ n < m + 33 ∧ (keyGet n gapMap.assets.pageMap).isSome = true := by
  have hfree : ∀ n, 5 ≤ n → keyGet n gapMap.assets.pageMap = none := by
    intro n hn
    have h0 : n ≠ 0 := by omega
    have h2 : n ≠ 2 := by omega
    have h4 : n ≠ 4 := by omega
    simp [gapMap, keyGet, Ne.symm h0, Ne.symm h2, Ne.symm h4]
  refine ⟨by unfold Taken; decide +kernel, assetLaw_of_idle _ (by decide +kernel) rfl rfl rfl rfl, by decide, by decide, rfl, rfl,
    by decide +kernel, by decide, fun n h1 _ => hfree n h1, fun m hm => ?_, by decide +kernel, by decide, fun n h1 _ => hfree n h1,
    fun m hm => ⟨4, by omega, by omega, rfl⟩⟩
  · have h : ∀ m < 5, ∃ n < 8, m ≤ n ∧ n < m + 3 ∧ (keyGet n gapMap.assets.pageMap).isSome = true := by decide +kernel
    obtain ⟨n, -, h1, h2, h3⟩ := h m hm
    exact ⟨n, h1, h2, h3⟩

/-- Port 0's upload of an Image of three pages from page 0. -/
def upload (committed : Nat) (job : Option Job) : Upload :=
  { owner := 0, id := 1, first := 0, count := 3, committed := committed, job := job, orphan := false, adjusted := false }

def uploading (u : Upload) (s : State) : State :=
  { s with assets := { s.assets with
      upload := some u, records := [{ image with state := .writing }], pageMap := allocate 0 3 []
      copies := [(0, .header ⟨1, .image, 1, 1, 3, [], true, false, false⟩)] } }

/-- Clause by clause: a load that ends at the buffer's last byte; the last content page; the mark that follows it; an abort; each with no
upload, and with port 0's where port 3, a Sponsor port, asks. -/
theorem witness_UploadRequestsAct :
    (Taken 0 48 (uploading (upload 0 none) ready) ∧ (uploading (upload 0 none) ready).assets.upload = some (upload 0 none)
      ∧ (upload 0 none).owner = 0 ∧ (upload 0 none).orphan = false ∧ (upload 0 none).job = none
      ∧ ([7] : List Byte).length ≤ 256 ∧ 4095 + ([7] : List Byte).length ≤ 4096)
    ∧ (Taken 0 49 (uploading (upload 1 none) ready) ∧ (upload 1 none).committed + 1 < (upload 1 none).count
      ∧ (uploading (upload 1 none) ready).assets.reclaim = none)
    ∧ (Taken 0 50 (uploading (upload 2 none) ready) ∧ (upload 2 none).count ≤ (upload 2 none).committed + 1
      ∧ (uploading (upload 2 none) ready).assets.reclaim = none)
    ∧ Taken 0 51 (uploading (upload 0 none) ready)
    ∧ (ready.assets.upload = none ∧ Taken 0 48 ready ∧ Taken 0 49 ready ∧ Taken 0 50 ready ∧ Taken 0 51 ready)
    ∧ (∃ u, (uploading (upload 0 none) (ready.setPort 3 { ready.port 3 with role := .sponsor })).assets.upload = some u ∧ u.owner ≠ 3)
    ∧ (Taken 3 48 (uploading (upload 0 none) (ready.setPort 3 { ready.port 3 with role := .sponsor }))) := by
  unfold Taken
  refine ⟨?_, ?_, ?_, ?_, ?_, ⟨upload 0 none, by decide +kernel⟩, ?_⟩ <;> decide +kernel

/-- Asset memory with one Retired record on pages 0 to 4 and its mark programmed. -/
def retiredState : State :=
  { ready with assets := { ready.assets with records := [{ image with state := .retired }], pageMap := allocate 0 5 [] } }

/-- Clause by clause: an unpinned asset, one a build pins; a reclaim with a block that qualifies, and with none. -/
theorem witness_AssetsAreRetiredAndReclaimed :
    (Taken 0 52 (withRecords [image] ready) ∧ (withRecords [image] ready).assets.complete 1 = some image
      ∧ (∀ x ∈ (withRecords [image] ready).assets.records, x.id = 1 → x.state ≠ .retired → x = image)
      ∧ pinned (withRecords [image] ready) 1 = false)
    ∧ (Taken 0 52 (withRecords [image] (building 3 plan ready)) ∧ (withRecords [image] (building 3 plan ready)).assets.complete 1 = some image
      ∧ pinned (withRecords [image] (building 3 plan ready)) 1 = true)
    ∧ (Taken 0 53 retiredState ∧ retiredState.assets.reclaim = none ∧ (∀ u, retiredState.assets.upload = some u → u.job = none)
      ∧ ∃ n x, (n, x) ∈ retiredState.assets.pageMap ∧ retiredState.assets.qualifies (n / 16) = true)
    ∧ (Taken 0 53 ready ∧ ready.assets.op = none ∧ ready.assets.retireList = []
      ∧ ∀ n x, (n, x) ∈ ready.assets.pageMap → ready.assets.qualifies (n / 16) = false) := by
  unfold Taken
  refine ⟨by decide +kernel, by decide +kernel, ⟨by decide +kernel, rfl, by rintro u ⟨⟩, 4, .part 0, by decide +kernel, by decide +kernel⟩,
    by decide +kernel, rfl, rfl, ?_⟩
  intro n x h
  exact absurd h (by simp [ready, State.reset, State.resetWith, Assets.resetWith])

/-- Port 4 has the Messages role. -/
def crowd (s : State) : State := s.setPort 4 { s.port 4 with role := .messages }

/-- Clause by clause: a text of 120 codes from port 4, and one of a single code from the director, with no reference set; a text of 121 codes, which
is cut, where a reference set lacks codes 1 to 31; a configuration. -/
theorem witness_MessagesAreSubmittedAndConfigured :
    (Taken 4 55 (crowd ready) ∧ List.replicate 120 65 ≠ [] ∧ (∀ c ∈ List.replicate 120 65, c ≤ 255)
      ∧ (List.replicate 120 65).length ≤ (crowd ready).messages.settings.maxLength ∧ (crowd ready).referenceSet = none
      ∧ (crowd ready).hasEntry 4 65535 = false ∧ (crowd ready).queueLength < 48 ∧ (4 : PortId) ≠ (crowd ready).director)
    ∧ (Taken 0 55 ready ∧ [255] ≠ [] ∧ (∀ c ∈ [255], c ≤ 255) ∧ [255].length ≤ ready.messages.settings.maxLength
      ∧ ready.referenceSet = none ∧ ready.hasEntry 0 1 = false ∧ ready.queueLength < 48 ∧ (0 : PortId) = ready.director)
    ∧ (Taken 4 55 (crowd (messageRegion ready)) ∧ (crowd (messageRegion ready)).referenceSet = some 4
      ∧ (crowd (messageRegion ready)).messages.settings.maxLength < (5 :: List.replicate 120 65).length
      ∧ advanceIn ((crowd (messageRegion ready)).assets.advances 4) 5 = 0 ∧ (crowd (messageRegion ready)).hasEntry 4 1 = false)
    ∧ Taken 0 21 ready := by
  unfold Taken
  refine ⟨?_, ?_, ?_, ?_⟩ <;> decide +kernel

/-- Clause by clause: an entry that is Held; none of the tag; one Approved; one being shown; port 6, and the tags 0 and 65,536;
the last of two Approved ones. -/
theorem witness_MessagesAreApprovedRejectedWithdrawn :
    ((withMessages [entry 1 1] [entry 2 1] ready).messages.held.find? (fun x => decide (x.submitter = 4) && decide (x.tag = 1)) = some (entry 1 1)
      ∧ Taken 0 19 (withMessages [entry 1 1] [entry 2 1] ready) ∧ Taken 0 20 (withMessages [entry 1 1] [entry 2 1] ready)
      ∧ Taken 0 56 (withMessages [entry 1 1] [entry 2 1] ready) ∧ (0 : PortId) = (withMessages [entry 1 1] [entry 2 1] ready).director)
    ∧ (withMessages [entry 1 1] [entry 2 1] ready).hasEntry 4 65535 = false
    ∧ ((withMessages [entry 1 1] [entry 2 1] ready).hasEntry 4 2 = true
      ∧ ∀ e ∈ (withMessages [entry 1 1] [entry 2 1] ready).messages.held, ¬(e.submitter = 4 ∧ e.tag = 2))
    ∧ (Taken 0 56 (passing (entry 1 1) false 0 5 ready)
      ∧ (passing (entry 1 1) false 0 5 ready).pass 1
        = some { entry := entry 1 1, withdrawing := false, start := 0, textWidth := 8, speed := 4, length := 5, run := 0, abort := false }
      ∧ MessageLaw (passing (entry 1 1) false 0 5 ready))
    ∧ (Taken 0 20 ready ∧ 6 ≤ 6 ∧ (0 = 0 ∨ 65535 < 0) ∧ (65536 = 0 ∨ 65535 < 65536))
    ∧ ((withMessages [] [entry 1 1, entry 2 1] ready).messages.approved = [entry 1 1] ++ entry 2 1 :: []
      ∧ (entry 2 1).submitter = 4 ∧ (entry 2 1).tag = 2 ∧ MessageLaw (withMessages [] [entry 1 1, entry 2 1] ready)
      ∧ Taken 0 19 (withMessages [] [entry 1 1, entry 2 1] ready) ∧ Taken 0 56 (withMessages [] [entry 1 1, entry 2 1] ready)
      ∧ Taken 0 19 (passing (entry 1 1) false 0 5 ready)) := by
  unfold Taken MessageLaw
  refine ⟨?_, ?_, ?_, ?_, ?_, ?_⟩ <;> decide +kernel

/-- Clause by clause: a port resets itself, and the director another; the owner of an upload with a program under way, and without one; a
port that may not name another. -/
theorem witness_PortResetEmptiesThePort :
    (Taken 2 58 shortList ∧ ((none : Option Nat) = none ∧ (2 : PortId) = 2) ∧ ∀ u, shortList.assets.upload = some u → u.owner ≠ 2)
    ∧ (Taken 0 58 shortList ∧ (shortList.port 0).role = .director ∧ ∀ u, shortList.assets.upload = some u → u.owner ≠ 5)
    ∧ (Taken 0 58 (uploading (upload 0 (some .header)) ready)
      ∧ (uploading (upload 0 (some .header)) ready).assets.upload = some (upload 0 (some .header)) ∧ (upload 0 (some .header)).owner = 0)
    ∧ (Taken 0 58 (uploading (upload 0 none) ready) ∧ (uploading (upload 0 none) ready).assets.upload = some (upload 0 none))
    ∧ (Taken 2 58 ready ∧ (5 : PortId) ≠ 2 ∧ (ready.port 2).role ≠ .director) := by
  have h : shortList.assets.upload = none := by rfl
  unfold Taken
  refine ⟨⟨?_, ⟨rfl, rfl⟩, by simp [h]⟩, ⟨?_, ?_, by simp [h]⟩, ?_, ?_, ?_⟩ <;> decide +kernel

/-- Asset memory with one whole Complete Image of one tile at its last pages. -/
def stored1 : State :=
  { State.reset with assets := { State.reset.assets with
      nor := [(16381, .header ⟨1, .image, 1, 1, 3, [], true, true, false⟩), (16382, .content [(0, 7)])] } }

theorem stored1_assetLaw : AssetLaw stored1 := by
  refine ⟨by decide +kernel, ?_, ?_, ?_, ?_, ?_, ?_, fun _ => by decide +kernel⟩
  all_goals intros; simp_all [stored1, State.reset, State.resetWith, Assets.resetWith]

theorem reset_assetLaw_of_erased : AssetLaw { State.reset with ratesel := false } := by
  refine ⟨by decide +kernel, ?_, ?_, ?_, ?_, ?_, ?_, fun _ => by decide +kernel⟩
  all_goals intros; simp_all [State.reset, State.resetWith, Assets.resetWith]

/-- Clause by clause: a scan that has ended, an erased memory, and one whole asset that ends with the memory's last page. -/
theorem witness_StartupScanFindsTheAssets :
    ready.assets.scanned = true
    ∧ (AssetLaw { State.reset with ratesel := false } ∧ State.reset.assets.scanned = false ∧ State.reset.assets.nor = [])
    ∧ (AssetLaw stored1 ∧ stored1.assets.scanned = false
      ∧ stored1.assets.nor = (16381, .header ⟨1, .image, 1, 1, 3, [], true, true, false⟩) :: [(16382, .content [(0, 7)])]
      ∧ (∀ e ∈ [((16382 : Nat), Page.content [(0, 7)])], 16381 < e.1 ∧ e.1 < 16381 + 3) ∧ 3 = 1 + 2 * 1 * 1 ∧ 16381 + 3 ≤ 16384) :=
  ⟨rfl, ⟨reset_assetLaw_of_erased, rfl, rfl⟩, stored1_assetLaw, rfl, rfl, by decide, rfl, by decide⟩

/-! ### Hypotheses that can be met: ticks, links, the timebase -/

/-- Clause by clause, with the frame period 166,667: the timer at its end and one period of the reference before it; an edge just past half a
period and one just before. -/
theorem witness_TicksAdvanceTheFrame :
    (ready.ratesel = true ∧ ready.comp.timerStart + 166667 ≤ 166667) ∧ 166666 < ready.comp.timerStart + 166667
    ∧ (ready.comp.lastTick ≤ 83334 ∧ ready.comp.lastEdge ≤ 83334 ∧ ready.comp.timerStart ≤ 83334
        ∧ 166667 ≤ 2 * (83334 - ready.comp.lastTick))
    ∧ (ready.comp.lastTick ≤ 83333 ∧ ready.comp.lastEdge ≤ 83333 ∧ ready.comp.timerStart ≤ 83333
        ∧ 2 * (83333 - ready.comp.lastTick) < 166667) := by decide +kernel

/-- A holder of port 0's with one frame left. -/
def lastFrame : Claim := { claimBy 0 1 7 with duration := 3, remaining := some 1 }

/-- A holder that shows input PA, which has been lost for three frames at the next tick. -/
def lostHolder : Claim := { claimBy 0 1 7 with content := .picture .pa }

def lostState : State :=
  let s := claimed small (some lostHolder) [claimBy 2 9 3] live
  (s.setMonitor 0 { (s.monitor 0) with condition := true }).setInput .pa { (s.input .pa) with lostAt := -2 }

theorem witness_HoldersLeaveWhenTheirTimeIsUp :
    ((claimed small (some lastFrame) [claimBy 2 9 3] live).region 1 = some small ∧ small.view = .none
      ∧ ((claimed small (some lastFrame) [claimBy 2 9 3] live).claims 1).holder = some lastFrame ∧ lastFrame.claimant = .port 0
      ∧ lastFrame.remaining = some 1 ∧ lastFrame.mark ≠ some .dropRelease
      ∧ ∀ w ∈ ((claimed small (some lastFrame) [claimBy 2 9 3] live).claims 1).waiting, w.same lastFrame = false)
    ∧ (lostState.region 1 = some small ∧ small.policy = .hold ∧ (lostState.claims 1).holder = some lostHolder
      ∧ lostHolder.claimant = .port 0 ∧ lostHolder.content = .picture .pa ∧ lostHolder.mark = none ∧ lostHolder.remaining ≠ some 1
      ∧ lostHolder.remaining ≠ some 0 ∧ (lostState.monitor (monLost .pa)).condition = true
      ∧ small.holdLimit = framesSince (lostState.comp.frame + 1) (lostState.input .pa).lostAt
      ∧ ∀ w ∈ (lostState.claims 1).waiting, w.same lostHolder = false) := by decide +kernel

/-- No message is being shown, and the rest is as the definition asks. -/
theorem hearsOnlyOf_of_no_pass {r : RegionId} {p : PortId} {s : State}
    (h : p ≠ s.director ∧ (s.port p).requests = [] ∧ (∀ n, s.pass n = none)
      ∧ ∀ n, n ≠ r → (s.claims n).heldBy (.port p) = false ∧ (s.claims n).awaitedBy (.port p) = false) :
    HearsOnlyOf r p s :=
  ⟨h.1, h.2.1, fun n x hx => absurd hx (by simp [h.2.2.1 n]), h.2.2.2⟩

/-- Region 1, with a claim of port 1's for holder. -/
def heldByOne (h : Claim) (waiting : List Claim) (s : State) : State := claimed small (some { h with claimant := .port 1 }) waiting s

def lostByOne (resume : Bool) : State :=
  let s := heldByOne { lostHolder with resume := resume } [claimBy 2 9 3] live
  (s.setMonitor 0 { (s.monitor 0) with condition := true }).setInput .pa { (s.input .pa) with lostAt := -2 }

/-- The region's flag, and the clock, of a holder marked at a clock start. -/
def markedByOne (mark : LeavingMark) (s : State) : State :=
  claimed { small with stoppage := true } (some { claimBy 1 1 7 with mark := some mark, resume := decide (mark = .keep), remaining := some 2 }) [] s

/-- The notices, clause by clause: a duration at its end; a hold at its end, dropped and sent back to a list of one lower entry; a holder marked
Drop and Keep by a clock start, the clock running and standing with no change before, and one marked by a Release. -/
theorem witness_HoldersLeaveWhenTheirTimeIsUp_notices :
    (HearsOnlyOf 1 1 (heldByOne lastFrame [claimBy 2 9 3] live)
      ∧ ((heldByOne lastFrame [claimBy 2 9 3] live).claims 1).awaitedBy (.port 1) = false)
    ∧ (HearsOnlyOf 1 1 (lostByOne false) ∧ ((lostByOne false).claims 1).awaitedBy (.port 1) = false)
    ∧ (HearsOnlyOf 1 1 (lostByOne true)
      ∧ ((lostByOne true).claims 1).waiting = [] ++ [claimBy 2 9 3] ∧ (claimBy 2 9 3).rank < lostHolder.rank
      ∧ small.sponsor = false ∧ small.message = false ∧ (lostByOne true).offering .rotation 1 = false
      ∧ (lostByOne true).offering .message 1 = false ∧ (lostByOne true).comp.timerStart + 166667 ≤ 166667)
    ∧ (HearsOnlyOf 1 1 (markedByOne .dropClockStart running) ∧ HearsOnlyOf 1 1 (markedByOne .dropRelease running))
    ∧ (HearsOnlyOf 1 1 (markedByOne .keep running) ∧ ((markedByOne .keep running).claims 1).waiting = []
      ∧ (markedByOne .keep running).clock.state = .running)
    ∧ (HearsOnlyOf 1 1 (markedByOne .keep live) ∧ (markedByOne .keep live).clock.state ≠ .running
      ∧ (markedByOne .keep live).region 1 = some { small with stoppage := true }) := by
  refine ⟨⟨hearsOnlyOf_of_no_pass ?_, ?_⟩, ⟨hearsOnlyOf_of_no_pass ?_, ?_⟩, ⟨hearsOnlyOf_of_no_pass ?_, ?_⟩,
    ⟨hearsOnlyOf_of_no_pass ?_, hearsOnlyOf_of_no_pass ?_⟩, ⟨hearsOnlyOf_of_no_pass ?_, ?_⟩, ⟨hearsOnlyOf_of_no_pass ?_, ?_⟩⟩ <;> decide +kernel

/-- The holder of region 1 a claim of rank 5 will displace: a port's of rank 4 that resumes, with two frames of its duration left. -/
def resuming : Claim := { claimBy 2 9 4 with duration := 9, remaining := some 2, resume := true }

/-- A region whose dwell is over at the next tick, its candidate above a holder of one rank less; the region without a holder; a stoppage
region while the clock stands. Then a holder that resumes, and where it rejoins: behind a claim of its own rank on a list of two; on a full list
before a last entry of one rank less; behind none where the last entry has its rank. -/
theorem witness_TickMakesTheCandidateHolder :
    (166667 ≤ 166667 ∧ live.ratesel = true ∧ live.comp.timerStart = 0)
    ∧ ((claimed { small with lastChange := some (-1), stoppage := true } (some (claimBy 2 9 4)) [claimBy 0 1 5, claimBy 0 2 5] live).region 1
        = some { small with lastChange := some (-1), stoppage := true }
      ∧ (claimBy 0 1 5).content = .fill 2 ∧ (∀ x ∈ [claimBy 0 2 5], x.same (claimBy 0 1 5) = false) ∧ live.clock.state ≠ .running
      ∧ small.dwell ≤ (live.comp.frame + 1 - (-1)).toNat
      ∧ (claimBy 2 9 4).rank < (claimBy 0 1 5).rank ∧ (claimBy 2 9 4).resume = false ∧ (claimBy 2 9 4).mark ≠ some .keep
      ∧ (claimBy 2 9 4).same (claimBy 0 1 5) = false ∧ ∀ x ∈ [claimBy 0 2 5], x.same (claimBy 2 9 4) = false)
    ∧ ((claimed small none [claimBy 0 1 5] live).region 1 = some small ∧ ((claimed small none [claimBy 0 1 5] live).claims 1).holder = none
      ∧ ((claimed small none [claimBy 0 1 5] live).claims 1).waiting = claimBy 0 1 5 :: [])
    ∧ (resuming.rank < (claimBy 0 1 5).rank ∧ resuming.mark = none ∧ resuming.remaining = some 2 ∧ resuming.content = .fill 2
      ∧ resuming.same (claimBy 0 1 5) = false ∧ small.sponsor = false ∧ small.message = false
      ∧ ((claimed small (some resuming) [claimBy 0 1 5, claimBy 0 2 4] live).claims 1).holder = some resuming
      ∧ ((claimed small (some resuming) [claimBy 0 1 5, claimBy 0 2 4] live).claims 1).waiting = claimBy 0 1 5 :: [claimBy 0 2 4]
      ∧ (claimed small (some resuming) [claimBy 0 1 5, claimBy 0 2 4] live).offering .rotation 1 = false
      ∧ (claimed small (some resuming) [claimBy 0 1 5, claimBy 0 2 4] live).offering .message 1 = false
      ∧ (∀ x ∈ [claimBy 0 2 4], x.same resuming = false ∧ x.claimant = .port 0 ∧ resuming.rank ≤ x.rank)
      ∧ [claimBy 0 2 4] = [claimBy 0 2 4] ++ [] ∧ [claimBy 0 2 4].length < 3)
    ∧ ([claimBy 0 2 4, claimBy 0 3 3, claimBy 0 4 3] = [claimBy 0 2 4] ++ [claimBy 0 3 3] ++ [claimBy 0 4 3]
      ∧ (∀ x ∈ [claimBy 0 2 4, claimBy 0 3 3, claimBy 0 4 3], x.same resuming = false ∧ x.same (claimBy 0 1 5) = false)
      ∧ (∀ x ∈ [claimBy 0 3 3], x.rank < resuming.rank) ∧ (claimBy 0 4 3).rank < resuming.rank)
    ∧ ([claimBy 0 2 4, claimBy 0 3 4, claimBy 0 4 4].getLast? = some (claimBy 0 4 4)
      ∧ [claimBy 0 2 4, claimBy 0 3 4, claimBy 0 4 4].length = 3 ∧ resuming.rank ≤ (claimBy 0 4 4).rank) := by decide +kernel

/-- The notices: the candidate of port 1 over a holder of port 2's that does not resume, over one that rejoins a list of one, and over one that
finds a full list. -/
theorem witness_TickMakesTheCandidateHolder_notices :
    (HearsOnlyOf 1 1 (claimed small (some (claimBy 2 9 4)) [claimBy 1 1 5] live)
      ∧ HearsOnlyOf 1 2 (claimed small (some (claimBy 2 9 4)) [claimBy 1 1 5] live)
      ∧ ((claimed small (some (claimBy 2 9 4)) [claimBy 1 1 5] live).claims 1).heldBy (.port 1) = false
      ∧ (claimBy 2 9 4).mark = none ∧ (claimBy 2 9 4).remaining = none ∧ (2 : PortId) ≠ 1)
    ∧ (HearsOnlyOf 1 2 (claimed small (some resuming) [claimBy 1 1 5, claimBy 0 2 4] live)
      ∧ ∀ x ∈ [claimBy 0 2 4], x.claimant ≠ .port 2)
    ∧ (HearsOnlyOf 1 2 (claimed small (some resuming) [claimBy 1 1 5, claimBy 0 2 4, claimBy 0 3 4, claimBy 0 4 4] live)
      ∧ ∀ x ∈ [claimBy 0 2 4, claimBy 0 3 4, claimBy 0 4 4], x.claimant ≠ .port 2) := by
  refine ⟨⟨hearsOnlyOf_of_no_pass ?_, hearsOnlyOf_of_no_pass ?_, ?_⟩, ⟨hearsOnlyOf_of_no_pass ?_, ?_⟩, ⟨hearsOnlyOf_of_no_pass ?_, ?_⟩⟩ <;>
    decide +kernel

theorem witness_TilesShowTheHighestRegion :
    canvasState.comp.timerStart + (if canvasState.ratesel then 166667 else 200000) ≤ 166667 ∧ RegionLaw canvasState :=
  ⟨by decide +kernel, canvasState_regionLaw⟩

/-- Region 1 with a view, in the glyph set of section 9.9. -/
def viewing (v : ViewBinding) (s : State) : State :=
  (messageRegion s).setRegion 1 (some { regionOf (rectangle 1 1 0 0 3 1) with view := v, glyphSet := some 4, fill := 7 })

/-- At the bounds of the clock and the score; the Possession view with 2 ms left and a longer possession time, and with the clock standing. -/
theorem witness_ViewsAreWrittenAndBlanked :
    (∃ (k : Clock) (x : Score), k.main = 5999999 ∧ k.possession = 99999 ∧ k.period = 9 ∧ x.home = 999 ∧ x.away = 999)
    ∧ (∃ h, (viewing .possession live).assets.copyOf 100 = .header h) ∧ (viewing .possession live).assets.complete 4 = some glyphs
    ∧ glyphs.kind = .glyphSet ∧ (viewing .possession live).comp.timerStart + (if (viewing .possession live).ratesel then 166667 else 200000) ≤ 166667
    ∧ (viewing .possession live).region 1
        = some { regionOf (rectangle 1 1 0 0 3 1) with view := .possession, glyphSet := some 4, fill := 7 }
    ∧ ((viewing .possession live).claims 1).holder = none ∧ (viewing .possession live).clock.state ≠ .running
    ∧ (viewing .possession (withMain .running 2 live)).clock.main < (viewing .possession (withMain .running 2 live)).clock.possession
    ∧ (viewing .possession (withMain .running 2 live)).clock.state = .running := by
  refine ⟨⟨{ live.clock with main := 5999999, possession := 99999, period := 9 }, { live.score with home := 999, away := 999 }, ?_⟩,
    ⟨_, rfl⟩, ?_⟩ <;> decide +kernel

/-- Region 1 carries sponsors, the rotation's spot names it, and the engine is offering its claim again. -/
def offeringAgain : State :=
  let s := claimed { small with sponsor := true } none [] live
  { s with rotation := { s.rotation with spots := plan.spots, offering := s.rotation.offering.set 1 true } }

/-- Clause by clause: a commit in Setup that replaces the rotation; a period boundary that promotes one; an approval that changes the show order;
a claim that is being offered again. -/
theorem witness_EnginesOfferAndReleaseTheirClaims :
    ((committing 2 ready).canvas.mode = .setup ∧ (committing 2 ready).rotation.build.isSome = true
      ∧ (after (.rotationCommit 0 1) (committing 2 ready)).rotation.build = none)
    ∧ (stagedState.rotation.staged.isSome = true ∧ (after (.nextPeriod 0 1) stagedState).rotation.staged = none
      ∧ (after (.endLive 0 1) stagedState).rotation.staged = none)
    ∧ (after (.messageApprove 0 1 4 1) (withMessages [entry 1 1] [] ready)).messages.approved ≠ (withMessages [entry 1 1] [] ready).messages.approved
    ∧ (after (.matchReset 0 1) (withMessages [] [entry 1 1] ready)).messages.approved ≠ (withMessages [] [entry 1 1] ready).messages.approved
    ∧ (offeringAgain.comp.timerStart + (if offeringAgain.ratesel then 166667 else 200000) ≤ 166667
      ∧ offeringAgain.region 1 = some { small with sponsor := true } ∧ (∃ x ∈ offeringAgain.rotation.spots, (1 : RegionId).val ∈ x.regions)
      ∧ (offeringAgain.claims 1).holder = none ∧ (offeringAgain.claims 1).waiting = [] ∧ offeringAgain.offering .rotation 1 = true
      ∧ offeringAgain.offering .message 1 = false) := by
  refine ⟨?_, ?_, ?_, ?_, ?_⟩ <;> decide +kernel

/-- The rotation's claim on region 1, with its current spot run for `n` frames. -/
def spotRun (n : Nat) : State :=
  let s := claimed small (some { claimBy 0 1 2 with claimant := .engine .rotation, content := .spot }) [] (withContract live)
  { s with rotation := { s.rotation with spots := plan.spots, current := s.rotation.current.set 1 (some { spot := 9, run := n }) } }

/-- The message engine's claim on region 1, with a pass of `x` run for `run` of 5 frames. -/
def passRun (x : Entry) (run : Nat) : State :=
  passing x false run 5 (claimed small (some { claimBy 0 1 3 with claimant := .engine .message, content := .crawl }) [] live)

/-- Clause by clause: the last frame of a spot; the last frame of an entry's only pass, and of the first of two. -/
theorem witness_SpotsAndPassesRunTheirLength :
    ((spotRun 59).region 1 = some small ∧ small.view = .none
      ∧ ((spotRun 59).claims 1).holder = some { claimBy 0 1 2 with claimant := .engine .rotation, content := .spot }
      ∧ (spotRun 59).currentSpot 1 = some { spot := 9, run := 59 }
      ∧ (spotRun 59).rotation.spots.find? (fun z => decide (z.id = 9))
        = some { id := 9, contract := 7, asset := 1, slot := 60, regions := [1] }
      ∧ max 60 small.dwell ≤ 59 + 1
      ∧ (spotRun 59).rotation.contracts.find? (fun z => decide (z.terms.id = 7)) = some contract)
    ∧ ((passRun (entry 1 1) 4).region 1 = some small
      ∧ ((passRun (entry 1 1) 4).claims 1).holder = some { claimBy 0 1 3 with claimant := .engine .message, content := .crawl }
      ∧ (passRun (entry 1 1) 4).pass 1
        = some { entry := entry 1 1, withdrawing := false, start := 0, textWidth := 8, speed := 4, length := 5, run := 4, abort := false }
      ∧ 5 ≤ 4 + 1 ∧ MessageLaw (passRun (entry 1 1) 4) ∧ (entry 1 1).repeats ≤ (entry 1 1).passesDone + 1)
    ∧ (MessageLaw (passRun (entry 1 2) 4) ∧ (entry 1 2).passesDone + 1 < (entry 1 2).repeats) := by
  unfold MessageLaw
  decide +kernel

/-- Region 1 of 2 by 1 tiles held by the rotation with nothing current, the links in the part's frame, and the rotation's two spots for it, both
of one contract. -/
def selecting (pointer : Nat) (suspended : Bool) : State :=
  let s := withRecords [image] (claimed small
    (some { claimBy 0 1 2 with claimant := .engine .rotation, content := .spot }) [] (withContract live))
  { s with
    links := s.links.map (fun l => { l with frame := some s.comp.frame })
    rotation := { s.rotation with
      pointer := pointer
      contracts := [{ contract with suspended := suspended }]
      spots := [{ id := 9, contract := 7, asset := 1, slot := 60, regions := [1] }, { id := 10, contract := 7, asset := 1, slot := 60, regions := [1] }] } }

/-- What holds whatever the selection finds; then a suspended contract, which leaves no candidate; and one that is not, whose two spots have
one lag: the pointer at 1 passes the first. -/
theorem witness_SelectionFollowsTheLag :
    ((selecting 1 false).comp.timerStart + (if (selecting 1 false).ratesel then 166667 else 200000) ≤ 166667 ∧ (1 : RegionId) ≠ 0
      ∧ (selecting 1 false).region 1 = some small ∧ small.view = .none
      ∧ ((selecting 1 false).claims 1).holder = some { claimBy 0 1 2 with claimant := .engine .rotation, content := .spot }
      ∧ ((selecting 1 false).claims 1).waiting = [] ∧ (selecting 1 false).currentSpot 1 = none
      ∧ (selecting 1 false).offering .rotation 1 = false ∧ ((selecting 1 false).rotation.spots.map (fun x => x.id)).Nodup
      ∧ (∀ k, ((selecting 1 false).link k).frame = some (selecting 1 false).comp.frame)
      ∧ ∀ n, n ≠ (1 : RegionId) → ((selecting 1 false).claims n).heldBy (.engine .rotation) = false
          ∧ ((selecting 1 false).claims n).awaitedBy (.engine .rotation) = false)
    ∧ (∀ x ∈ (selecting 1 true).rotation.spots,
        ∀ c ∈ (selecting 1 true).rotation.contracts.find? (fun c => decide (c.terms.id = x.contract)), c.suspended = true)
    ∧ ((selecting 1 false).rotation.spots[1]? = some { id := 10, contract := 7, asset := 1, slot := 60, regions := [1] }
      ∧ (selecting 1 false).assets.complete 1 = some image ∧ image.width = small.width ∧ image.height = small.height
      ∧ (∀ n, (selecting 1 false).currentSpot n = none) ∧ (selecting 1 false).rotation.pointer < 1 + 1
      ∧ 0 + 1 ≤ (selecting 1 false).rotation.pointer) := by
  refine ⟨⟨?_, ?_, ?_, ?_, ?_, ?_, ?_, ?_, ?_, ?_, ?_⟩, ?_, ?_⟩ <;> decide +kernel

/-- A link that is Up and in the frame the part is in. -/
def upLink : Link := { Link.reset with down := false, probe := false, frame := some 0 }

def linked (l : Link) (s : State) : State := s.setLink 7 l

/-- Clause by clause: one flash frame left; an input late by one frame over its limit; a link silent for nine frames; three frame periods
without an edge, and one period of the reference less. -/
theorem witness_FlashesEndAndFaultsRise :
    ({ ready with score := { ready.score with flashLeft := 1 } } : State).score.flashLeft = 1
    ∧ ((ready.setInput .pb { (ready.input .pb) with arrival := -10 }).input .pb).limit
        < framesSince ((ready.setInput .pb { (ready.input .pb) with arrival := -10 }).comp.frame + 1)
            ((ready.setInput .pb { (ready.input .pb) with arrival := -10 }).input .pb).arrival
    ∧ (ready.monitor (monLost .pb)).condition = false
    ∧ (((linked { upLink with lastStatus := -8 } ready).link 7).down = false
      ∧ 8 < framesSince ((linked { upLink with lastStatus := -8 } ready).comp.frame + 1)
          ((linked { upLink with lastStatus := -8 } ready).link 7).lastStatus)
    ∧ (ready.comp.locked = true ∧ ready.comp.lastEdge + 3 * 166667 ≤ 500001 ∧ (ready.monitor monGenlock).condition = false)
    ∧ 500000 < ready.comp.lastEdge + 3 * 166667 := by decide +kernel

/-- Clause by clause: a frame of one tile; one of no height. -/
theorem witness_InputFramesReplaceTheLatest : ([9] : List Nat).length = 1 * 1 ∧ (49 = 0 ∨ 0 = 0) := by decide

def mapped (l : Link) : State := linked l { live with comp := { live.comp with map := some baseMap } }

/-- A packet of tile 0. -/
def packet : Packet := { tile := 0, frame := 0, chunks := [], content := .fill 0 ⟨0, 0, 0⟩, probe := false }

/-- A link with a packet in progress, attempted `n` times. -/
def sending (n : Nat) : Link := { upLink with packet := some packet, attempts := n, slotOpen := true }

/-- Clause by clause: the last tile, the slot before it still open, with room, and without it a packet ahead; a Down link's probe; each reason for
which none starts; the third attempt without status, and the fourth with the Retry condition present; a probe without status; a hold of 1 that
ends. -/
theorem witness_SlotsStartPacketsAsAllowed :
    ((mapped { upLink with tile := 95, slot := 6, slotOpen := true }).link 7 = { upLink with tile := 95, slot := 6, slotOpen := true }
      ∧ upLink.frame = some (mapped upLink).comp.frame ∧ (mapped upLink).comp.map = some baseMap ∧ baseMap.frame = (mapped upLink).comp.frame
      ∧ upLink.packet = none ∧ upLink.down = false ∧ upLink.probe = false ∧ upLink.quiet = false ∧ upLink.spent = false
      ∧ upLink.pattern.getD ((6 + 1) % 8) false = true ∧ upLink.forcedIdle = false ∧ upLink.hold = 0 ∧ upLink.room = true ∧ 95 < 96)
    ∧ (({ upLink with room := false, mode := .oneAhead, overrun := true } : Link).mode = .oneAhead
      ∧ ({ upLink with room := false, mode := .oneAhead, overrun := true } : Link).overrun = true)
    ∧ ((mapped { upLink with down := true, probe := true }).link 7 = { upLink with down := true, probe := true }
      ∧ upLink.probeSent = false ∧ upLink.pattern.getD (0 % 8) false = true)
    ∧ ({ upLink with pattern := [false, true] } : Link).pattern.getD (0 % 8) false = false
    ∧ ({ upLink with forcedIdle := true } : Link).forcedIdle = true ∧ 0 < ({ upLink with hold := 1 } : Link).hold
    ∧ (({ upLink with room := false } : Link).room = false ∧ upLink.mode = .strict) ∧ 96 ≤ ({ upLink with tile := 96 } : Link).tile
    ∧ ((mapped (sending 3)).link 7 = sending 3 ∧ (sending 3).packet = some packet ∧ packet.probe = false ∧ (sending 3).attempts < 4)
    ∧ (4 ≤ (sending 4).attempts
      ∧ (((mapped (sending 4)).setMonitor 28 ⟨true, true, false, false⟩).monitor (monRetry 7)).condition = true)
    ∧ ((mapped { sending 1 with packet := some { packet with probe := true }, probeSent := true, down := true }).link 7).down = true
    ∧ ((mapped { upLink with slotOpen := true, hold := 1 }).link 7).slotOpen = true
    ∧ ((mapped { upLink with slotOpen := true, hold := 1 }).link 7).holdFresh = false
    ∧ ((mapped { upLink with slotOpen := true, hold := 1 }).link 7).hold = 1 := by decide +kernel

/-- A Down link with its probe in progress. -/
def probing : Link := { Link.reset with frame := some 0, probe := true, probeSent := true, packet := some { packet with probe := true }, slotOpen := true }

/-- Clause by clause: the third attempt, and the fourth with the monitor's condition present; a link that is Down; a fourth with the Retry condition absent; the status of a Down link's own probe. -/
theorem witness_StatusAcksNacksAndRevives :
    ((mapped (sending 3)).link 7 = sending 3 ∧ (sending 3).down = false ∧ (sending 3).packet = some packet ∧ packet.probe = false
      ∧ (sending 3).spent = false ∧ (sending 3).attempts < 4 ∧ (sending 3).slotOpen = true)
    ∧ (4 ≤ (sending 4).attempts
      ∧ (((mapped (sending 4)).setMonitor 28 ⟨true, true, false, false⟩).monitor (monRetry 7)).condition = true)
    ∧ ((mapped (sending 4)).monitor (monRetry 7)).condition = false
    ∧ ((mapped probing).link 7 = probing ∧ probing.down = true ∧ probing.packet = some { packet with probe := true } ∧ probing.spent = false)
    ∧ ((mapped Link.reset).link 7 = Link.reset ∧ Link.reset.down = true ∧ Link.reset.spent = false) := by decide +kernel

/-- The map of frame -1, in which region 1 shows the spot of the rotation's contract on two tiles. -/
def spotMap : ComposedMap :=
  { baseMap with
    frame := -1, spots := [{ region := 1, spot := 9, contract := 7, tiles := 2 }]
    planes := [{ region := 1, layer := 1, col := 46, row := 15, width := 2, height := 1, presentable := true, content := .fill 2 ⟨0, 0, 0⟩ }] }

/-- A link that still sends frame -1, the other seven having closed it: a contract's credit is to be taken. -/
def lastToClose : State :=
  let s := withContract (linked { upLink with frame := some (-1), acked := List.range 96 } live)
  { s with
    comp := { s.comp with map := some baseMap, previous := some spotMap }
    exposure := { s.exposure with
      records := (List.range 7).map (fun n => { frame := -1, link := Fin.ofNat 8 n, delivered := [], started := 0, nacks := 0 }) } }

/-- A link that still sends the frame before the part's, and an account of the active rotation; and the last of the eight to close it. -/
theorem witness_FrameCloseRecordsTheDelivery :
    ((mapped { upLink with frame := some (-1) }).link 7 = { upLink with frame := some (-1) }
      ∧ ({ upLink with frame := some (-1) } : Link).packet = none ∧ (-1 : FrameNo) ≠ (mapped { upLink with frame := some (-1) }).comp.frame)
    ∧ RotationLaw (building 0 plan ready)
    ∧ ((lastToClose.link 7).frame = some (-1) ∧ (lastToClose.link 7).packet = none ∧ (-1 : FrameNo) ≠ lastToClose.comp.frame
      ∧ (lastToClose.exposure.records.filter (fun x => decide (x.frame = -1))).length = 7
      ∧ lastToClose.comp.previous = some spotMap ∧ spotMap.frame = -1 ∧ (spotMap.planes.map (fun x => x.region)).Nodup) :=
  ⟨by decide +kernel, building_rotationLaw, by decide +kernel⟩

/-- Clause by clause: a standing clock, and one that runs with 3 ms left at a boundary of 100 ms. -/
theorem witness_MsStepCountsTheClocks :
    (ClockLaw live ∧ live.clock.horn = none ∧ live.assets.op = none
      ∧ (∀ e ∈ live.messages.held, live.messages.settings.holdLimit = 0)
      ∧ (∀ p, (live.port p).silent = true ∨ (live.port p).timeout = 0 ∨ (live.port p).silentTimer < (live.port p).timeout)
      ∧ live.clock.state ≠ .running)
    ∧ (ClockLaw (withMain .running 3 live) ∧ (withMain .running 3 live).clock.state = .running ∧ 2 < (withMain .running 3 live).clock.main
      ∧ (withMain .running 3 live).clock.possession ≠ 1 ∧ (withMain .running 3 live).clock.horn = none) := by
  unfold ClockLaw
  decide +kernel

def withPossession (n : Nat) (s : State) : State := { s with clock := { s.clock with possession := n } }

def withHorn (e : Option Ms) (s : State) : State := { s with clock := { s.clock with horn := e } }

/-- Clause by clause: the last ms of the main clock, of the possession clock, and of the horn. -/
theorem witness_ExpiriesAndWhistlesAct_expiries :
    (ClockLaw (withMain .running 1 live) ∧ (withMain .running 1 live).clock.state = .running ∧ (withMain .running 1 live).clock.main = 1
      ∧ ((withMain .running 1 live).clock.now + 1).toNat % 100 ≠ 0 ∧ (withMain .running 1 live).clock.possession ≠ 1
      ∧ (withMain .running 1 live).clock.horn = none ∧ (withMain .running 1 live).captures.held = [])
    ∧ (ClockLaw (withPossession 1 (withMain .running 3 live)) ∧ (withPossession 1 (withMain .running 3 live)).clock.state = .running
      ∧ (withPossession 1 (withMain .running 3 live)).clock.possession = 1 ∧ 2 < (withPossession 1 (withMain .running 3 live)).clock.main)
    ∧ (ClockLaw (withHorn (some 1) live) ∧ (withHorn (some 1) live).clock.horn = some ((withHorn (some 1) live).clock.now + 1)
      ∧ (withHorn (some 1) live).clock.state ≠ .running) := by
  unfold ClockLaw
  refine ⟨?_, ?_, ?_⟩ <;> decide +kernel

def atWhistle (last now : Ms) : State := { running with clock := { running.clock with lastWhistle := some last, now := now } }

/-- Clause by clause: 20 ms after the last whistle, and 19 ms. -/
theorem witness_ExpiriesAndWhistlesAct_whistle :
    (∀ w, (atWhistle 5 25).clock.lastWhistle = some w → 20 ≤ ((atWhistle 5 25).clock.now - w).toNat)
    ∧ (atWhistle 5 24).clock.lastWhistle = some 5 ∧ ((atWhistle 5 24).clock.now - 5).toNat < 20 := by
  refine ⟨?_, rfl, by decide⟩
  rintro w ⟨⟩
  decide

/-- A Held entry submitted 599,999 ms ago. -/
def oldEntry : State :=
  { withMessages [entry 1 1] [] ready with clock := { ready.clock with now := 599999 } }

/-- Clause by clause: an entry at its hold limit; a port at its timeout, and 1 ms before it. -/
theorem witness_TimeoutsAct :
    (entry 1 1 ∈ oldEntry.messages.held ∧ 0 < oldEntry.messages.settings.holdLimit
      ∧ oldEntry.messages.settings.holdLimit * 1000 = (oldEntry.clock.now + 1 - (entry 1 1).submitted).toNat)
    ∧ (((silentAt 2000).port 3).silent = false ∧ ((silentAt 2000).port 3).timeout ≠ 0
      ∧ ((silentAt 2000).port 3).timeout ≤ ((silentAt 2000).port 3).silentTimer)
    ∧ ((silentAt 1999).port 3).silentTimer < ((silentAt 1999).port 3).timeout := by decide +kernel

/-! ### Hypotheses that can be met: memory operations, the control link, the laws -/

/-- Port 0's upload with an operation in flight. -/
def programming (u : Upload) (op : Option OpKind) : State :=
  let s := uploading u ready
  { s with assets := { s.assets with op := op.map (fun k => { kind := k, since := 0 }) } }

theorem programming_page_assetLaw : AssetLaw (programming (upload 1 (some (.page 2))) (some (.program (.page 2)))) := by
  refine ⟨by decide +kernel, ?_, ?_, ?_, ?_, ?_, ?_, ?_⟩
  · rintro u ⟨⟩; decide
  · rintro n since ⟨⟩; decide
  · rintro u n ⟨⟩ ⟨⟩; decide
  · rintro j since ⟨⟩; exact ⟨_, rfl, rfl⟩
  · rintro b since ⟨⟩
  · rintro x ⟨⟩
  · rintro ⟨⟩

/-- Clause by clause: a program that waited; the header, the last content page and the mark in flight, the last with its owner's request. -/
theorem witness_PageProgramsEnd :
    ((programming (upload 0 (some .header)) none).assets.upload = some (upload 0 (some .header))
      ∧ (upload 0 (some .header)).job = some .header ∧ (programming (upload 0 (some .header)) none).assets.op = none
      ∧ (programming (upload 0 (some .header)) none).assets.retireList = [])
    ∧ ((programming (upload 0 (some .header)) (some (.program .header))).assets.op = some { kind := .program .header, since := 0 }
      ∧ (upload 0 (some .header)).orphan = false
      ∧ ∃ h, (programming (upload 0 (some .header)) (some (.program .header))).assets.copyOf 0 = .header h)
    ∧ ((programming (upload 1 (some (.page 2))) (some (.program (.page 2)))).assets.op = some { kind := .program (.page 2), since := 0 }
      ∧ AssetLaw (programming (upload 1 (some (.page 2))) (some (.program (.page 2)))))
    ∧ ∃ s : State, s.assets.upload = some (upload 2 (some .completeMark)) ∧ s.assets.op = some { kind := .program .completeMark, since := 0 }
        ∧ keyGet 0 s.assets.nor = some (.header ⟨1, .image, 1, 1, 3, [], true, false, false⟩)
        ∧ ((s.setPort 0 { s.port 0 with requests := [.upload 9 50] }).port 0).requests = [.upload 9 50] := by
  refine ⟨by decide +kernel, ⟨by decide +kernel, rfl, _, rfl⟩, ⟨rfl, programming_page_assetLaw⟩, ?_⟩
  refine ⟨?_, ?_⟩
  · exact
      let s := programming (upload 2 (some .completeMark)) (some (.program .completeMark))
      { s with assets := { s.assets with nor := [(0, .header ⟨1, .image, 1, 1, 3, [], true, false, false⟩)] } }
  · decide +kernel

/-- The notices of a failed program and the end of one whose owner was lost: the owner's request waits, and the owner is the director port or not;
a page, a header and a Complete mark that end well without an owner. -/
theorem witness_PageProgramsEnd_notices :
    (∀ owner : PortId, owner = 0 ∨ owner = 3 →
      let s := withRequests owner [.upload 9 49] (programming { upload 0 (some (.page 1)) with owner := owner } (some (.program (.page 1))))
      s.assets.op = some { kind := .program (.page 1), since := 0 } ∧ (s.port owner).requests = [.upload 9 49]
        ∧ ∃ u, s.assets.upload = some u ∧ u.owner = owner ∧ (u.owner = s.director ↔ owner = 0))
    ∧ (∀ j : Job, j = .header ∨ j = .page 1 ∨ j = .completeMark →
      let s := programming { upload 0 (some j) with orphan := true } (some (.program j))
      s.assets.op = some { kind := .program j, since := 0 } ∧ ∃ u, s.assets.upload = some u ∧ u.orphan = true) := by
  refine ⟨?_, ?_⟩
  · rintro owner (rfl | rfl) <;> exact ⟨rfl, by decide +kernel, _, rfl, rfl, by decide +kernel⟩
  · rintro j (rfl | rfl | rfl) <;> exact ⟨rfl, _, rfl, rfl⟩

/-- A Retired record whose mark is pending or in flight, with its header in asset memory. -/
def marking (op : Option OpKind) : State :=
  { retiredState with assets := { retiredState.assets with
      op := op.map (fun k => { kind := k, since := 0 }), retireList := [0]
      nor := [(0, .header ⟨1, .image, 2, 1, 5, [], true, true, false⟩)] } }

/-- A reclaim that will judge block `next`, or erases block `b`. -/
def reclaiming (next : Nat) (b : Option Nat) : State :=
  { retiredState with assets := { retiredState.assets with
      op := b.map (fun b => { kind := .erase b, since := 0 })
      reclaim := some { asker := 0, next := next, erased := 0, failed := 0, freed := 0, removed := [] } } }

theorem reclaiming_assetLaw : AssetLaw (reclaiming 1 (some 0)) := by
  refine ⟨by decide +kernel, ?_, ?_, ?_, ?_, ?_, ?_, ?_⟩
  · rintro u ⟨⟩
  · rintro n since ⟨⟩
  · rintro u n ⟨⟩
  · rintro j since ⟨⟩
  · rintro b since ⟨⟩; decide
  · rintro x ⟨⟩; decide
  · rintro ⟨⟩

def atTime (now : Ms) (s : State) : State := { s with clock := { s.clock with now := now } }

/-- Clause by clause: a mark to start, and one in flight; block 0, which qualifies, and block 1,022, which does not; an erase of block 0; then
each kind of operation at its time limit, and one a ms before it. -/
theorem witness_MarksAndErasesEnd :
    ((marking none).assets.op = none ∧ (marking none).assets.retireList = 0 :: [])
    ∧ ((marking (some (.mark 0))).assets.op = some { kind := .mark 0, since := 0 } ∧ (marking (some (.mark 0))).assets.retireList = 0 :: []
      ∧ keyGet 0 (marking (some (.mark 0))).assets.nor = some (.header ⟨1, .image, 2, 1, 5, [], true, true, false⟩)
      ∧ (marking (some (.mark 0))).assets.records.find? (fun x => decide (x.first = 0)) = some { image with state := .retired })
    ∧ ((reclaiming 0 none).assets.op = none ∧ (reclaiming 0 none).assets.retireList = [] ∧ (reclaiming 0 none).assets.qualifies 0 = true)
    ∧ ((reclaiming 1022 none).assets.qualifies 1022 = false ∧ 1022 + 1 < 1024)
    ∧ ((reclaiming 1 (some 0)).assets.op = some { kind := .erase 0, since := 0 } ∧ 1 < 1024 ∧ AssetLaw (reclaiming 1 (some 0)))
    ∧ ((atTime 20 (programming (upload 0 (some .header)) (some (.program .header)))).assets.op = some { kind := .program .header, since := 0 }
      ∧ 20 ≤ ((atTime 20 (programming (upload 0 (some .header)) (some (.program .header)))).clock.now - 0).toNat)
    ∧ 20 ≤ ((atTime 20 (marking (some (.mark 0)))).clock.now - 0).toNat
    ∧ 4000 ≤ ((atTime 4000 (reclaiming 1 (some 0))).clock.now - 0).toNat
    ∧ (∀ o, (atTime 19 (marking (some (.mark 0)))).assets.op = some o →
        o.kind = .mark 0 ∧ ((atTime 19 (marking (some (.mark 0)))).clock.now - o.since).toNat < 20)
    ∧ ∀ o, (atTime 3999 (reclaiming 1 (some 0))).assets.op = some o →
        o.kind = .erase 0 ∧ ((atTime 3999 (reclaiming 1 (some 0))).clock.now - o.since).toNat < 4000 := by
  refine ⟨by decide +kernel, by decide +kernel, by decide +kernel, by decide +kernel, ⟨rfl, by decide, reclaiming_assetLaw⟩, by decide +kernel,
    by decide, by decide, ?_, ?_⟩ <;> (rintro o ⟨⟩; decide)

/-- The last block of a reclaim: 1,023, which does not qualify, and an erase with no block left to judge, the request still waiting and gone; a
failed erase of block 0 with blocks left. -/
theorem witness_MarksAndErasesEnd_last :
    (∃ x, (reclaiming 1023 none).assets.reclaim = some x ∧ x.next + 1 = 1024 ∧ (reclaiming 1023 none).assets.qualifies x.next = false)
    ∧ ((reclaiming 1023 none).assets.op = none ∧ (reclaiming 1023 none).assets.retireList = [] ∧ ((reclaiming 1023 none).port 0).requests = [])
    ∧ ((withRequests 0 [.reclaim 5] (reclaiming 1024 (some 1023))).assets.op = some { kind := .erase 1023, since := 0 }
      ∧ ((withRequests 0 [.reclaim 5] (reclaiming 1024 (some 1023))).port 0).requests = [.reclaim 5]
      ∧ ∃ x, (withRequests 0 [.reclaim 5] (reclaiming 1024 (some 1023))).assets.reclaim = some x ∧ x.next = 1024)
    ∧ ((reclaiming 1 (some 0)).assets.op = some { kind := .erase 0, since := 0 }
      ∧ ∃ x, (reclaiming 1 (some 0)).assets.reclaim = some x ∧ x.next < 1024) :=
  ⟨⟨_, rfl, rfl, by decide +kernel⟩, by decide +kernel, ⟨rfl, by decide +kernel, _, rfl, rfl⟩, rfl, _, rfl, by decide⟩

def notice : Notice := { kind := .lapsed, fields := [] }

def withPort (p : PortId) (f : Port → Port) (s : State) : State := s.setPort p (f (s.port p))

/-- Clause by clause: an answer waits; only a notice; nothing; then a queue of fifteen notices, and one of sixteen. -/
theorem witness_TransmitterAndNoticeQueue :
    (∀ n, n ≠ (2 : PortId) → startFrame ((withPort 2 (fun x => { x with answers := [answer 1] }) ready).port n)
        = (withPort 2 (fun x => { x with answers := [answer 1] }) ready).port n)
    ∧ ((withPort 2 (fun x => { x with answers := [answer 1] }) ready).port 2).answers = answer 1 :: []
    ∧ ((withPort 2 (fun x => { x with notices := [notice], noticeCounter := 255 }) ready).port 2).answers = []
    ∧ ((withPort 2 (fun x => { x with notices := [notice], noticeCounter := 255 }) ready).port 2).notices = notice :: []
    ∧ ((ready.port 2).answers = [] ∧ (ready.port 2).notices = [])
    ∧ ((withPort 2 (fun x => { x with notices := List.replicate 15 notice }) ready).port 2).notices.length < 16
    ∧ ((withPort 2 (fun x => { x with notices := notice :: List.replicate 15 notice }) ready).port 2).notices
        = notice :: List.replicate 15 notice
    ∧ (List.replicate 15 notice).length = 15 := by decide +kernel

/-- Clause by clause: eight answers wait; four requests are outstanding; the scan has not ended; a General port asks for GoLive. -/
theorem witness_RequestsAreCheckedInOrder :
    (wireOf (.goLive 1 9) = some (1, 9, 6, []) ∧ 8 ≤ ((withPort 1 (fun x => { x with answers := List.replicate 8 (answer 1) }) ready).port 1).answers.length)
    ∧ (((withPort 1 (fun x => { x with answers := List.replicate 4 (answer 1) }) ready).port 1).answers.length < 8
      ∧ 4 ≤ ((withPort 1 (fun x => { x with answers := List.replicate 4 (answer 1) }) ready).port 1).outstanding ∧ 6 ≠ 58)
    ∧ ((State.reset.port 1).outstanding < 4 ∧ State.reset.assets.scanned = false ∧ 6 ≠ 59)
    ∧ ((ready.port 1).outstanding < 4 ∧ ready.assets.scanned = true ∧ hasRight (ready.port 1).role 6 = false) := by decide +kernel

/-- A claim with every field at an edge, as it lies on the link. -/
theorem witness_RequestPayloadsReadBack :
    (Instr.claim 3 255 32 65535 4294967295 (.picture (.unknown 255)) 0 true).wf = true
    ∧ wireOf (.claim 3 255 32 65535 4294967295 (.picture (.unknown 255)) 0 true)
      = some (3, 255, 22, [.num 32, .num 65535, .num 4294967295, .named 0, .named 255, .num 0, .flag true]) := by decide

theorem witness_ReceivedFramesAreTheirRequests :
    (Instr.clockAdjust 0 255 (-2147483648)).wf = true ∧ wireOf (.clockAdjust 0 255 (-2147483648)) = some (0, 255, 30, [.num (-2147483648)])
    ∧ (([.num (-2147483648)] : List Atom).flatMap Atom.bytes).length ≤ 1024 ∧ (ready.port 0).rx = [] := by decide +kernel

/-- Clause by clause: an empty payload with a wrong CRC; a length field of 1,025. -/
theorem witness_DamagedFramesAreDiscarded :
    ((ready.port 2).rx = [] ∧ ([] : List Byte).length ≤ 1024 ∧ ([0, 0] : List Byte).length = 2
      ∧ ([0, 0] : List Byte) ≠ bytesOf 2 (crc16 ([1, 1, 59] ++ bytesOf 2 0 ++ [])).toNat)
    ∧ 1024 < (4 : Byte).toNat * 256 + (1 : Byte).toNat := by decide +kernel

/-- Live, with a claim held and others waiting, every queue of commands holding one ms step. -/
def queued : State := (claimed small (some (claimBy 0 1 7)) [claimBy 0 2 5, claimBy 2 9 5] live).withPending [.msStep]

theorem queued_steps : ∃ t, step queued = .next t := ⟨_, rfl⟩

theorem queued_regionLaw : RegionLaw queued := by
  refine ⟨⟨Region.base, by decide +kernel⟩, ?_, ?_⟩
  · have h : ∀ r, r ≠ 0 → ∀ g ∈ queued.region r,
        1 ≤ g.layer ∧ g.layer ≤ 3 ∧ 1 ≤ g.width ∧ 1 ≤ g.height ∧ g.col + g.width ≤ 48 ∧ g.row + g.height ≤ 16 := by decide +kernel
    exact fun r g hr hg => h r hr g hg
  · have h : ∀ a b, a ≠ b → ∀ g ∈ queued.region a, ∀ x ∈ queued.region b, g.layer ≠ x.layer := by decide +kernel
    exact fun a b g x _ _ hab hg hx hl => absurd hl (h a b hab g hg x hx)

theorem queued_fixedLaw : FixedLaw queued := by
  have h : ∀ r, (queued.region r = none → (queued.claims r).holder = none ∧ (queued.claims r).waiting = [])
      ∧ ∀ g ∈ queued.region r, g.fixed = false := by decide +kernel
  intro r
  split
  · next hr => exact (h r).1 hr
  · next g hg => exact fun hf => absurd hf (by simp [(h r).2 g hg])

theorem queued_claimSetLaw : ClaimSetLaw queued := by unfold ClaimSetLaw; decide +kernel

theorem queued_rotationLaw : RotationLaw queued := by
  refine ⟨by unfold PlanLaw; decide +kernel, by rintro t ⟨⟩, by rintro b ⟨⟩, by decide +kernel, by decide +kernel, by decide +kernel,
    by decide +kernel, spotsOnce_of_none _ (by decide +kernel)⟩

/-- A tick that replaces the holder just as the dwell has passed. -/
def replacing : State :=
  (claimed { small with lastChange := some (-1) } (some (claimBy 2 9 4)) [claimBy 0 1 5] live).withPending [.frameTimerExpiry 166667]

/-- The laws met before a step; and a step that gives a region a new holder at the end of its dwell. -/
theorem witness_RegionsAndClaimsKeepTheirLaws :
    ((∃ t, step queued = .next t) ∧ RegionLaw queued ∧ FixedLaw queued ∧ WaitLaw queued ∧ ClaimSetLaw queued)
    ∧ ∃ t, step replacing = .next t ∧ replacing.region 1 = some { small with lastChange := some (-1) }
        ∧ (t.claims 1).holder = some (claimBy 0 1 5) ∧ (∀ h ∈ (replacing.claims 1).holder, (claimBy 0 1 5).same h = false)
        ∧ t.region 1 = some { small with lastChange := some 1 } ∧ small.dwell = (t.comp.frame - (-1)).toNat :=
  ⟨⟨queued_steps, queued_regionLaw, queued_fixedLaw, by unfold WaitLaw; decide +kernel, queued_claimSetLaw⟩, _, rfl, by decide +kernel,
    by decide +kernel, by decide +kernel, by decide +kernel, by decide +kernel⟩

/-- A Running clock that ClockAdjust gives 1 ms. -/
def gaining : State := running.withPending [.clockAdjust 0 1 1]

/-- The same by the bytes of a frame. -/
def gainingByFrame : State := running.withPending [.rxFrame 0 (requestFrame 1 30 (bytesOf 4 1))]

theorem witness_ClockScoreAndCapturesKeepTheirLaws :
    ((∃ t, step queued = .next t) ∧ ClockLaw queued ∧ ScoreLaw queued ∧ CaptureLaw queued)
    ∧ (∃ t, step gaining = .next t ∧ gaining.clock.state = .running ∧ t.clock.state = .running ∧ gaining.clock.main < t.clock.main)
    ∧ ∃ t, step gainingByFrame = .next t ∧ gainingByFrame.clock.state = .running ∧ t.clock.state = .running
        ∧ gainingByFrame.clock.main < t.clock.main :=
  ⟨⟨queued_steps, by unfold ClockLaw; decide +kernel, by unfold ScoreLaw; decide +kernel, by unfold CaptureLaw; decide +kernel⟩,
    ⟨_, rfl, by decide +kernel, by decide +kernel, by decide +kernel⟩, _, rfl, by decide +kernel, by decide +kernel, by decide +kernel⟩

theorem witness_PortsAndMonitorsKeepTheirLaws :
    (∃ t, step queued = .next t) ∧ PortLaw queued ∧ RoleLaw queued ∧ MonitorLaw queued ∧ LatchLaw queued :=
  ⟨queued_steps, by unfold PortLaw; decide +kernel, by unfold RoleLaw; decide +kernel, by unfold MonitorLaw; decide +kernel,
    by unfold LatchLaw; decide +kernel⟩

theorem witness_EnginesKeepTheirLaws : (∃ t, step queued = .next t) ∧ RotationLaw queued ∧ MessageLaw queued :=
  ⟨queued_steps, queued_rotationLaw, by unfold MessageLaw; decide +kernel⟩

theorem witness_MemoriesKeepTheirForm : (∃ t, step queued = .next t) ∧ AssetLaw queued :=
  ⟨queued_steps, assetLaw_of_idle _ (by decide +kernel) rfl rfl rfl rfl⟩

/-- A Complete image on pages 11 to 15, the end of block 0, that a waiting claim refers to, while a reclaim erases block 1. -/
def referred : State :=
  let s := claimed small none [{ claimBy 0 2 5 with content := .asset 1 }] live
  { s with pending := [.blockEraseEnd true], assets := { s.assets with
      records := [{ image with first := 11 }], pageMap := allocate 11 5 [(16, .dirty)], op := some { kind := .erase 1, since := 0 }
      reclaim := some { asker := 0, next := 2, erased := 0, failed := 0, freed := 0, removed := [] } } }

theorem referred_assetLaw : AssetLaw referred := by
  refine ⟨by decide +kernel, ?_, ?_, ?_, ?_, ?_, ?_, ?_⟩
  · rintro u ⟨⟩
  · rintro n since ⟨⟩
  · rintro u n ⟨⟩
  · rintro j since ⟨⟩
  · rintro b since ⟨⟩; decide
  · rintro x ⟨⟩; decide
  · rintro ⟨⟩

theorem referred_directoryLaw : DirectoryLaw referred := by
  have hin : ∀ n < 16, 11 ≤ n → keyGet n referred.assets.pageMap = some (.part 11) := by decide +kernel
  have hrecord : ∀ e ∈ referred.assets.records, e = { image with first := 11 } := by decide +kernel
  refine ⟨by decide, by decide, ?_, ?_, by decide, by rintro u ⟨⟩, ?_⟩
  · intro e he _ n h1 h2
    obtain rfl := hrecord e he
    exact hin n h2 h1
  · intro n first h
    have hm : referred.assets.pageMap = [(11, .part 11), (12, .part 11), (13, .part 11), (14, .part 11), (15, .part 11), (16, .dirty)] := by
      decide +kernel
    have hn : 11 ≤ n ∧ n < 16 := by
      by_contra hn
      obtain h16 | h16 := eq_or_ne n 16
      · subst h16
        rw [hm] at h
        cases h
      · have h0 : n ≠ 11 ∧ n ≠ 12 ∧ n ≠ 13 ∧ n ≠ 14 ∧ n ≠ 15 := by omega
        simp [hm, keyGet, Ne.symm h0.1, Ne.symm h0.2.1, Ne.symm h0.2.2.1, Ne.symm h0.2.2.2.1, Ne.symm h0.2.2.2.2, Ne.symm h16] at h
    rw [hin n hn.2 hn.1] at h
    cases h
    exact ⟨_, List.mem_singleton.mpr rfl, rfl, hn.1, hn.2⟩
  · rintro b since ⟨⟩
    refine ⟨rfl, fun e he _ n h1 h2 => ?_⟩
    obtain rfl := hrecord e he
    have h16 : n < 16 := h2
    omega

theorem referred_referenceLaw : ReferenceLaw referred := by
  have hclaims : ∀ r, (referred.claims r).holder = none ∧ ∀ c ∈ (referred.claims r).waiting, c.content = .asset 1 := by decide +kernel
  refine ⟨?_, by decide +kernel, by rintro t ⟨⟩, by rintro b ⟨⟩, ?_⟩
  · rintro r c id (h | h) hc
    · simp [(hclaims r).1] at h
    · rw [(hclaims r).2 c h] at hc
      cases hc
      decide +kernel
  · intro r g id hg hi
    have h : ∀ r, ∀ g ∈ referred.region r, g.glyphSet = none := by decide +kernel
    simp [h r g hg] at hi

theorem witness_DirectoryAndReferencesKeepTheirLaws :
    (∃ t, step referred = .next t) ∧ AssetLaw referred ∧ DirectoryLaw referred ∧ ReferenceLaw referred :=
  ⟨⟨_, rfl⟩, referred_assetLaw, referred_directoryLaw, referred_referenceLaw⟩

/-! ### Each check of WellFormed refuses an ill-formed command (R190) -/

theorem wf_number_fits :
    (Instr.readRegion 0 0 4294967295).wf = true ∧ (Instr.readRegion 0 0 4294967296).wf = false
      ∧ (Instr.setBase 0 0 none (some 4294967296)).wf = false ∧ (Instr.setFill 0 0 7 0 0 4294967296).wf = false
      ∧ (Instr.scoreSet 0 0 ⟨none, none, none, none, none, some 4294967296, none⟩).wf = false
      ∧ (Instr.clockConfig 0 0 ⟨none, none, none, none, none, none, some 4294967296⟩).wf = false
      ∧ (Instr.messageConfig 0 0 ⟨none, none, none, none, some 4294967296⟩).wf = false
      ∧ (Instr.defineRegion 0 0 { defineCorner with holdLimit := some 4294967296 }).wf = false := by decide

theorem wf_signed_number_fits :
    (Instr.clockAdjust 0 0 (-2147483648)).wf = true ∧ (Instr.clockAdjust 0 0 (-2147483649)).wf = false
      ∧ (Instr.clockAdjust 0 0 2147483648).wf = false := by decide

theorem wf_named_value_is_one_byte_beyond_its_list :
    (Instr.setPortRole 0 0 1 (.unknown 6)).wf = true ∧ (Instr.setPortRole 0 0 1 (.unknown 5)).wf = false
      ∧ (Instr.setPortRole 0 0 1 (.unknown 256)).wf = false ∧ (Instr.setEngineRank 0 0 (.unknown 1) 0).wf = false
      ∧ (Instr.setInput 0 0 (.unknown 1) 10).wf = false ∧ (Instr.setMonitor 0 0 (.unknown 35) none none).wf = false
      ∧ (Instr.clearFaults 0 0 (some (.unknown 35))).wf = false ∧ (Instr.setLinkMode 0 0 (.unknown 8) none none).wf = false
      ∧ (Instr.setLinkMode 0 0 (.known .all) (some (.unknown 1)) none).wf = false
      ∧ (Instr.setLinkMode 0 0 (.known .all) none (some [.unknown 1])).wf = false
      ∧ (Instr.claim 0 0 1 1 1 (.picture (.unknown 1)) 0 false).wf = false ∧ (Instr.claim 0 0 1 1 1 (.unknown 4) 0 false).wf = false
      ∧ (Instr.messageSubmit 0 0 1 [65] (.unknown 1) none).wf = false
      ∧ (Instr.uploadBegin 0 0 ⟨1, .unknown 1, none, none⟩).wf = false
      ∧ (Instr.defineRegion 0 0 { defineCorner with policy := some (.unknown 1) }).wf = false
      ∧ (Instr.defineRegion 0 0 { defineCorner with view := some (.unknown 4) }).wf = false
      ∧ (Instr.scoreSet 0 0 ⟨none, none, none, none, none, none, some (.unknown 2)⟩).wf = false := by decide

theorem wf_glyph_code_is_one_byte_and_width_four :
    (Instr.messageSubmit 0 0 1 [256] (.known .normal) none).wf = false ∧ (Instr.rotationContract 0 0 1 (some [256]) none none).wf = false
      ∧ (Instr.uploadBegin 0 0 ⟨1, .known .glyphSet, none, some [4294967295]⟩).wf = true
      ∧ (Instr.uploadBegin 0 0 ⟨1, .known .glyphSet, none, some [4294967296]⟩).wf = false := by decide

theorem wf_payload_fits :
    (Instr.setPriorityMap 0 0 1 (List.replicate 255 0)).wf = false
      ∧ (Instr.uploadLoad 0 0 0 (List.replicate 1019 0)).wf = false ∧ (Instr.rotationSpot 0 0 1 1 1 60 (List.replicate 252 1)).wf = false
      ∧ (Instr.rotationContract 0 0 1 (some (List.replicate 1008 65)) none none).wf = false
      ∧ (Instr.setLinkMode 0 0 (.known .all) none (some (List.replicate 1019 (.known true)))).wf = false
      ∧ (Instr.messageSubmit 0 0 1 (List.replicate 1017 65) (.known .normal) none).wf = false
      ∧ (∀ n, (Instr.uploadBegin 0 0 ⟨1, .known .glyphSet, none, some (List.replicate (65536 + n) 8)⟩).wf = false) := by
  refine ⟨by decide +kernel, by decide +kernel, by decide +kernel, by decide +kernel, by decide +kernel, by decide +kernel, fun n => ?_⟩
  simp [Instr.wf]

theorem wf_events :
    (Instr.startupScanEnd [16384]).wf = false ∧ (Instr.inputFrameArrival .pa 2 1 [0]).wf = false ∧ (Instr.heldEntryLapse 0 0).wf = false
      ∧ (Instr.heldEntryLapse 0 65536).wf = false := by decide

/-! ### The manual's own cases, a step each -/

/-- The outcome, Adjusted and the fields of a port's newest answer. -/
def told (p : PortId) (s : State) : Option (ResultCode × Bool × List Atom) := (s.port p).newest.map (fun a => (a.outcome, a.adjusted, a.fields))

/-- The kinds of the notices a port has not sent whole, oldest first. -/
def noticesOf (p : PortId) (s : State) : List NoticeKind :=
  (match (s.port p).line with
    | some (.notice n _) => [n.kind]
    | some (.answer _) => []
    | none => []) ++ (s.port p).notices.map (fun n => n.kind)

/-- Tag and rank of a wait list. -/
def listOf (r : RegionId) (s : State) : List (Nat × Nat) := (s.claims r).waiting.map (fun w => (w.tag, w.rank))

/-- Regions 7 and 9 of the worked layout, section 1.6. -/
def layout : State :=
  (ready.setRegion 7 (some { regionOf (rectangle 7 1 18 6 12 3) with sponsor := true, dwell := 600 })).setRegion 9
    (some (regionOf (rectangle 9 2 26 7 8 4)))

/-- Section 1.6, steps 2 and 4: a view with an engine's flag; a dwell of 900. -/
theorem test_define_region_view_and_dwell :
    told 0 (after (.defineRegion 0 1 { rectangle 2 1 0 12 12 4 with view := some (.known .mainClock), sponsor := some true, glyphSet := some 4 })
        (withRecords [glyphs] ready)) = some (.badValue, false, [.field .viewBinding])
      ∧ told 0 (after (.defineRegion 0 1 { rectangle 7 1 18 6 12 3 with sponsor := some true, dwell := some 900 }) ready)
        = some (.done, true, [.num 600, .num 60, .num 0]) := by decide +kernel

/-- Section 1.6, steps 6 to 8: region 10 overlaps 7 on layer 1, 9 on layer 2, and nothing on layer 3. -/
theorem test_define_region_overlap :
    told 0 (after (.defineRegion 0 1 (rectangle 10 1 24 8 4 2)) layout) = some (.overlaps, false, [.num 7])
      ∧ told 0 (after (.defineRegion 0 1 (rectangle 10 2 24 8 4 2)) layout) = some (.overlaps, false, [.num 9])
      ∧ ((after (.defineRegion 0 1 { rectangle 10 3 24 8 4 2 with fill := some 5 }) layout).region 10).map (fun g => g.fill) = some 5 := by
  decide +kernel

/-- R10: SetBase with region 0's fill alone; R5: the last pattern's colour; R9: a region that is not defined. -/
theorem test_canvas_settings :
    ((after (.setBase 0 1 (some 3) none) ready).region 0).map (fun g => (g.fill, g.dwell)) = some (3, 30)
      ∧ (after (.setFill 0 1 7 1 2 256) ready).colour 7 = ⟨1, 2, 255⟩
      ∧ told 0 (after (.deleteRegion 0 1 5) ready) = some (.noSuchThing, false, []) := by decide +kernel

/-- The ports of section 2.9, and region 9 held at frame 1029 as after its step 6. -/
def replayPorts (s : State) : State :=
  withPort 1 (fun x => { x with role := .replay }) (withPort 2 (fun x => { x with role := .replay }) (withPort 3 (fun x => { x with role := .sponsor }) s))

def tag11 : Claim := { claimBy 1 11 4 with content := .picture .pa, resume := true }

def tag1 : Claim := { claimBy 0 1 5 with content := .picture .pb, duration := 600, remaining := some 600, resume := true }

def at9 (frame : FrameNo) (lc : Option FrameNo) (holder : Option Claim) (waiting : List Claim) : State :=
  let s := replayPorts ((layout.setRegion 9 (some { regionOf (rectangle 9 2 26 7 8 4) with lastChange := lc })).setClaims 9
    { holder := holder, waiting := waiting, seenWaiting := 0 })
  { s with comp := { s.comp with frame := frame }, inputs := ⟨{ s.inputs.pa with arrival := frame }, { s.inputs.pb with arrival := frame }⟩ }

/-- The next tick, given by the frame timer. -/
def tick (s : State) : State := after (.frameTimerExpiry (s.comp.timerStart + 166667)) s

/-- Section 2.9, step 6: a claim of rank 2 joins three others, behind the one of its rank. -/
theorem test_claim_joins_behind_its_rank :
    let s := after (.claim 2 1 9 22 2 (.fill 3) 0 false) (at9 1000 (some 1000) (some tag11) [tag1, claimBy 2 21 3, claimBy 3 31 2])
    told 2 s = some (.done, false, [.num 2, .num 4, .num 0]) ∧ listOf 9 s = [(1, 5), (21, 3), (31, 2), (22, 2)] := by decide +kernel

/-- Section 2.9, step 10: a full list, whose last entry the claim does not outrank. -/
theorem test_claim_full :
    told 2 (after (.claim 2 1 9 23 2 (.fill 1) 0 false)
      (at9 1030 (some 1030) (some tag1) [claimBy 3 32 6, tag11, claimBy 2 21 3, claimBy 3 31 2])) = some (.full, false, []) := by decide +kernel

/-- Section 2.9, step 8: the displacement of tag 11 at tick 1030, once the dwell has passed. -/
theorem test_tick_displaces :
    let s := tick (at9 1029 (some 1000) (some tag11) [tag1, claimBy 2 21 3, claimBy 3 31 2, claimBy 2 22 2])
    (s.claims 9).holder = some tag1 ∧ listOf 9 s = [(11, 4), (21, 3), (31, 2)] ∧ (s.region 9).bind (fun g => g.lastChange) = some 1030
      ∧ noticesOf 1 s = [.displaced] ∧ noticesOf 2 s = [.evicted] ∧ .holding ∈ noticesOf 0 s := by decide +kernel

/-- Section 2.9, step 7: at tick 1029 the dwell has not passed. -/
theorem test_tick_keeps_within_dwell :
    let s := tick (at9 1028 (some 1000) (some tag11) [tag1, claimBy 2 21 3, claimBy 3 31 2, claimBy 2 22 2])
    (s.claims 9).holder = some tag11 ∧ noticesOf 1 s = [] := by decide +kernel

/-- Section 2.9, steps 12 and 13: a released holder leaves at the next tick without a notice, and the dwell keeps the region empty. -/
theorem test_release_of_a_holder :
    let s := after (.release 3 1 32) (at9 1075 (some 1060) (some (claimBy 3 32 6)) [tag1, tag11, claimBy 2 21 3])
    (s.claims 9).holder = some { claimBy 3 32 6 with mark := some .dropRelease }
      ∧ ((tick s).claims 9).holder = none ∧ listOf 9 (tick s) = [(1, 5), (11, 4), (21, 3)] := by decide +kernel

/-- Section 2.10, step 2: a holder marked Keep at the start of play rejoins the list behind the higher rank. -/
theorem test_tick_clock_start :
    let s0 := at9 2005 (some 2000) (some { tag11 with rank := 5, mark := some .keep }) [claimBy 0 2 6, claimBy 2 24 4, claimBy 3 35 1]
    let s := tick (withMain .running 1000 (s0.setRegion 9 ((s0.region 9).map (fun g => { g with stoppage := true }))))
    (s.claims 9).holder = none ∧ listOf 9 s = [(2, 6), (11, 5), (24, 4), (35, 1)] ∧ noticesOf 1 s = [.displaced] := by decide +kernel

/-- Section 3.5: what supplies the tiles of the worked composition. -/
theorem test_composition :
    let s0 := at9 0 (some 0) (some { tag11 with resume := false }) []
    let s := tick (s0.setInput .pa { (s0.input .pa) with latest := some { width := 6, height := 4, tiles := List.range 24 } })
    ((s.comp.map.map (fun m => m.content 27 8)), (s.comp.map.map (fun m => m.content 30 10)), (s.comp.map.map (fun m => (m.supplier 32 8).region)))
      = (some (.picture .pa 1 1 false 7), some (.picture .pa 4 3 false 22), some 0)
      ∧ (s.monitor (monShort .pa)).condition = true := by decide +kernel

/-- Section 3.6: the tick at which a hold of 60 frames ends. -/
theorem test_hold_limit :
    let s0 := at9 5070 (some 4000) (some tag11) []
    let s := after (.holdLimitFallback 9)
      ((s0.setInput .pa { (s0.input .pa) with lostAt := 5011 }).setMonitor 0 { condition := true, enable := true, latch := true, latched := true })
    (s.claims 9).holder = none ∧ listOf 9 s = [(11, 4)] ∧ noticesOf 1 s = [.displaced] ∧ s.comp.frame = 5071 := by decide +kernel

/-- Section 3.7, counted in periods of 0.1 µs: the edge 8,000 µs after tick 7003 gives none, one 10,000 µs after it does. -/
theorem test_genlock_edge :
    let s := { ready with comp := { ready.comp with frame := 7003, lastTick := 500000, lastEdge := 0, timerStart := 500000, locked := false } }
    (after (.genlockEdge 580000) s).comp.frame = 7003 ∧ (after (.genlockEdge 580000) s).comp.locked = true
      ∧ (after (.genlockEdge 580000) s).comp.timerStart = 580000 ∧ (after (.genlockEdge 600000) s).comp.frame = 7004 := by decide +kernel

/-- Section 4.11, slots 10 to 17 of frame 6000: a Nack sets 31; a second attempt's Ack leaves it; a first attempt's Ack lowers it. -/
theorem test_status_paces :
    ((after (.receiverStatus 7 false true 0 0 true) (mapped (sending 1))).link 7).pacing = 31
      ∧ ((after (.receiverStatus 7 true true 0 4 true) (mapped { sending 2 with pacing := 31 })).link 7).pacing = 31
      ∧ ((after (.receiverStatus 7 true true 0 4 true) (mapped { sending 2 with pacing := 31 })).link 7).hold = 4
      ∧ ((after (.receiverStatus 7 true true 0 0 true) (mapped { sending 1 with pacing := 31 })).link 7).pacing = 30 := by decide +kernel

/-- Section 4.11, slot 56 of frame 6001: the fourth attempt ends without status; the tile is spent and Retry rises with a SourceFault. -/
theorem test_slot_end_spends :
    let s := after (.slotEndNoStatus 7) (mapped { sending 4 with tile := 50, packet := some { packet with tile := 50 } })
    (s.link 7).tile = 51 ∧ (s.link 7).spent = true ∧ (s.monitor (monRetry 7)).condition = true ∧ noticesOf 0 s = [.sourceFault] := by decide +kernel

/-- R67: with scan group 5 reported, the chunk of group 5 comes first, then 4, 7 and so on to 2; chunk j carries the rows of its group. -/
theorem test_packet_chunks :
    let l := (packetChunks 5)
    l.map (fun c => c.group) = [5, 4, 7, 6, 1, 0, 3, 2] ∧ l.map (fun c => c.last) = [false, false, false, false, false, false, false, true]
      ∧ l.head?.map (fun c => c.rows) = some [5, 13, 21, 29, 37, 45, 53, 61] := by decide +kernel

/-- Section 4.13, slots 41 and 42: one packet starts without room while the flag is set, and clears it; then none. -/
theorem test_slot_start_one_ahead :
    let l := { upLink with mode := .oneAhead, room := false, overrun := true, tile := 41, slot := 41 }
    ((after (.slotStart 7) (mapped l)).link 7).packet.isSome = true ∧ ((after (.slotStart 7) (mapped l)).link 7).overrun = false
      ∧ ((after (.slotStart 7) (mapped { l with overrun := false })).link 7).packet = none := by decide +kernel

/-- Section 4.14, frames 3009 and 3020: nine frames without status; a status on a Down link. -/
theorem test_link_goes_down_and_up :
    ((after (.linkDown 7) (linked { upLink with lastStatus := 0 } { live with comp := { live.comp with frame := 7 } })).link 7).down = false
      ∧ ((after (.linkDown 7) (linked { upLink with lastStatus := 0 } { live with comp := { live.comp with frame := 8 } })).link 7).down = true
      ∧ ((after (.receiverStatus 7 true true 0 0 true) (mapped { upLink with down := true, probe := true, packet := some { packet with probe := true } })).link
          7).down = false := by decide +kernel

/-- The worked case of section 5.3, steps 1 and 3: marks within the window. -/
theorem test_clock_mark_slews :
    (after (.clockMark 1 1 754400) (scoring (withMain .running 754321 live))).clock.correction = 79
      ∧ (after (.clockMark 1 1 746380) (scoring (withMain .running 746500 live))).clock.correction = -120 := by decide +kernel

/-- The same case, steps 5, 7 and 8: a mark beyond the window, one within the hysteresis, one beyond it. -/
theorem test_clock_mark_steps_and_sets :
    (after (.clockMark 1 1 732059) (scoring (withMain .running 734380 live))).clock.main = 732059
      ∧ noticesOf 1 (after (.clockMark 1 1 732059) (scoring (withMain .running 734380 live))) = [.resync]
      ∧ (after (.clockMark 1 1 732020) (scoring (withMain .stopped 732059 live))).clock.main = 732059
      ∧ (after (.clockMark 1 1 731800) (scoring (withMain .stopped 732059 live))).clock.main = 731800 := by decide +kernel

/-- R84 and R85: a step off a boundary; at one with C above 0, and below it. -/
theorem test_ms_step :
    (after .msStep (withMain .running 5000 live)).clock.main = 4999
      ∧ (after .msStep (atTime 99 (let s := withMain .running 5000 live; { s with clock := { s.clock with correction := 2 } }))).clock.main = 5000
      ∧ (after .msStep (atTime 99 (let s := withMain .running 5000 live; { s with clock := { s.clock with correction := -2 } }))).clock.main
        = 4998 := by decide +kernel

/-- The worked sequence after section 5.8, with the horn length 1,500: the main expiry at the step of the horn's end sounds on. -/
theorem test_main_expiry_horn :
    let s := after .mainExpiry (withHorn (some 2500) (atTime 2499 (withMain .running 1 live)))
    s.clock.state = .expired ∧ s.clock.horn = some 4000 ∧ noticesOf 0 s = [.captureReady, .expired] := by decide +kernel

/-- R98: the whistle stops the clock before the capture is made, as in section 6.6, step 1. -/
theorem test_whistle :
    let s := after .whistle (withCaptures [] 40 false (atTime 100 (withMain .running 312400 live)))
    s.clock.state = .stopped ∧ s.captures.counter = 41
      ∧ s.captures.held.map (fun e => (e.1, e.2.number, e.2.state, e.2.main)) = [(0, 41, .stopped, 312400)] := by decide +kernel

/-- Section 6.6, step 5: an expiry takes the free slot 0, behind the older capture in slot 1. -/
theorem test_expiry_capture_takes_the_free_slot :
    let s := after .mainExpiry (withCaptures [(1, captureOf 42)] 43 false (withMain .running 1 live))
    s.captures.held.map (fun e => (e.1, e.2.number, e.2.source)) = [(1, 42, .whistle), (0, 44, .expiry)] := by decide +kernel

/-- Section 6.6, step 4: the oldest leaves; the answer names the next one's source, carries Overflow, and leaves one held. -/
theorem test_take_capture :
    let s := after (.takeCapture 0 1) (withCaptures [(0, captureOf 41), (1, { captureOf 42 with source := .request, port := some 1 })] 43 true live)
    s.captures.held.map (fun e => e.2.number) = [42] ∧ s.captures.overflow = false
      ∧ (told 0 s).map (fun a => (a.2.2.drop 10)) = some [.present, .named 3, .flag true, .num 1] := by decide +kernel

/-- R100: a changed score starts the flash. -/
theorem test_score_set :
    (after (.scoreSet 0 1 ⟨some 1000, none, none, none, none, none, none⟩) ready).score.home = 999
      ∧ (after (.scoreSet 0 1 ⟨some 1000, none, none, none, none, none, none⟩) ready).score.flashLeft = 45 := by decide +kernel

/-- R100 and R190: an arrow of none is a presence byte alone; home is its place behind one. -/
theorem test_arrow_presence :
    (told 0 (after (.scoreSet 0 1 ⟨some 1, none, none, none, none, none, none⟩) ready)).map (fun a => a.2.2.drop 6)
        = some [.absent, .num 45, .num 45]
      ∧ (told 0 (after (.scoreSet 0 1 ⟨none, none, none, none, none, none, some (.known .home)⟩) ready)).map (fun a => a.2.2.drop 6)
        = some [.present, .named 0, .num 45, .num 0] := by decide +kernel

/-- R2 and R190: region 0 has no view binding, so ReadRegion gives a presence byte alone. -/
theorem test_view_presence :
    (told 0 (after (.readRegion 0 1 0) ready)).map (fun a => (a.2.2.drop 12).take 3) = some [.num 0, .absent, .absent] := by decide +kernel

/-- A contract of section 7.9 with its account. -/
def account (id target accrued : Nat) : Contract :=
  { terms := { id := id, name := [], target := target, qmin := 192 }, suspended := false, accrued := accrued, history := [], lastCredit := none,
    cut := 0, shown := 0 }

def spotOf (id contract asset slot : Nat) (regions : List Nat) : Spot :=
  { id := id, contract := contract, asset := asset, slot := slot, regions := regions }

/-- Section 7.9 at tick 4999: the rotation's claim waits on region 7, R is 900,000, and no spot of contract 6 fits. -/
def rotationCase : State :=
  let s := (layout.setRegion 9 none).setClaims 7
    { holder := none, waiting := [{ claimBy 0 7 2 with claimant := .engine .rotation, content := .spot }], seenWaiting := 0 }
  let picture (id first : Nat) : AssetRecord :=
    { id := id, kind := .image, width := 12, height := 3, first := first, count := 73, state := .complete }
  withRecords [picture 50 0, picture 51 100] (withMain .stopped 900000
    { s with
      canvas := { s.canvas with mode := .live }
      comp := { s.comp with frame := 4999 }
      rotation := { s.rotation with
        contracts := [account 2 60 240000, account 4 90 300000, account 6 30 100000]
        spots := [spotOf 11 2 50 600 [7, 14], spotOf 12 4 50 600 [7], spotOf 13 4 51 900 [7, 14], spotOf 14 6 52 300 [14]] } })

/-- Section 7.9, tick 5000, region 7: spot 12 is chosen, and the pointer becomes 2. -/
theorem test_rotation_selects_by_lag :
    (tick rotationCase).currentSpot 7 = some { spot := 12, run := 0 } ∧ (tick rotationCase).rotation.pointer = 2
      ∧ rotationCase.rotation.contracts.map (lag 60 rotationCase.clock) = [-9600, 45600, 15200] := by decide +kernel

/-- Section 8.7: 26 of 36 tiles earn nothing under a threshold of 192, 28 earn 199. -/
theorem test_frame_credit :
    let plane : Plane :=
      { region := 7, layer := 1, col := 18, row := 6, width := 12, height := 3, presentable := true, content := .fill 0 ⟨0, 0, 0⟩ }
    let upper : Plane :=
      { region := 9, layer := 2, col := 26, row := 7, width := 8, height := 4, presentable := true, content := .fill 0 ⟨0, 0, 0⟩ }
    let m : ComposedMap := { baseMap with planes := [upper, plane], spots := [{ region := 7, spot := 12, contract := 4, tiles := 36 }] }
    let whole (k : LinkId) : DeliveryRecord := { frame := 0, link := k, delivered := List.range 96, started := 96, nacks := 0 }
    let stale : DeliveryRecord := { whole 3 with delivered := (List.range 96).filter (fun i => decide (i ≠ 20 ∧ i ≠ 21)) }
    (tallyContract true m [stale, whole 4] (account 4 90 300000)).accrued = 300000
      ∧ (tallyContract true m [whole 3, whole 4] (account 4 90 300000)).accrued = 300199 := by decide +kernel

/-- Section 8.9, steps 8 and 10: closing period 2 a second time adds to its history entry. -/
theorem test_next_period_adds_to_history :
    let s := after (.nextPeriod 0 1)
      { live with clock := { live.clock with period := 2 }, rotation := { live.rotation with
          contracts := [{ account 4 90 20000 with history := [(1, 1400000), (2, 50000)] }] } }
    s.rotation.contracts.map (fun c => (c.accrued, c.history)) = [(0, [(1, 1400000), (2, 70000)])] ∧ s.clock.period = 3 := by decide +kernel

/-- R121: a contract with no optional fields has the defaults of the rule. -/
theorem test_rotation_contract_defaults :
    told 3 (after (.rotationContract 3 1 9 none none none) (building 3 { contracts := [], spots := [] } (replayPorts ready)))
      = some (.done, false, [.num 9, .count 0, .num 0, .num 192, .num 1]) := by decide +kernel

/-- Section 9.9, step 1: 130 codes, two of them undrawable, are cut to 120, with the continuation glyph at the end. -/
theorem test_message_submit_cuts_and_substitutes :
    let s := after (.messageSubmit 4 1 7 (5 :: 5 :: List.replicate 128 65) (.known .normal) (some 3)) (crowd (messageRegion ready))
    told 4 s = some (.done, true, [.num 7, .num 120, .flag true, .num 2, .num 3])
      ∧ s.messages.held.map (fun e => e.text) = [63 :: 63 :: (List.replicate 117 65 ++ [126])] ∧ noticesOf 0 s = [.submitted] := by decide +kernel

/-- Section 9.8: the lengths of a pass in regions 16 and 48 tiles wide; section 9.9, step 5: 120 codes. -/
theorem test_pass_length :
    let s := messageRegion ready
    let g := regionOf (rectangle 15 2 0 4 16 1)
    (newPass s { g with glyphSet := some 4 } { entry 1 1 with text := List.replicate 40 65 }).length = 496
      ∧ (newPass s { g with glyphSet := some 4, width := 48 } { entry 1 1 with text := List.replicate 40 65 }).length = 1008
      ∧ (newPass s { g with glyphSet := some 4, width := 48 } { entry 1 1 with text := List.replicate 120 65 }).length = 1488 := by decide +kernel

/-- Section 9.9, step 6: a pass completes with repeats left; its entry rejoins the show order behind a Stoppage entry and starts again. -/
theorem test_pass_complete_repeats :
    let s0 := claimed { regionOf (rectangle 1 1 0 0 48 2) with message := true, glyphSet := some 4 }
      (some { claimBy 0 1 3 with claimant := .engine .message, content := .crawl }) [] running
    let s := after (.passComplete 1) (passing (entry 7 3) false 4 5 (withMessages [] [{ entry 8 1 with style := .stoppage }] s0))
    (s.pass 1).map (fun x => (x.entry.tag, x.entry.passesDone, x.run)) = some (7, 1, 0)
      ∧ s.messages.approved.map (fun e => (e.tag, e.passesDone)) = [(8, 0)] := by decide +kernel

/-- Section 10.9, block 3: its Retired records whose headers lie in it leave, and the pages outside it become Dirty. -/
theorem test_block_erase :
    let record (id first : Nat) : AssetRecord := { id := id, kind := .image, width := 2, height := 1, first := first, count := 5, state := .retired }
    let a : Assets := { ready.assets with
      records := [record 61 33, record 62 48, record 63 61]
      pageMap := allocate 61 5 (allocate 48 5 ((List.range 8).map (fun n => (53 + n, .dirty))))
      op := some { kind := .erase 3, since := 0 }
      reclaim := some { asker := 0, next := 4, erased := 0, failed := 0, freed := 0, removed := [] } }
    let s := after (.blockEraseEnd true) { ready with assets := a }
    s.assets.records.map (fun e => e.id) = [61] ∧ s.assets.pageMap = [(64, .dirty), (65, .dirty)]
      ∧ s.assets.reclaim = some { asker := 0, next := 4, erased := 1, failed := 0, freed := 16, removed := [62, 63] } := by decide +kernel

/-- Section 10.10, steps 1 and 2: the lowest run of five Free pages begins at 48; a reclaim behind the header's program is Busy. -/
theorem test_upload_begin :
    let s0 := { ready with assets := { ready.assets with pageMap := (List.range 48).map (fun n => (n, .dirty)) } }
    let s := after (.uploadBegin 0 1 { id := 60, kind := .known .image, dims := some (2, 1), widths := none }) s0
    s.assets.upload.map (fun u => (u.first, u.count)) = some (48, 5) ∧ s.assets.op.map (fun o => o.kind) = some (.program .header)
      ∧ (s.port 0).requests = [.upload 1 47] ∧ told 0 (after (.assetReclaim 0 2) s) = some (.busy, false, []) := by decide +kernel

/-- R186: a list started at id 5, page 20,000, goes on with id 6, whatever the first page of its records. -/
theorem test_asset_list_start :
    let s := withRecords [{ image with id := 5, first := 100 }, { image with id := 6 }] ready
    (told 0 (after (.assetList 0 1 (some 5) (some 20000)) s)).map (fun a => a.2.2.drop 7) = some
      [.count 1, .num 6, .named 0, .present, .num 2, .num 1, .num 0, .num 5, .num 0, .named 1, .flag false, .present, .num 0, .num 0, .num 0,
        .absent] := by decide +kernel

/-- Section 10.10, steps 7 and 9: a page is done; a finish with pages missing is Incomplete. -/
theorem test_upload_pages :
    let s0 := withPort 0 (fun x => { x with requests := [.upload 1 49] }) (programming (upload 0 (some (.page 1))) (some (.program (.page 1))))
    told 0 (after (.pageProgramEnd true) s0) = some (.done, false, [.num 1, .num 1])
      ∧ (told 0 (after (.uploadFinish 0 2) (uploading (upload 1 none) ready))).map (fun a => a.1) = some .incomplete := by decide +kernel

/-- R176, R190, R197: the answer of a GlyphSet's UploadBegin names 64 and the codes that store it, one of them clamped from 65. -/
theorem test_widths_reported :
    let u : Upload := { upload 0 (some .header) with count := 33, adjusted := true }
    let h : Header := { id := 1, kind := .glyphSet, width := 0, height := 0, count := 33, widths := ([64, 65, 8] : List Nat).map (clamp 0 64),
                        writing := true, complete := false, retired := false }
    programReply .header u (.header h) = ⟨.done, true, [.num 0, .num 33, .num 64, .count 2, .glyph 0, .glyph 1]⟩ := by decide +kernel

/-- R184 and R194: of three hundred ids removed the answer of a reclaim holds 252, in 1,024 payload bytes. -/
theorem test_reclaim_answer_fits :
    let x : Reclaim := { asker := 0, next := 1024, erased := 1, failed := 0, freed := 16, removed := List.replicate 300 7 }
    x.reply.fields.take 4 = [.num 1, .num 0, .num 16, .count 252] ∧ 2 + atomsSize x.reply.fields = 1024 := by decide +kernel

/-- Section 11.8, step 2: a program that ends after its owner was lost aborts the upload, and nobody is answered. -/
theorem test_orphan_upload_is_aborted :
    let s := after (.pageProgramEnd true) (programming { upload 0 (some (.page 1)) with orphan := true } (some (.program (.page 1))))
    s.assets.upload = none ∧ s.assets.retireList = [0] ∧ s.assets.records.map (fun e => e.state) = [.retired] ∧ (s.port 0).newest = none := by
  decide +kernel

/-- Section 11.7, step 1: twenty PeriodReports leave the last sixteen. -/
theorem test_notice_queue_overflow :
    let s := after (.nextPeriod 0 1) (withPort 3 (fun x => { x with line := some (.answer (answer 9)) }) (replayPorts
      { live with rotation := { live.rotation with contracts := (List.range 20).map (fun n => account (n + 1) 0 0) } }))
    (s.port 3).notices.length = 16 ∧ (s.port 3).noticesLost = true
      ∧ (s.port 3).notices.head? = some (periodReport 0 1 (account 5 0 0)) := by decide +kernel

/-- R196: ReadStatus reports NoticesLost and clears it; R193: before the scan has ended it alone is answered. -/
theorem test_read_status :
    ((after (.readStatus 2 1) (withPort 2 (fun x => { x with noticesLost := true }) State.reset)).port 2).noticesLost = false
      ∧ (told 2 (after (.readStatus 2 1) State.reset)).map (fun a => a.1) = some .done
      ∧ told 2 (after (.readClock 2 1) State.reset) = some (.starting, false, []) := by decide +kernel

/-- R189: the CRC with polynomial 1021h, initial value FFFFh and no reflection has the published check value 29B1h over "123456789". -/
theorem test_crc16 : crc16 [0x31, 0x32, 0x33, 0x34, 0x35, 0x36, 0x37, 0x38, 0x39] = 0x29B1#16 := by decide +kernel

/-- R189 and R190: a SetPortTimeout frame laid out by hand but for its CRC, read from the bytes received after two that are no delimiter. -/
theorem test_rx_frame :
    let body : List Byte := [9, 1, 10, 0, 8, 0, 0, 0, 5, 0, 0, 3, 0xE8]
    requestFrame 9 10 [0, 0, 0, 5, 0, 0, 3, 0xE8] = 0xA5#8 :: body ++ bytesOf 2 (crc16 body).toNat
      ∧ ((after (.rxFrame 0 ([1, 2] ++ 0xA5#8 :: body ++ bytesOf 2 (crc16 body).toNat)) ready).port 5).timeout = 1000 := by decide +kernel

/-- R195: a free transmitter takes the answer of the first of two frames received together before the second, a PortReset, empties the queue. -/
theorem test_rx_frames_one_after_another :
    let s := after (.rxFrame 2 (requestFrame 1 59 [] ++ requestFrame 2 58 [0])) ready
    (match (s.port 2).line with
      | some (.answer a) => some (a.seq, a.code)
      | some (.notice _ _) => none
      | none => none) = some (1, 59) ∧ (s.port 2).answers.map (fun a => (a.seq, a.code)) = [(2, 58)] := by decide +kernel

/-- R189 and R196: the bytes of a notice, and of an answer that carries Adjusted and NoticesLost. -/
theorem test_tx_bytes :
    (TxFrame.notice { kind := .lapsed, fields := [.num (-1), .flag true] } 7).bytes.take 11 = [0xA5, 7, 3, 21, 0, 5, 0xFF, 0xFF, 0xFF, 0xFF, 1]
      ∧ (TxFrame.answer { answer 4 with outcome := .badValue, adjusted := true, noticesLost := true, fields := [.ms 258] }).bytes.take 16
        = [0xA5, 4, 2, 5, 0, 10, 3, 5, 0, 0, 0, 0, 0, 0, 1, 2] := by decide +kernel

/-- R194: a fourth outstanding request makes the next Busy, but PortReset is taken. -/
theorem test_busy_port :
    let s := withPort 2 (fun x => { x with requests := List.replicate 4 (.reclaim 1) }) ready
    told 2 (after (.readStatus 2 9) s) = some (.busy, false, []) ∧ told 2 (after (.portReset 2 9 none) s) = some (.done, false, []) := by
  decide +kernel

/-- R192 and R194: a port whose deferred request's answer is still on its line is in use, also after a port reset (R200), which lets the frame
complete; when the line is free again it is not. -/
theorem test_set_port_role_busy :
    told 0 (after (.setPortRole 0 1 5 (.known .replay)) lineAnswer) = some (.busy, false, [])
      ∧ told 0 (after (.setPortRole 0 2 5 (.known .replay)) (after (.portReset 0 1 (some 5)) lineAnswer)) = some (.busy, false, [])
      ∧ ((after (.setPortRole 0 1 5 (.known .replay)) (after (.txFrameEnd 5) lineAnswer)).port 5).role = .replay := by decide +kernel

/-- R40, R99 and R199: the Scoring port falls silent while the clock runs. -/
theorem test_silence_of_the_scoring_port :
    let s := after (.silenceTimeout 1) (withPort 1 (fun x => { x with silentTimer := 2000, withdrawn := true }) (scoring running))
    (s.port 1).silent = true ∧ (s.port 1).withdrawn = false ∧ s.clock.unsupervised = true ∧ .unsupervised ∈ noticesOf 0 s := by decide +kernel

end Sys2Proof.Tests
end

section
/-! SUPPORT. What an operation leaves of the part: `Only` as a relation, and what each update of a field keeps. -/

namespace Sys2Proof.Machine

/-! ### The parts an operation may change -/

theorem Part.same_trans {s t u : State} {x : Part} (h : x.same s t) (k : x.same t u) : x.same s u := by
  cases x <;> simp_all [Part.same]

theorem Part.same_symm {s t : State} {x : Part} (h : x.same s t) : x.same t s := by
  cases x <;> simp_all [Part.same]

@[simp] theorem only_rfl {parts : List Part} {s : State} : Only parts s s := only_refl parts s

theorem Only.trans {parts : List Part} {s t u : State} (h : Only parts s t) (k : Only parts t u) : Only parts s u :=
  ⟨k.1.trans h.1, fun x hx => Part.same_trans (h.2 x hx) (k.2 x hx)⟩

theorem Only.symm {parts : List Part} {s t : State} (h : Only parts s t) : Only parts t s :=
  ⟨h.1.symm, fun x hx => Part.same_symm (h.2 x hx)⟩

theorem Only.mono {a b : List Part} {s t : State} (h : Only a s t) (hab : a ⊆ b) : Only b s t :=
  ⟨h.1, fun x hx => h.2 x fun ha => hx (hab ha)⟩

/-- An operation that changes some of the parts listed leaves the others as they were before it. -/
theorem Only.peel {a parts : List Part} {s t u : State} (h : Only a t u) (ha : a ⊆ parts) : Only parts s u ↔ Only parts s t :=
  ⟨fun k => k.trans (h.mono ha).symm, fun k => k.trans (h.mono ha)⟩

/-- `Only`, part by part. -/
theorem only_iff {parts : List Part} {s t : State} :
    Only parts s t ↔ t.pending = s.pending ∧ (.straps ∉ parts → t.dirsel = s.dirsel ∧ t.ratesel = s.ratesel)
      ∧ (.canvas ∉ parts → t.canvas = s.canvas) ∧ (.arbiter ∉ parts → t.arbiter = s.arbiter) ∧ (.comp ∉ parts → t.comp = s.comp)
      ∧ (.inputs ∉ parts → t.inputs = s.inputs) ∧ (.monitors ∉ parts → t.monitors = s.monitors) ∧ (.links ∉ parts → t.links = s.links)
      ∧ (.clock ∉ parts → t.clock = s.clock) ∧ (.score ∉ parts → t.score = s.score) ∧ (.captures ∉ parts → t.captures = s.captures)
      ∧ (.rotation ∉ parts → t.rotation = s.rotation) ∧ (.exposure ∉ parts → t.exposure = s.exposure)
      ∧ (.messages ∉ parts → t.messages = s.messages) ∧ (.assets ∉ parts → t.assets = s.assets) ∧ (.free ∉ parts → t.free = s.free) := by
  constructor
  · rintro ⟨hp, h⟩
    exact ⟨hp, h .straps, h .canvas, h .arbiter, h .comp, h .inputs, h .monitors, h .links, h .clock, h .score, h .captures, h .rotation,
      h .exposure, h .messages, h .assets, h .free⟩
  · rintro ⟨hp, h⟩
    refine ⟨hp, fun x hx => ?_⟩
    cases x <;> simp_all [Part.same]

section Updates
variable {parts : List Part} {s t : State}

@[simp] theorem only_setPort_iff (p : PortId) (x : Port) : Only parts s (t.setPort p x) ↔ Only parts s t := by simp [only_iff]
@[simp] theorem only_notify (p : PortId) (n : Notice) : Only parts s (notify p n t) ↔ Only parts s t := by simp [only_iff]
@[simp] theorem only_notifyAll (ps : List PortId) (n : Notice) : Only parts s (notifyAll ps n t) ↔ Only parts s t := by simp [only_iff]
@[simp] theorem only_sendAnswer (p : PortId) (q : Byte) (code : Nat) (c : Bool) (r : Reply) :
    Only parts s (sendAnswer p q code c r t) ↔ Only parts s t := by simp [only_iff]
@[simp] theorem only_pump_iff : Only parts s (pump t) ↔ Only parts s t := by simp [only_iff]
@[simp] theorem only_ports (v : Vector Port 6) : Only parts s { t with ports := v } ↔ Only parts s t := by simp [only_iff]
@[simp] theorem only_setLink (h : .links ∈ parts) (k : LinkId) (x : Link) : Only parts s (t.setLink k x) ↔ Only parts s t := by
  simp [only_iff, h]
@[simp] theorem only_setRegion (h : .canvas ∈ parts) (r : RegionId) (x : Option Region) : Only parts s (t.setRegion r x) ↔ Only parts s t := by
  simp [only_iff, h]
@[simp] theorem only_setClaims (h : .arbiter ∈ parts) (r : RegionId) (x : RegionClaims) : Only parts s (t.setClaims r x) ↔ Only parts s t := by
  simp [only_iff, h]
@[simp] theorem only_mapClaims (h : .arbiter ∈ parts) (f : RegionId → RegionClaims → RegionClaims) :
    Only parts s (mapClaims f t) ↔ Only parts s t := by simp [only_iff, h]
@[simp] theorem only_setMonitor (h : .monitors ∈ parts) (m : MonitorId) (x : Monitor) : Only parts s (t.setMonitor m x) ↔ Only parts s t := by
  simp [only_iff, h]
@[simp] theorem only_setInput (h : .inputs ∈ parts) (i : InputId) (x : PictureInput) : Only parts s (t.setInput i x) ↔ Only parts s t := by
  simp [only_iff, h]
@[simp] theorem only_setCurrentSpot (h : .rotation ∈ parts) (r : RegionId) (x : Option CurrentSpot) :
    Only parts s (t.setCurrentSpot r x) ↔ Only parts s t := by simp [only_iff, h]
@[simp] theorem only_setPass (h : .messages ∈ parts) (r : RegionId) (x : Option Pass) : Only parts s (t.setPass r x) ↔ Only parts s t := by
  simp [only_iff, h]
@[simp] theorem only_setClock (h : .clock ∈ parts) (k : Clock) : Only parts s (setClock k t) ↔ Only parts s t := by simp [only_iff, h]
@[simp] theorem only_setCaptures (h : .captures ∈ parts) (x : Captures) : Only parts s (setCaptures x t) ↔ Only parts s t := by
  simp [only_iff, h]
@[simp] theorem only_setAssets (h : .assets ∈ parts) (a : Assets) : Only parts s (setAssets a t) ↔ Only parts s t := by simp [only_iff, h]
@[simp] theorem only_setBuild (h : .rotation ∈ parts) (b : Option Build) : Only parts s (setBuild b t) ↔ Only parts s t := by
  simp [only_iff, h]
@[simp] theorem only_setHeld (h : .messages ∈ parts) (l : List Entry) : Only parts s (setHeld l t) ↔ Only parts s t := by
  simp [only_iff, h]
@[simp] theorem only_setApproved (h : .messages ∈ parts) (l : List Entry) : Only parts s (setApproved l t) ↔ Only parts s t := by
  simp [only_iff, h]
@[simp] theorem only_setRx (p : PortId) (l : List Byte) : Only parts s (setRx p l t) ↔ Only parts s t := by simp [only_iff]
@[simp] theorem only_countSilence : Only parts s (countSilence t) ↔ Only parts s t := by simp [only_iff]
@[simp] theorem only_canvas (h : .canvas ∈ parts) (x : Canvas) : Only parts s { t with canvas := x } ↔ Only parts s t := by simp [only_iff, h]
@[simp] theorem only_arbiter (h : .arbiter ∈ parts) (x : Arbiter) : Only parts s { t with arbiter := x } ↔ Only parts s t := by simp [only_iff, h]
@[simp] theorem only_comp (h : .comp ∈ parts) (x : Compositor) : Only parts s { t with comp := x } ↔ Only parts s t := by simp [only_iff, h]
@[simp] theorem only_monitors (h : .monitors ∈ parts) (x : Vector Monitor 36) : Only parts s { t with monitors := x } ↔ Only parts s t := by simp [only_iff, h]
@[simp] theorem only_rotation (h : .rotation ∈ parts) (x : Rotation) : Only parts s { t with rotation := x } ↔ Only parts s t := by simp [only_iff, h]
@[simp] theorem only_exposure (h : .exposure ∈ parts) (x : Exposure) : Only parts s { t with exposure := x } ↔ Only parts s t := by simp [only_iff, h]
@[simp] theorem only_messages (h : .messages ∈ parts) (x : Messages) : Only parts s { t with messages := x } ↔ Only parts s t := by simp [only_iff, h]
@[simp] theorem only_score (h : .score ∈ parts) (x : Score) : Only parts s { t with score := x } ↔ Only parts s t := by simp [only_iff, h]
@[simp] theorem only_assets (h : .assets ∈ parts) (x : Assets) : Only parts s { t with assets := x } ↔ Only parts s t := by simp [only_iff, h]
@[simp] theorem only_assets_free (h : [.assets, .free] ⊆ parts) (a : Assets) (n : Nat) :
    Only parts s { t with assets := a, free := n } ↔ Only parts s t := Only.peel (by simp [only_iff]) h
@[simp] theorem only_assets_ports (h : .assets ∈ parts) (a : Assets) (v : Vector Port 6) :
    Only parts s { t with assets := a, ports := v } ↔ Only parts s t := by simp [only_iff, h]

end Updates
end Sys2Proof.Machine
end

section
/-! SUPPORT. What the operations on monitors, claims and wait lists leave unchanged. -/

namespace Sys2Proof.Machine
section Blocks
variable {parts : List Part} {s t : State}

/-! ### Monitors and claims -/

@[simp] theorem only_setOffering (h : [.rotation, .messages] ⊆ parts) (e : Engine) (r : RegionId) (b : Bool) :
    Only parts s (t.setOffering e r b) ↔ Only parts s t :=
  Only.peel (by cases e <;> simp [only_iff, State.setOffering]) h

@[simp] theorem only_raise (h : .monitors ∈ parts) (m : MonitorId) (r : Option RegionId) : Only parts s (raise m r t) ↔ Only parts s t :=
  Only.peel (a := [.monitors]) (by simp only [raise]; split_ifs <;> simp) (by simpa using h)

@[simp] theorem only_lower (h : .monitors ∈ parts) (m : MonitorId) : Only parts s (lower m t) ↔ Only parts s t := by simp [lower, h]

@[simp] theorem only_dropHeld (h : .inputs ∈ parts) (i : InputId) : Only parts s (dropHeld i t) ↔ Only parts s t := by
  unfold dropHeld
  split_ifs <;> simp [h]

@[simp] theorem only_dropHeldAll (h : .inputs ∈ parts) : Only parts s (dropHeldAll t) ↔ Only parts s t := by simp [dropHeldAll, h]

@[simp] theorem only_onSetMonitor (m : Named MonitorId) (enable latch : Option Bool) :
    Only [.monitors, .inputs] s (onSetMonitor m enable latch s).1 := by
  cases m <;> simp [onSetMonitor]

@[simp] theorem only_onClearFaults (m : Option (Named MonitorId)) : Only [.monitors, .inputs] s (onClearFaults m s).1 := by
  rcases m with _ | m | m <;> simp [onClearFaults]

@[simp] theorem only_claimNotice (k : NoticeKind) (r : RegionId) (c : Claim) (fields : List Atom) :
    Only parts s (claimNotice k r c fields t) ↔ Only parts s t := by
  unfold claimNotice
  split <;> simp

@[simp] theorem only_engineLost (h : [.rotation, .messages] ⊆ parts) (e : Engine) (r : RegionId) :
    Only parts s (engineLost e r t) ↔ Only parts s t := by simp only [engineLost, only_setOffering h]

@[simp] theorem only_evict (h : [.rotation, .messages] ⊆ parts) (r : RegionId) (c : Claim) (rank : Nat) :
    Only parts s (evict r c rank t) ↔ Only parts s t := by
  unfold evict
  split
  · simp
  · simp only [only_engineLost h]

@[simp] theorem only_joinWait (h : [.arbiter, .rotation, .messages] ⊆ parts) (r : RegionId) (c : Claim) :
    Only parts s (joinWait r c t).1 ↔ Only parts s t := by
  refine Only.peel ?_ h
  unfold joinWait
  simp only
  split
  · simp
  · split
    · simp
    · split_ifs <;> simp

@[simp] theorem only_dropped (h : [.rotation, .messages] ⊆ parts) (r : RegionId) (c : Claim) (b : Bool) :
    Only parts s (dropped r c b t) ↔ Only parts s t := by
  unfold dropped
  split
  · simp
  · split_ifs
    · rfl
    · simp only [only_engineLost h]

@[simp] theorem only_goBack (h : [.arbiter, .rotation, .messages] ⊆ parts) (r : RegionId) (c : Claim) (reason : Atom) (k : NoticeKind)
    (fields : List Atom) : Only parts s (goBack r c reason k fields t) ↔ Only parts s t := by
  refine Only.peel ?_ h
  have hj := (only_joinWait (s := t) (t := t) (List.Subset.refl _) r { c with mark := none }).mpr only_rfl
  unfold goBack
  simp only
  split <;> next u heq => rw [heq] at hj; simpa using hj

@[simp] theorem only_leave (h : [.arbiter, .rotation, .messages] ⊆ parts) (r : RegionId) (c : Claim) (cause : LeaveCause) :
    Only parts s (leave r c cause t) ↔ Only parts s t := by
  refine Only.peel ?_ h
  cases cause
  case fallback => simp only [leave]; split_ifs <;> simp
  all_goals simp [leave]

@[simp] theorem only_promote (h : [.canvas, .arbiter] ⊆ parts) (r : RegionId) (c : Claim) :
    Only parts s (promote r c t) ↔ Only parts s t := by
  refine Only.peel ?_ h
  simp only [promote, only_claimNotice]
  split <;> simp

theorem only_displace (r : RegionId) (h c : Claim) : Only [.canvas, .arbiter, .rotation, .messages] s (displace r h c s) := by
  have hj := (only_joinWait (parts := [.canvas, .arbiter, .rotation, .messages]) (s := s)
    (t := s.setClaims r { s.claims r with holder := none }) (by simp) r { h with mark := none }).mpr (by simp)
  unfold displace
  simp only
  split_ifs
  · split <;> next u heq => rw [heq] at hj; simpa using hj
  · simp

theorem only_leaveStage (r : RegionId) (g : Region) : Only [.arbiter, .rotation, .messages] s (leaveStage r g s).1 := by
  unfold leaveStage
  simp only
  split
  · simp
  · split <;> simp

theorem only_replaceStage (r : RegionId) (g : Region) (b : Bool) (left : Option Claim) :
    Only [.canvas, .arbiter, .rotation, .messages] s (replaceStage r g b left s).1 := by
  unfold replaceStage
  split
  · simp
  · split_ifs
    · exact only_displace ..
    · simp
  · split_ifs <;> simp

theorem only_arbitrate (r : RegionId) (g : Region) : Only [.canvas, .arbiter, .rotation, .messages] s (arbitrate r g s).1 := by
  have h : Only [.canvas, .arbiter, .rotation, .messages] s (leaveStage r g s).1 := (only_leaveStage r g).mono (by decide)
  exact h.trans (only_replaceStage r g _ _)

@[simp] theorem only_offer (h : [.arbiter, .rotation, .messages] ⊆ parts) (e : Engine) (r : RegionId) :
    Only parts s (offer e r t) ↔ Only parts s t := by
  refine Only.peel ?_ h
  simp [offer]

@[simp] theorem only_releaseEngine (h : [.arbiter, .rotation, .messages] ⊆ parts) (e : Engine) (r : RegionId) :
    Only parts s (releaseEngine e r t) ↔ Only parts s t := by
  refine Only.peel ?_ h
  simp [releaseEngine]

@[simp] theorem only_settle (h : [.arbiter, .rotation, .messages] ⊆ parts) (e : Engine) (r : RegionId) :
    Only parts s (settle e r t) ↔ Only parts s t := by
  refine Only.peel ?_ h
  unfold settle
  split_ifs <;> simp

/-- A fold of operations that each change the parts listed alone. -/
theorem only_foldl {α : Type} {f : State → α → State} (hf : ∀ a u, Only parts u (f u a)) (l : List α) : Only parts t (l.foldl f t) := by
  induction l generalizing t with
  | nil => simp
  | cons a rest ih => exact (hf a t).trans ih

@[simp] theorem only_settleAll (h : [.arbiter, .rotation, .messages] ⊆ parts) (e : Engine) :
    Only parts s (settleAll e t) ↔ Only parts s t := by
  refine Only.peel (only_foldl (fun r u => ?_) _) h
  simp

theorem only_reoffer (due : List (Engine × RegionId)) : Only [.arbiter, .rotation, .messages] s (reoffer due s) := by
  refine only_foldl (fun d u => ?_) _
  split_ifs <;> simp

@[simp] theorem only_startedClaims (h : .arbiter ∈ parts) : Only parts s (startedClaims t) ↔ Only parts s t := by simp [startedClaims, h]

@[simp] theorem only_releaseClaims (h : .arbiter ∈ parts) (p : PortId) : Only parts s (releaseClaims p t) ↔ Only parts s t := by
  simp [releaseClaims, h]

end Blocks
end Sys2Proof.Machine
end

section
/-! SUPPORT. What the operations of the Asset Controller, the Capture Slots, the canvas and the two engines leave unchanged. -/

namespace Sys2Proof.Machine
section Blocks
variable {parts : List Part} {s t : State}

/-! ### Asset library -/

@[simp] theorem only_tellUpload (p : PortId) (r : Reply) : Only parts s (tellUpload p r t) ↔ Only parts s t := by simp [tellUpload]

@[simp] theorem only_uploadOwnerLost (h : .assets ∈ parts) (p : PortId) : Only parts s (uploadOwnerLost p t) ↔ Only parts s t := by
  unfold uploadOwnerLost
  split
  · rfl
  · split_ifs <;> simp [h]

@[simp] theorem only_reclaimOn (h : .assets ∈ parts) (x : Reclaim) : Only parts s (reclaimOn x t) ↔ Only parts s t := by
  unfold reclaimOn
  split_ifs <;> simp [h]

theorem only_programStart : Only [.assets] s (programStart s) := by
  unfold programStart
  split
  · simp
  · split
    · simp
    · split_ifs <;> simp

theorem only_markStart : Only [.assets] s (markStart s) := by
  unfold markStart
  split <;> simp

theorem only_programFailed (j : Job) (u : Upload) : Only [.assets, .free] s (programFailed j u s) := by
  simp [programFailed]

theorem only_programEnd (ok : Bool) : Only [.assets, .free] s (programEnd ok s) := by
  unfold programEnd
  split
  · split
    · simp
    · exact only_programFailed ..
  · simp

theorem only_markEnd (ok : Bool) : Only [.assets] s (markEnd ok s) := by
  unfold markEnd
  split
  · simp only
    split_ifs <;> simp
  · simp

theorem only_judgeBlock : Only [.assets] s (judgeBlock s) := by
  unfold judgeBlock
  split
  · simp
  · split_ifs <;> simp

theorem only_eraseEnd (ok : Bool) : Only [.assets, .free] s (eraseEnd ok s) := by
  unfold eraseEnd
  split
  · simp only
    split_ifs
    · simp
    · simp
  · simp

@[simp] theorem only_timeLimit (h : [.assets, .free] ⊆ parts) : Only parts s (timeLimit t) ↔ Only parts s t := by
  refine Only.peel ?_ h
  unfold timeLimit opEnd
  split_ifs
  · split
    · simp
    · split
      · exact only_programEnd _
      · exact (only_markEnd _).mono (by decide)
      · exact only_eraseEnd _
  · simp

theorem only_onUploadBegin (p : PortId) (q : Byte) (f : UploadFields) : Only [.assets] s (onUploadBegin p q f s).1 := by
  unfold onUploadBegin
  split
  · simp
  · simp only
    split_ifs
    · simp
    · simp
    · split <;> simp

theorem only_onUploadLoad (p : PortId) (offset : Nat) (data : List Byte) : Only [.assets] s (onUploadLoad p offset data s).1 := by
  unfold onUploadLoad
  split
  · simp
  · split_ifs <;> simp

theorem only_onUploadCommit (p : PortId) (q : Byte) : Only [.assets] s (onUploadCommit p q s).1 := by
  unfold onUploadCommit
  split
  · simp
  · split_ifs <;> simp

theorem only_onUploadFinish (p : PortId) (q : Byte) : Only [.assets] s (onUploadFinish p q s).1 := by
  unfold onUploadFinish
  split
  · simp
  · split_ifs <;> simp

theorem only_onUploadAbort (p : PortId) : Only [.assets] s (onUploadAbort p s).1 := by
  unfold onUploadAbort
  split
  · simp
  · split_ifs <;> simp

theorem only_onAssetRetire (id : Nat) : Only [.assets] s (onAssetRetire id s).1 := by
  unfold onAssetRetire
  split
  · simp
  · split
    · simp
    · split
      · simp
      · simp
      · split_ifs <;> simp

theorem only_onAssetReclaim (p : PortId) (q : Byte) : Only [.assets] s (onAssetReclaim p q s).1 := by
  unfold onAssetReclaim
  simp only
  split_ifs <;> simp

theorem only_scanEnd (failed : List Nat) : Only [.assets] s (scanEnd failed s) := by
  unfold scanEnd
  split_ifs <;> simp

/-! ### Captures and the canvas -/

@[simp] theorem only_captureEvent (h : .captures ∈ parts) (source : CaptureSource) (port : Option PortId) :
    Only parts s (captureEvent source port t) ↔ Only parts s t := by
  simp only [captureEvent]
  split <;> simp [h]

theorem only_onCapture (p : PortId) : Only [.captures] s (onCapture p s).1 := by simp [onCapture]

theorem only_onTakeCapture : Only [.captures] s (onTakeCapture s).1 := by
  simp only [onTakeCapture]
  split <;> simp

theorem only_regionChanged (r : RegionId) (g : Option Region) : Only [.canvas, .arbiter, .rotation, .messages] s (regionChanged r g s) := by
  simp [regionChanged]

/-! ### Exposure and rotation -/

@[simp] theorem only_takeRecord (h : [.rotation, .exposure, .comp] ⊆ parts) (d : DeliveryRecord) :
    Only parts s (takeRecord d t) ↔ Only parts s t := by
  refine Only.peel ?_ h
  simp only [takeRecord]
  split_ifs
  · split <;> simp [tally, only_iff]
  · simp

@[simp] theorem only_changeContract (h : .rotation ∈ parts) (id : Nat) (f : Contract → Contract) :
    Only parts s (changeContract id f t) ↔ Only parts s t := by simp [changeContract, h]

@[simp] theorem only_countSpot (h : .rotation ∈ parts) (r : RegionId) (g : Region) : Only parts s (countSpot r g t) ↔ Only parts s t := by
  unfold countSpot
  split_ifs
  · split
    · rfl
    · split
      · simp [h]
      · split_ifs <;> simp [h]
  · rfl

@[simp] theorem only_cutSpot (h : .rotation ∈ parts) (r : RegionId) : Only parts s (cutSpot r t) ↔ Only parts s t := by
  unfold cutSpot
  split
  · rfl
  · split <;> simp [h]

@[simp] theorem only_selectSpot (h : .rotation ∈ parts) (r : RegionId) (g : Region) : Only parts s (selectSpot r g t) ↔ Only parts s t := by
  unfold selectSpot
  split <;> simp [h]

theorem only_rotationAct (r : RegionId) (g : Region) (v : Verdict) : Only [.arbiter, .rotation, .messages] s (rotationAct r g v s) := by
  unfold rotationAct
  extract_lets cut t
  have ht : Only [.arbiter, .rotation, .messages] s t := by
    unfold t cut
    split
    · simp
    · split_ifs <;> simp
  split <;> simpa using ht

@[simp] theorem only_notifySponsors (ns : List Notice) : Only parts s (notifySponsors ns t) ↔ Only parts s t :=
  Only.peel (a := []) (only_foldl (fun n u => by simp) ns) (by simp)

@[simp] theorem only_replaceRotation (h : [.arbiter, .rotation, .messages] ⊆ parts) (plan : Plan) (cause : Nat) :
    Only parts s (replaceRotation plan cause t) ↔ Only parts s t := by
  refine Only.peel ?_ h
  simp [replaceRotation]

@[simp] theorem only_periodBoundary (h : [.arbiter, .rotation, .messages] ⊆ parts) (n : Nat) :
    Only parts s (periodBoundary n t) ↔ Only parts s t := by
  refine Only.peel ?_ h
  simp only [periodBoundary]
  split <;> simp

theorem only_onEndLive : Only [.canvas, .arbiter, .rotation, .messages] s (onEndLive s).1 := by
  unfold onEndLive
  split_ifs <;> simp

theorem only_onRotationBegin (p : PortId) : Only [.rotation] s (onRotationBegin p s).1 := by
  unfold onRotationBegin
  split <;> simp

theorem only_onRotationContract (p : PortId) (id : Nat) (name : Option (List Nat)) (target qmin : Option Nat) :
    Only [.rotation] s (onRotationContract p id name target qmin s).1 := by
  unfold onRotationContract
  split
  · simp
  · simp only
    split_ifs <;> simp

theorem only_onRotationSpot (p : PortId) (spot contract asset slot : Nat) (regions : List Nat) :
    Only [.rotation] s (onRotationSpot p spot contract asset slot regions s).1 := by
  unfold onRotationSpot
  split
  · simp
  · simp only
    split_ifs <;> simp

theorem only_onRotationDiscard (p : PortId) : Only [.rotation] s (onRotationDiscard p s).1 := by
  unfold onRotationDiscard
  split <;> simp

theorem only_onRotationCommit (p : PortId) : Only [.arbiter, .rotation, .messages] s (onRotationCommit p s).1 := by
  unfold onRotationCommit
  split
  · simp
  · split
    · simp
    · simp only
      split_ifs <;> simp

theorem only_onContractSuspend (id : Nat) (on : Bool) : Only [.rotation] s (onContractSuspend id on s).1 := by
  unfold onContractSuspend
  split <;> simp

@[simp] theorem only_buildOwnerLost (h : .rotation ∈ parts) (p : PortId) : Only parts s (buildOwnerLost p t) ↔ Only parts s t := by
  unfold buildOwnerLost
  split
  · split_ifs <;> simp [h]
  · rfl

/-! ### Messages -/

@[simp] theorem only_tellSubmitter (k : NoticeKind) (e : Entry) (fields : List Atom) :
    Only parts s (tellSubmitter k e fields t) ↔ Only parts s t := by simp [tellSubmitter]

theorem only_onMessageSubmit (p : PortId) (tag : Nat) (text : List Nat) (style : Named Style) (repeats : Option Nat) :
    Only [.arbiter, .rotation, .messages] s (onMessageSubmit p tag text style repeats s).1 := by
  unfold onMessageSubmit
  split
  · simp
  split
  · simp
  split
  · simp
  split
  · simp
  split
  · simp
  split
  · simp
  split
  simp only
  split_ifs <;> simp

theorem only_onMessageConfig (f : MessageFields) : Only [.messages] s (onMessageConfig f s).1 := by simp [onMessageConfig]

theorem only_onMessageApprove (port tag : Nat) : Only [.arbiter, .rotation, .messages] s (onMessageApprove port tag s).1 := by
  unfold onMessageApprove
  split
  · simp
  · split
    · simp
    · split_ifs
      · simp
      · split <;> simp

theorem only_onMessageReject (port tag : Nat) : Only [.messages] s (onMessageReject port tag s).1 := by
  unfold onMessageReject
  split
  · simp
  · split
    · simp
    · split_ifs <;> simp

theorem only_onMessageWithdraw (p : PortId) (tag : Nat) (port : Option Nat) :
    Only [.arbiter, .rotation, .messages] s (onMessageWithdraw p tag port s).1 := by
  unfold onMessageWithdraw
  simp only
  split_ifs
  · simp
  · split
    · simp
    · split_ifs
      · simp
      · simp
      · split
        · simp
        · split <;> simp

@[simp] theorem only_lapseHeld (h : .messages ∈ parts) : Only parts s (lapseHeld t) ↔ Only parts s t := by
  refine Only.peel (a := [.messages]) ?_ (by simpa using h)
  have hset : Only [.messages] t (setHeld (t.messages.held.filter (fun e => !e.lapses t.messages.settings.holdLimit t.clock.now)) t) := by simp
  exact hset.trans (only_foldl (fun e u => by simp) _)

@[simp] theorem only_showEnded (cause : Atom) (e : Entry) : Only parts s (showEnded cause e t) ↔ Only parts s t := by simp [showEnded]

@[simp] theorem only_interruptPass (h : .messages ∈ parts) (r : RegionId) (x : Pass) :
    Only parts s (interruptPass r x t) ↔ Only parts s t := by
  unfold interruptPass
  simp only
  split_ifs <;> simp [h]

@[simp] theorem only_completePass (h : .messages ∈ parts) (r : RegionId) (x : Pass) : Only parts s (completePass r x t) ↔ Only parts s t := by
  unfold completePass
  simp only
  split_ifs <;> simp [h]

@[simp] theorem only_countPass (h : .messages ∈ parts) (r : RegionId) : Only parts s (countPass r t) ↔ Only parts s t := by
  unfold countPass
  split_ifs
  · split
    · rfl
    · split_ifs <;> simp [h]
  · rfl

@[simp] theorem only_startPass (h : .messages ∈ parts) (r : RegionId) (g : Region) : Only parts s (startPass r g t) ↔ Only parts s t := by
  unfold startPass
  split <;> simp [h]

theorem only_messageAct (r : RegionId) (g : Region) (v : Verdict) : Only [.arbiter, .rotation, .messages] s (messageAct r g v s) := by
  unfold messageAct
  extract_lets t u
  have ht : Only [.arbiter, .rotation, .messages] s t := by
    unfold t
    split
    · simp
    · split
      · split <;> simp
      · simp
  have hu : Only [.arbiter, .rotation, .messages] s u := by
    unfold u
    split <;> simpa using ht
  simpa using hu

@[simp] theorem only_startedPasses (h : [.arbiter, .rotation, .messages] ⊆ parts) : Only parts s (startedPasses t) ↔ Only parts s t := by
  refine Only.peel ?_ h
  simp [startedPasses]

@[simp] theorem only_resetMessages (h : [.arbiter, .rotation, .messages] ⊆ parts) : Only parts s (resetMessages t) ↔ Only parts s t := by
  refine Only.peel ?_ h
  simp [resetMessages]

end Blocks
end Sys2Proof.Machine
end

section
/-! SUPPORT. What the operations of the clock, the ports, the compositor and the links leave unchanged. -/

namespace Sys2Proof.Machine
section Blocks
variable {parts : List Part} {s t : State}

/-! ### Clock and score -/

@[simp] theorem only_tellClock (k : NoticeKind) (fields : List Atom) : Only parts s (tellClock k fields t) ↔ Only parts s t := by
  simp [tellClock]

@[simp] theorem only_mainExpiry (h : [.clock, .captures] ⊆ parts) : Only parts s (mainExpiry t) ↔ Only parts s t := by
  refine Only.peel ?_ h
  simp [mainExpiry]

@[simp] theorem only_possessionExpiry (h : [.clock, .captures] ⊆ parts) : Only parts s (possessionExpiry t) ↔ Only parts s t := by
  refine Only.peel ?_ h
  simp [possessionExpiry]

@[simp] theorem only_clockStep (h : [.clock, .captures] ⊆ parts) : Only parts s (clockStep t) ↔ Only parts s t := by
  refine Only.peel ?_ h
  simp only [clockStep]
  split_ifs <;> simp

theorem only_onClockStart : Only [.arbiter, .clock, .rotation, .messages] s (onClockStart s).1 := by
  unfold onClockStart
  split
  · simp
  · simp
  · split <;> simp

@[simp] theorem only_stopClock (h : .clock ∈ parts) : Only parts s (stopClock t) ↔ Only parts s t := by simp [stopClock, h]

theorem only_onClockStop : Only [.clock] s (onClockStop s).1 := by
  unfold onClockStop
  split <;> simp

theorem only_whistleEdge : Only [.clock, .captures] s (whistleEdge s) := by
  unfold whistleEdge whistleTaken
  simp only
  split_ifs <;> simp

theorem only_onClockSet (main possession : Option Nat) : Only [.clock] s (onClockSet main possession s).1 := by
  unfold onClockSet
  split_ifs <;> simp

theorem only_onClockAdjust (delta : Int) : Only [.clock, .captures] s (onClockAdjust delta s).1 := by
  simp only [onClockAdjust]
  split <;> simp

theorem only_onPossessionReset (value : Option Nat) : Only [.clock] s (onPossessionReset value s).1 := by simp [onPossessionReset]

theorem only_onNextPeriod : Only [.arbiter, .clock, .rotation, .messages] s (onNextPeriod s).1 := by
  unfold onNextPeriod
  split_ifs <;> simp

theorem only_onClockConfig (f : ClockFields) : Only [.clock, .score] s (onClockConfig f s).1 := by
  unfold onClockConfig
  split <;> simp [only_iff]

@[simp] theorem only_superviseClock (h : [.clock, .monitors] ⊆ parts) : Only parts s (superviseClock t) ↔ Only parts s t := by
  refine Only.peel ?_ h
  simp [superviseClock]

theorem only_onClockMark (mark : Nat) : Only [.clock, .captures, .monitors] s (onClockMark mark s).1 := by
  simp only [onClockMark]
  split_ifs <;> simp

@[simp] theorem only_setUnsupervised (h : [.clock, .monitors] ⊆ parts) : Only parts s (setUnsupervised t) ↔ Only parts s t := by
  refine Only.peel ?_ h
  simp [setUnsupervised]

theorem only_onScoreSet (f : ScoreFields) : Only [.score] s (onScoreSet f s).1 := by
  unfold onScoreSet
  split
  · simp
  · split <;> simp

theorem only_onMatchReset : Only [.arbiter, .monitors, .clock, .score, .captures, .rotation, .messages] s (onMatchReset s).1 := by
  unfold onMatchReset
  split
  · simp
  · rw [only_resetMessages (by decide), only_lower (by decide)]
    simp [only_iff]

/-! ### Control ports -/

@[simp] theorem only_portLost (h : [.arbiter, .rotation, .assets] ⊆ parts) (p : PortId) : Only parts s (portLost p t) ↔ Only parts s t := by
  refine Only.peel ?_ h
  simp [portLost]

theorem only_becomeSilent (p : PortId) : Only [.arbiter, .monitors, .clock, .rotation, .assets] s (becomeSilent p s) := by
  simp only [becomeSilent]
  split <;> simp

@[simp] theorem only_silenceExpiry (h : [.arbiter, .monitors, .clock, .rotation, .assets] ⊆ parts) (p : PortId) :
    Only parts s (silenceExpiry p t) ↔ Only parts s t := by
  refine Only.peel ?_ h
  unfold silenceExpiry
  split
  · exact only_becomeSilent p
  · simp

@[simp] theorem only_frameArrives (h : .monitors ∈ parts) (p : PortId) : Only parts s (frameArrives p t) ↔ Only parts s t := by
  simp only [frameArrives]
  split <;> simp [h]

theorem only_settleOverdue : Only [.arbiter, .monitors, .clock, .rotation, .assets, .free] s (settleOverdue s) := by
  simpa [settleOverdue] using only_foldl (fun p u => by simp) allPorts

theorem only_msStep : Only [.arbiter, .monitors, .clock, .captures, .rotation, .messages, .assets, .free] s (msStep s) := by
  simpa [msStep] using only_settleOverdue.mono (by decide)

theorem only_msIf (due : Bool) : Only [.arbiter, .monitors, .clock, .captures, .rotation, .messages, .assets, .free] s (msIf due s) := by
  unfold msIf
  split
  · exact only_msStep
  · simp

theorem only_onSetPortRole (port : Nat) (role : Named Role) : Only [] s (onSetPortRole port role s).1 := by
  unfold onSetPortRole
  split
  · simp
  · split
    · simp
    · split
      · simp
      · simp
      · split_ifs <;> simp

theorem only_onSetPortTimeout (port ms : Nat) :
    Only [.arbiter, .monitors, .clock, .rotation, .assets] s (onSetPortTimeout port ms s).1 := by
  unfold onSetPortTimeout
  split <;> simp

theorem only_onPortReset (p : PortId) (port : Option Nat) : Only [.arbiter, .rotation, .assets] s (onPortReset p port s).1 := by
  unfold onPortReset
  split
  · simp
  · split <;> simp [resetPort]

theorem only_onSetPriorityMap (port : Nat) (ranks : List Nat) : Only [] s (onSetPriorityMap port ranks s).1 := by
  unfold onSetPriorityMap
  split
  · simp
  · split <;> simp

@[simp] theorem only_txEnd (p : PortId) : Only parts s (txEnd p t) ↔ Only parts s t := by simp [txEnd]

@[simp] theorem only_byteGap (p : PortId) : Only parts s (byteGap p t) ↔ Only parts s t := by simp [byteGap]

/-! ### Inputs and the composed map -/

@[simp] theorem only_settleShort (h : .monitors ∈ parts) (i : InputId) : Only parts s (settleShort i t) ↔ Only parts s t := by
  unfold settleShort
  split <;> simp [h]

theorem only_compose : Only [.comp, .monitors, .score] s (compose s) := by
  rw [compose, only_settleShort (by decide), only_settleShort (by decide)]
  simp [only_iff]

theorem only_inputArrival (i : InputId) (width height : Nat) (tiles : List Nat) :
    Only [.inputs, .monitors] s (inputArrival i width height tiles s) := by
  unfold inputArrival
  split <;> simp

@[simp] theorem only_inputTick (h : [.inputs, .monitors] ⊆ parts) (i : InputId) : Only parts s (inputTick i t) ↔ Only parts s t := by
  refine Only.peel ?_ h
  simp only [inputTick]
  split <;> simp

theorem only_onSetInput (i : Named InputId) (limit : Nat) : Only [.inputs] s (onSetInput i limit s).1 := by
  unfold onSetInput
  split <;> simp

/-! ### Panel links -/

@[simp] theorem only_changeLink (h : [.links, .monitors] ⊆ parts) (k : LinkId) (f : Link → Link) :
    Only parts s (changeLink k f t) ↔ Only parts s t := by
  refine Only.peel ?_ h
  simp only [changeLink]
  split <;> simp

theorem only_statusTaken (k : LinkId) (ack room : Bool) (group : Fin 8) (hold : Byte) (afterLast : Bool) :
    Only [.links, .monitors] s (statusTaken k ack room group hold afterLast s) := by
  simp only [statusTaken, only_changeLink (List.Subset.refl _)]
  split <;> simp

@[simp] theorem only_settleMonitor (h : .monitors ∈ parts) (m : MonitorId) (b : Bool) : Only parts s (settleMonitor m b t) ↔ Only parts s t := by
  unfold settleMonitor
  split <;> simp [h]

@[simp] theorem only_forceClose (h : [.links, .monitors, .rotation, .exposure, .comp] ⊆ parts) (k : LinkId) :
    Only parts s (forceClose k t) ↔ Only parts s t := by
  refine Only.peel ?_ h
  unfold forceClose
  split <;> simp [closeFrame]

theorem only_forceCloseAll : Only [.links, .monitors, .rotation, .exposure, .comp] s (forceCloseAll s) := only_foldl (fun k u => by simp) _

theorem only_slotStart (k : LinkId) : Only [.links, .monitors, .rotation, .exposure, .comp] s (slotStart k s) := by
  simp only [slotStart]
  split <;> simp

theorem only_slotEnd (k : LinkId) : Only [.links, .monitors] s (slotEnd k s) := by
  unfold slotEnd
  split <;> simp

theorem only_frameClose (k : LinkId) : Only [.links, .monitors, .rotation, .exposure, .comp] s (frameClose k s) := by
  unfold frameClose
  split <;> simp

@[simp] theorem only_linksTick (h : [.links, .monitors] ⊆ parts) : Only parts s (linksTick t) ↔ Only parts s t := by
  refine Only.peel (only_foldl (fun k u => ?_) _) h
  simp only [linkTick]
  split <;> simp

theorem only_onSetLinkMode (link : Named LinkSel) (mode : Option (Named FlowMode)) (pattern : Option (List (Named Bool))) :
    Only [.links] s (onSetLinkMode link mode pattern s).1 := by
  unfold onSetLinkMode
  simp only
  split
  · simp
  · split
    · simp
    · split
      · simp
      · exact only_foldl (fun k u => by simp) _

/-! ### Genlock -/

@[simp] theorem only_advance (h : .comp ∈ parts) (n : Nat) : Only parts s (advance n t) ↔ Only parts s t := by simp [advance, h]

@[simp] theorem only_lockTo (h : [.comp, .monitors] ⊆ parts) (n : Nat) : Only parts s (lockTo n t) ↔ Only parts s t := by
  refine Only.peel ?_ h
  simp only [lockTo]
  split <;> simp

theorem only_genlockLoss (n : Nat) : Only [.comp, .monitors] s (genlockLoss n s) := by
  unfold genlockLoss
  split <;> simp

end Blocks
end Sys2Proof.Machine
end

section
/-! SUPPORT. The claims of one region after an operation, and what of them every operation but an evaluation keeps (R20, R23, R25). -/

namespace Sys2Proof.Machine

/-! ### Parts that stay, by name -/

section Stays
variable {parts : List Part} {s t : State}

theorem Only.canvas (h : Only parts s t) (hx : .canvas ∉ parts := by decide) : t.canvas = s.canvas := h.2 .canvas hx
theorem Only.arbiter (h : Only parts s t) (hx : .arbiter ∉ parts := by decide) : t.arbiter = s.arbiter := h.2 .arbiter hx
theorem Only.comp (h : Only parts s t) (hx : .comp ∉ parts := by decide) : t.comp = s.comp := h.2 .comp hx

end Stays

/-- Regions are read from the canvas alone. -/
theorem region_of_canvas {s t : State} (h : t.canvas = s.canvas) (r : RegionId) : t.region r = s.region r := by simp [State.region, h]

/-- Claims are read from the arbiter alone. -/
theorem claims_of_arbiter {s t : State} (h : t.arbiter = s.arbiter) (r : RegionId) : t.claims r = s.claims r := by simp [State.claims, h]

/-! ### Wait lists (R23, R25) -/

theorem claim_same_iff (a b : Claim) : a.same b = true ↔ a.claimant = b.claimant ∧ a.tag = b.tag := by simp [Claim.same]

theorem insertClaim_perm (c : Claim) (l : List Claim) : (insertClaim c l).Perm (c :: l) := by
  induction l with
  | nil => simp [insertClaim]
  | cons w rest ih =>
    unfold insertClaim
    split
    · exact (ih.cons w).trans (List.Perm.swap ..)
    · rfl

/-- A wait list in the order of R23: highest rank first. -/
def Ranked (l : List Claim) : Prop := l.Pairwise (fun a b => b.rank ≤ a.rank)

theorem ranked_insertClaim {c : Claim} {l : List Claim} (h : Ranked l) : Ranked (insertClaim c l) := by
  induction l with
  | nil => simp [insertClaim, Ranked]
  | cons w rest ih =>
    obtain ⟨hw, hrest⟩ := List.pairwise_cons.mp h
    unfold insertClaim
    split
    · next hle =>
      refine List.pairwise_cons.mpr ⟨fun a ha => ?_, ih hrest⟩
      rcases List.mem_cons.mp ((insertClaim_perm c rest).mem_iff.mp ha) with rfl | ha
      · exact hle
      · exact hw a ha
    · next hlt =>
      refine List.pairwise_cons.mpr ⟨fun a ha => ?_, h⟩
      rcases List.mem_cons.mp ha with rfl | ha
      · omega
      · have := hw a ha
        omega

/-- What a wait list `x` may be after claim `c` has come to it (R25): as it was, or with `c` in its place among the entries kept. -/
def Joins (c : Claim) (x w : List Claim) : Prop :=
  w = x ∨ ∃ l, l <+: x ∧ (x.length ≤ 4 → l.length < 4) ∧ w = insertClaim c l

/-- Of all the claims, those of region `r` become `x`, and the others stay. -/
structure ClaimsBecome (r : RegionId) (x : RegionClaims) (s t : State) : Prop where
  read : ∀ n, t.claims n = if n = r then x else s.claims n

section ClaimsBecome
variable {r : RegionId} {x y : RegionClaims} {s t u : State}

theorem ClaimsBecome.self (h : ClaimsBecome r x s t) : t.claims r = x := by simp [h.read r]

theorem ClaimsBecome.other (h : ClaimsBecome r x s t) {n : RegionId} (hn : n ≠ r) : t.claims n = s.claims n := by
  simp [h.read n, hn]

theorem ClaimsBecome.trans (h : ClaimsBecome r x s t) (k : ClaimsBecome r y t u) : ClaimsBecome r y s u := by
  refine ⟨fun n => ?_⟩
  rw [k.read n, h.read n]
  split_ifs <;> rfl

theorem claimsBecome_refl (r : RegionId) (s : State) : ClaimsBecome r (s.claims r) s s := by
  refine ⟨fun n => ?_⟩
  split_ifs with h
  · rw [h]
  · rfl

theorem claimsBecome_setClaims (r : RegionId) (x : RegionClaims) (s : State) : ClaimsBecome r x s (s.setClaims r x) :=
  ⟨fun n => claims_setClaims s r n x⟩

theorem ClaimsBecome.congr (h : ClaimsBecome r x s t) (hu : u.arbiter = t.arbiter) : ClaimsBecome r x s u :=
  ⟨fun n => (claims_of_arbiter hu n).trans (h.read n)⟩

end ClaimsBecome

/-- What a claim that comes to a wait list does (R25). -/
theorem joinWait_cases (r : RegionId) (c : Claim) (s : State) :
    (∃ u l, joinWait r c s = (u, true) ∧ l <+: (s.claims r).waiting ∧ ((s.claims r).waiting.length ≤ 4 → l.length < 4)
        ∧ ClaimsBecome r { s.claims r with waiting := insertClaim c l } s u)
      ∨ joinWait r c s = (s, false) := by
  unfold joinWait
  simp only
  split
  · next h => exact .inl ⟨_, _, rfl, List.prefix_refl _, fun _ => h, claimsBecome_setClaims ..⟩
  · split
    · exact .inr rfl
    · next last hlast =>
      split
      · refine .inl ⟨_, _, rfl, List.dropLast_prefix _, fun h => ?_, (claimsBecome_setClaims ..).congr ?_⟩
        · simp; omega
        · exact ((only_evict (parts := [.rotation, .messages]) (List.Subset.refl _) ..).mpr only_rfl).arbiter
      · exact .inr rfl

theorem joinWait_claims (r : RegionId) (c : Claim) (s : State) :
    ∃ w, Joins c (s.claims r).waiting w ∧ ClaimsBecome r { s.claims r with waiting := w } s (joinWait r c s).1 := by
  rcases joinWait_cases r c s with ⟨u, l, h, hl, h4, hu⟩ | h
  · exact ⟨_, .inr ⟨l, hl, h4, rfl⟩, by rw [h]; exact hu⟩
  · exact ⟨_, .inl rfl, by rw [h]; exact claimsBecome_refl r s⟩

/-! ### What an operation keeps of a region's claims -/

/-- The live claims on a region, its holder first. -/
def RegionClaims.live (x : RegionClaims) : List Claim := x.holder.toList ++ x.waiting

/-- The tags of a port's claims in a list (R20). -/
def tagsOf (p : PortId) (l : List Claim) : List Nat := (l.filter (fun c => decide (c.claimant = .port p))).map (fun c => c.tag)

/-- The wait list of a region is as R23 has it. -/
def RegionClaims.ordered (x : RegionClaims) : Prop := x.waiting.length ≤ 4 ∧ Ranked x.waiting

/-- What became of a region's claims `x`: the wait list is still as R23 has it, and no port has a claim it did not have. -/
structure Lawful (x y : RegionClaims) : Prop where
  ordered : x.ordered → y.ordered
  fewer : ∀ p, (tagsOf p y.live).Subperm (tagsOf p x.live)

/-- A holder is a holder that was there before. -/
def HolderStays (x y : RegionClaims) : Prop := ∀ c, y.holder = some c → ∃ h, x.holder = some h ∧ c.same h = true

/-- What every operation but a promotion leaves of a region's claims. -/
structure Kept (x y : RegionClaims) : Prop extends Lawful x y where
  holder : HolderStays x y

theorem Lawful.trans {x y z : RegionClaims} (h : Lawful x y) (k : Lawful y z) : Lawful x z :=
  ⟨k.ordered ∘ h.ordered, fun p => (k.fewer p).trans (h.fewer p)⟩

theorem claim_same_refl (c : Claim) : c.same c = true := by simp [claim_same_iff]

theorem HolderStays.trans {x y z : RegionClaims} (h : HolderStays x y) (k : HolderStays y z) : HolderStays x z := by
  intro c hc
  obtain ⟨d, hd, hcd⟩ := k c hc
  obtain ⟨e, he, hde⟩ := h d hd
  rw [claim_same_iff] at hcd hde
  exact ⟨e, he, (claim_same_iff c e).mpr ⟨hcd.1.trans hde.1, hcd.2.trans hde.2⟩⟩

theorem Kept.refl (x : RegionClaims) : Kept x x := ⟨⟨id, fun _ => List.Subperm.refl _⟩, fun c hc => ⟨c, hc, claim_same_refl c⟩⟩

theorem Kept.trans {x y z : RegionClaims} (h : Kept x y) (k : Kept y z) : Kept x z :=
  ⟨h.toLawful.trans k.toLawful, h.holder.trans k.holder⟩

theorem tagsOf_append (p : PortId) (l m : List Claim) : tagsOf p (l ++ m) = tagsOf p l ++ tagsOf p m := by simp [tagsOf]

theorem tagsOf_subperm (p : PortId) {l m : List Claim} (h : l.Subperm m) : (tagsOf p l).Subperm (tagsOf p m) := by
  obtain ⟨k, hk, hm⟩ := h
  exact ⟨tagsOf p k, (hk.filter _).map _, (hm.filter _).map _⟩

theorem tagsOf_perm (p : PortId) {l m : List Claim} (h : l.Perm m) : (tagsOf p l).Perm (tagsOf p m) := (h.filter _).map _

/-- Tags look at claimant and tag alone. -/
theorem tagsOf_map (p : PortId) (f : Claim → Claim) (hf : ∀ c, (f c).claimant = c.claimant ∧ (f c).tag = c.tag) (l : List Claim) :
    tagsOf p (l.map f) = tagsOf p l := by
  simp [tagsOf, List.filter_map, Function.comp_def, hf]

/-- An engine's claim is no port's. -/
theorem tagsOf_engine (p : PortId) {c : Claim} {e : Engine} (hc : c.claimant = .engine e) (l : List Claim) : tagsOf p (c :: l) = tagsOf p l := by
  simp [tagsOf, hc]

end Sys2Proof.Machine
end

section
/-! SUPPORT. How claims join, leave and are marked, and what an engine's settling makes of a region's claims (R25, R126, R160). -/

namespace Sys2Proof.Machine

/-! ### Claims that come, go and are marked -/

theorem Joins.ordered {c : Claim} {l w : List Claim} (h : Joins c l w) (hl : l.length ≤ 4 ∧ Ranked l) : w.length ≤ 4 ∧ Ranked w := by
  obtain ⟨h4, hr⟩ := hl
  rcases h with rfl | ⟨k, hk, hk4, rfl⟩
  · exact ⟨h4, hr⟩
  · have hlen := (insertClaim_perm c k).length_eq
    have := hk4 h4
    simp only [List.length_cons] at hlen
    exact ⟨by omega, ranked_insertClaim (hr.sublist hk.sublist)⟩

theorem Joins.subperm {c : Claim} {l w : List Claim} (h : Joins c l w) : w.Subperm (c :: l) := by
  rcases h with rfl | ⟨k, hk, -, rfl⟩
  · exact (List.sublist_cons_self c w).subperm
  · exact (insertClaim_perm c k).subperm.trans (hk.sublist.cons_cons c).subperm

/-- A region's claims are kept where the holder changes at most in what does not name it, and the wait list stays in order and gains no
port's claim. -/
theorem kept_of {x : RegionClaims} (f : Claim → Claim) (hf : ∀ c, (f c).claimant = c.claimant ∧ (f c).tag = c.tag) {w : List Claim} {n : Nat}
    (hw : x.ordered → w.length ≤ 4 ∧ Ranked w) (hs : ∀ p, (tagsOf p w).Subperm (tagsOf p x.waiting)) :
    Kept x { holder := x.holder.map f, waiting := w, seenWaiting := n } := by
  refine ⟨⟨hw, fun p => ?_⟩, fun c hc => ?_⟩
  · have hh : tagsOf p (x.holder.map f).toList = tagsOf p x.holder.toList := by
      rw [← tagsOf_map p f hf x.holder.toList]
      cases x.holder <;> rfl
    simp only [RegionClaims.live, tagsOf_append, hh]
    exact (List.Subperm.refl _).append (hs p)
  · obtain ⟨h, hh, rfl⟩ := Option.map_eq_some_iff.mp hc
    exact ⟨h, hh, (claim_same_iff _ _).mpr (hf h)⟩

theorem kept_waiting {x : RegionClaims} {w : List Claim} {n : Nat} (hw : x.ordered → w.length ≤ 4 ∧ Ranked w)
    (hs : ∀ p, (tagsOf p w).Subperm (tagsOf p x.waiting)) : Kept x { x with waiting := w, seenWaiting := n } := by
  simpa using kept_of (x := x) (n := n) id (fun _ => ⟨rfl, rfl⟩) hw hs

theorem kept_filter (x : RegionClaims) (q : Claim → Bool) : Kept x { x with waiting := x.waiting.filter q } :=
  kept_waiting (fun h => ⟨(List.length_filter_le ..).trans h.1, h.2.sublist List.filter_sublist⟩)
    (fun p => tagsOf_subperm p List.filter_sublist.subperm)

theorem kept_seen (x : RegionClaims) (n : Nat) : Kept x { x with seenWaiting := n } := kept_waiting id (fun _ => List.Subperm.refl _)

theorem kept_holder (x : RegionClaims) (f : Claim → Claim) (hf : ∀ c, (f c).claimant = c.claimant ∧ (f c).tag = c.tag) :
    Kept x { x with holder := x.holder.map f } := kept_of f hf id (fun _ => List.Subperm.refl _)

theorem markDrop_eq (x : RegionClaims) : markDrop x = { x with holder := x.holder.map (fun h => { h with mark := some .dropRelease }) } := by
  obtain ⟨_ | h, w, n⟩ := x <;> rfl

theorem kept_markDrop (x : RegionClaims) : Kept x (markDrop x) := by
  rw [markDrop_eq]
  exact kept_holder x _ (fun _ => ⟨rfl, rfl⟩)

theorem countStage_eq (x : RegionClaims) :
    countStage x = { x with holder := x.holder.map (fun h => { h with remaining := h.remaining.map (fun n => n - 1) }) } := by
  obtain ⟨_ | h, w, n⟩ := x <;> rfl

theorem kept_countStage (x : RegionClaims) : Kept x (countStage x) := by
  rw [countStage_eq]
  exact kept_holder x _ (fun _ => ⟨rfl, rfl⟩)

theorem kept_markStarted (x : RegionClaims) : Kept x (markStarted x) := by
  unfold markStarted
  split
  · exact Kept.refl x
  · next h hx =>
    split
    · exact Kept.refl x
    · simpa [hx] using kept_holder x (fun c => { c with mark := some (if h.resume then .keep else .dropClockStart) }) (fun _ => ⟨rfl, rfl⟩)

theorem kept_releasePort (p : PortId) (x : RegionClaims) : Kept x (releasePort p x) := by
  unfold releasePort
  simp only
  split
  · exact (kept_markDrop x).trans (kept_filter ..)
  · exact kept_filter ..

theorem foldl_insertClaim_perm (f : Claim → Claim) (l m : List Claim) :
    (l.foldl (fun k w => insertClaim (f w) k) m).Perm (l.map f ++ m) := by
  induction l generalizing m with
  | nil => rfl
  | cons w rest ih =>
    refine (ih _).trans ?_
    simpa using ((insertClaim_perm (f w) m).append_left (rest.map f)).trans List.perm_middle

theorem ranked_foldl_insertClaim (f : Claim → Claim) (l : List Claim) {m : List Claim} (h : Ranked m) :
    Ranked (l.foldl (fun k w => insertClaim (f w) k) m) := by
  induction l generalizing m with
  | nil => exact h
  | cons w rest ih => exact ih (ranked_insertClaim h)

theorem kept_rerank (e : Engine) (rank : Nat) (x : RegionClaims) : Kept x (rerank e rank x) := by
  have hperm := foldl_insertClaim_perm (fun w => { w with rank := rank }) (x.waiting.filter (fun w => decide (w.claimant = .engine e)))
    (x.waiting.filter (fun w => !decide (w.claimant = .engine e)))
  have hsplit := List.filter_append_perm (fun w : Claim => decide (w.claimant = .engine e)) x.waiting
  refine kept_of _ (fun c => ?_) (fun h => ⟨?_, ?_⟩) (fun p => ?_)
  · split_ifs <;> simp
  · have h1 := hperm.length_eq
    have h2 := hsplit.length_eq
    simp only [List.length_append, List.length_map] at h1 h2
    have := h.1
    omega
  · exact ranked_foldl_insertClaim _ _ (h.2.sublist List.filter_sublist)
  · refine (tagsOf_perm p hperm).subperm.trans (?_ : List.Subperm _ _)
    rw [tagsOf_append, tagsOf_map p (fun w => { w with rank := rank }) (fun _ => ⟨rfl, rfl⟩), ← tagsOf_append]
    exact (tagsOf_perm p hsplit).subperm

/-- An engine's claim that comes to a wait list takes no port's claim away and brings none. -/
theorem kept_join {x : RegionClaims} {c : Claim} {e : Engine} {w : List Claim} (hc : c.claimant = .engine e) (h : Joins c x.waiting w) :
    Kept x { x with waiting := w } := by
  refine kept_waiting (fun hx => h.ordered hx) (fun p => ?_)
  have := tagsOf_subperm p h.subperm
  rwa [tagsOf_engine p hc] at this

/-! ### What the engines do to the claims of a region -/

theorem claims_offer (e : Engine) (r : RegionId) (s : State) :
    ∃ w, Joins (engineClaim s e r) (s.claims r).waiting w ∧ ClaimsBecome r { s.claims r with waiting := w } s (offer e r s) := by
  obtain ⟨w, hj, hw⟩ := joinWait_claims r (engineClaim s e r) s
  exact ⟨w, hj, hw.congr (setOffering_arbiter ..)⟩

theorem claims_releaseEngine (e : Engine) (r : RegionId) (s : State) :
    ClaimsBecome r
      { (if (s.claims r).heldBy (.engine e) then markDrop (s.claims r) else s.claims r) with
        waiting := (s.claims r).waiting.filter (fun w => !decide (w.claimant = .engine e)) } s (releaseEngine e r s) := by
  have h : (if (s.claims r).heldBy (.engine e) then markDrop (s.claims r) else s.claims r).waiting = (s.claims r).waiting := by
    split <;> simp [markDrop_eq]
  refine ClaimsBecome.congr (claimsBecome_setClaims ..) ?_
  unfold releaseEngine
  rw [setOffering_arbiter]
  simp only [h]

/-- The claims on a region after an engine has settled it, and nowhere else. -/
theorem claims_settle (e : Engine) (r : RegionId) (s : State) : ∃ y, Kept (s.claims r) y ∧ ClaimsBecome r y s (settle e r s) := by
  unfold settle
  split
  · split
    · exact ⟨_, Kept.refl _, claimsBecome_refl r s⟩
    · obtain ⟨w, hj, hw⟩ := claims_offer e r s
      exact ⟨_, kept_join rfl hj, hw⟩
  · refine ⟨_, ?_, claims_releaseEngine e r s⟩
    split
    · simpa [markDrop_eq] using (kept_markDrop (s.claims r)).trans (kept_filter _ _)
    · exact kept_filter ..

theorem kept_settle (e : Engine) (r n : RegionId) (s : State) : Kept (s.claims n) ((settle e r s).claims n) := by
  obtain ⟨y, hk, hy⟩ := claims_settle e r s
  by_cases hn : n = r
  · subst hn; rwa [hy.self]
  · rw [hy.other hn]; exact Kept.refl _

end Sys2Proof.Machine
end

section
/-! SUPPORT. The laws of regions and claims read region by region, and the steps that promote no claim. -/

namespace Sys2Proof.Machine

/-! ### The laws, read from regions and claims -/

theorem standings_claims (r : RegionId) (x : RegionClaims) : (standings r x).map (fun e => e.claim) = x.live := by
  obtain ⟨_ | h, w, n⟩ := x <;> simp [standings, RegionClaims.live, Function.comp_def]

/-- The tags of a port's claim set, region by region (R20). -/
theorem claimSet_tags (s : State) (p : PortId) :
    (s.claimSet p).map (fun e => e.claim.tag) = allRegions.flatMap (fun r => tagsOf p (s.claims r).live) := by
  have h (r : RegionId) : ((standings r (s.claims r)).filter (fun e => decide (e.claim.claimant = .port p))).map (fun e => e.claim.tag)
      = tagsOf p (s.claims r).live := by
    rw [← standings_claims r]
    simp [tagsOf, List.filter_map, Function.comp_def]
  simp [State.claimSet, State.standings, List.filter_flatMap, List.map_flatMap, h]

theorem claimSetLaw_iff (s : State) :
    ClaimSetLaw s ↔ ∀ p, (allRegions.flatMap (fun r => tagsOf p (s.claims r).live)).length ≤ 16
      ∧ (allRegions.flatMap (fun r => tagsOf p (s.claims r).live)).Nodup := by
  simp only [ClaimSetLaw, ← claimSet_tags, List.length_map]

theorem nodup_of_subperm {α : Type} {l m : List α} (h : l.Subperm m) (hm : m.Nodup) : l.Nodup := by
  obtain ⟨k, hk, hs⟩ := h
  exact hk.nodup_iff.mp (hm.sublist hs)

theorem flatMap_subperm {α β : Type} {f g : α → List β} (l : List α) (h : ∀ a ∈ l, (f a).Subperm (g a)) :
    (l.flatMap f).Subperm (l.flatMap g) := by
  induction l with
  | nil => exact List.Subperm.refl _
  | cons a rest ih =>
    simp only [List.flatMap_cons]
    exact (h a (by simp)).append (ih fun b hb => h b (by simp [hb]))

/-- One region's list gains `x` at most, the others gain nothing: so does the whole. -/
theorem flatMap_subperm_cons {α β : Type} [DecidableEq α] {f g : α → List β} {r : α} {x : β} (l : List α) (hl : l.Nodup)
    (hr : (f r).Subperm (x :: g r)) (h : ∀ a, a ≠ r → (f a).Subperm (g a)) : (l.flatMap f).Subperm (x :: l.flatMap g) := by
  induction l with
  | nil => simp
  | cons a rest ih =>
    obtain ⟨ha, hrest⟩ := List.nodup_cons.mp hl
    simp only [List.flatMap_cons]
    by_cases har : a = r
    · subst har
      exact hr.append (flatMap_subperm rest fun b hb => h b fun hba => ha (hba ▸ hb))
    · exact ((h a har).append (ih hrest)).trans (List.perm_middle).subperm

theorem ClaimSetLaw.of_fewer {s t : State} (h : ∀ r p, (tagsOf p (t.claims r).live).Subperm (tagsOf p (s.claims r).live))
    (hs : ClaimSetLaw s) : ClaimSetLaw t := by
  rw [claimSetLaw_iff] at hs ⊢
  intro p
  obtain ⟨hlen, hnodup⟩ := hs p
  have hsub := flatMap_subperm allRegions (fun r _ => h r p)
  exact ⟨hsub.length_le.trans hlen, nodup_of_subperm hsub hnodup⟩

/-- No claim on a region. -/
def RegionClaims.bare (x : RegionClaims) : Prop := x.holder = none ∧ x.waiting = []

/-- A region that no claim is for: fixed, or not defined (R4, R23). -/
def State.closed (s : State) (r : RegionId) : Prop := ∀ g, s.region r = some g → g.fixed = true

theorem fixedLaw_iff (s : State) :
    FixedLaw s ↔ (∀ r g, s.region r = some g → g.fixed = true → g.sponsor = false ∧ g.message = false)
      ∧ ∀ r, s.closed r → (s.claims r).bare := by
  unfold FixedLaw State.closed RegionClaims.bare
  constructor
  · intro h
    refine ⟨fun r g hg hf => ?_, fun r hc => ?_⟩
    · have := h r
      rw [hg] at this
      exact ⟨(this hf).1, (this hf).2.1⟩
    · have := h r
      cases hg : s.region r with
      | none => rwa [hg] at this
      | some g =>
        rw [hg] at this
        exact (this (hc g hg)).2.2
  · rintro ⟨hflags, hbare⟩ r
    cases hg : s.region r with
    | none => exact hbare r (by simp [hg])
    | some g => exact fun hf => ⟨(hflags r g hg hf).1, (hflags r g hg hf).2, hbare r (by simpa [hg] using hf)⟩

theorem regionLaw_congr {s t : State} (hr : ∀ r, t.region r = s.region r) (h : RegionLaw s) : RegionLaw t := by
  simpa [RegionLaw, hr] using h

theorem interest_closed {s : State} {r : RegionId} (h : FixedLaw s) (hc : s.closed r) (e : Engine) : s.interest e r = false := by
  have hflags := ((fixedLaw_iff s).mp h).1 r
  cases e <;> simp only [State.interest, rotationInterest, messageInterest] <;> split
  · next g hg => simp [hflags g hg (hc g hg)]
  · rfl
  · next g hg => simp [hflags g hg (hc g hg)]
  · rfl

/-! ### Steps that promote no claim -/

/-- What every operation but an evaluation keeps: the laws, the holders, and the frames of last change. -/
structure Calm (s t : State) : Prop where
  canvas : RegionLaw s → FixedLaw s → RegionLaw t ∧ FixedLaw t
  wait : WaitLaw s → WaitLaw t
  claimSet : ClaimSetLaw s → ClaimSetLaw t
  holder : ∀ r, HolderStays (s.claims r) (t.claims r)
  change : ∀ r x f, t.region r = some x → x.lastChange = some f → ∃ g, s.region r = some g ∧ g.lastChange = some f

theorem Calm.refl (s : State) : Calm s s :=
  ⟨fun h k => ⟨h, k⟩, id, id, fun _ => (Kept.refl _).holder, fun _ x _ hx hf => ⟨x, hx, hf⟩⟩

theorem Calm.trans {s t u : State} (h : Calm s t) (k : Calm t u) : Calm s u := by
  refine ⟨fun hr hf => ?_, k.wait ∘ h.wait, k.claimSet ∘ h.claimSet, fun r => (h.holder r).trans (k.holder r), fun r x f hx hf => ?_⟩
  · obtain ⟨hr', hf'⟩ := h.canvas hr hf
    exact k.canvas hr' hf'
  · obtain ⟨g, hg, hgf⟩ := k.change r x f hx hf
    exact h.change r g f hg hgf

theorem calm_foldl {α : Type} {f : State → α → State} (hf : ∀ u a, Calm u (f u a)) (l : List α) (s : State) : Calm s (l.foldl f s) := by
  induction l generalizing s with
  | nil => exact Calm.refl s
  | cons a rest ih => exact (hf s a).trans (ih _)

/-- An operation that keeps every region's record, keeps its claims, and brings none where none can be. -/
theorem calm_of_kept {s t : State} (hr : ∀ r, t.region r = s.region r) (hk : ∀ r, Kept (s.claims r) (t.claims r))
    (hb : FixedLaw s → ∀ r, s.closed r → (t.claims r).bare) : Calm s t := by
  refine ⟨fun hR hF => ⟨regionLaw_congr hr hR, ?_⟩, fun h r => (hk r).ordered (h r), ClaimSetLaw.of_fewer fun r => (hk r).fewer,
    fun r => (hk r).holder, fun r x f hx hf => ⟨x, hr r ▸ hx, hf⟩⟩
  rw [fixedLaw_iff]
  refine ⟨fun r g hg => ((fixedLaw_iff s).mp hF).1 r g (hr r ▸ hg), fun r hc => hb hF r fun g hg => hc g ((hr r).trans hg)⟩

theorem calm_of_same {s t : State} (hr : ∀ r, t.region r = s.region r) (ha : t.arbiter = s.arbiter) : Calm s t :=
  calm_of_kept hr (fun r => by rw [claims_of_arbiter ha]; exact Kept.refl _)
    (fun hF r hc => by rw [claims_of_arbiter ha]; exact ((fixedLaw_iff s).mp hF).2 r hc)

/-- An operation that changes neither the canvas nor the arbiter. -/
theorem Only.calm {parts : List Part} {s t : State} (h : Only parts s t) (hc : .canvas ∉ parts := by decide)
    (ha : .arbiter ∉ parts := by decide) : Calm s t := calm_of_same (region_of_canvas (h.canvas hc)) (h.arbiter ha)

/-- Every region's claims are changed alike, by what keeps them and brings none. -/
theorem calm_mapClaims {f : RegionId → RegionClaims → RegionClaims} (hk : ∀ r x, Kept x (f r x)) (hb : ∀ r x, x.bare → (f r x).bare)
    (s : State) : Calm s (mapClaims f s) :=
  calm_of_kept (region_of_canvas (mapClaims_canvas ..)) (fun r => by rw [claims_mapClaims]; exact hk r _)
    (fun hF r hc => by rw [claims_mapClaims]; exact hb r _ (((fixedLaw_iff s).mp hF).2 r hc))

theorem bare_releaseEngine {s : State} {e : Engine} {r : RegionId} (h : (s.claims r).bare) : ((releaseEngine e r s).claims r).bare := by
  obtain ⟨hh, hw⟩ := h
  rw [(claims_releaseEngine e r s).self]
  simp [RegionClaims.bare, RegionClaims.heldBy, hh, hw]

theorem region_settle (e : Engine) (r n : RegionId) (s : State) : (settle e r s).region n = s.region n :=
  region_of_canvas ((only_settle (List.Subset.refl _) e r).mpr only_rfl).canvas n

theorem calm_settle (e : Engine) (r : RegionId) (s : State) : Calm s (settle e r s) := by
  refine calm_of_kept (fun n => region_settle e r n s) (fun n => kept_settle e r n s) (fun hF n hc => ?_)
  have hbare := ((fixedLaw_iff s).mp hF).2 n hc
  by_cases hn : n = r
  · subst hn
    unfold settle
    rw [interest_closed hF hc e]
    exact bare_releaseEngine hbare
  · obtain ⟨y, -, hy⟩ := claims_settle e r s
    rwa [hy.other hn]

theorem calm_settleAll (e : Engine) (s : State) : Calm s (settleAll e s) := calm_foldl (fun u r => calm_settle e r u) _ s

theorem calm_reoffer (due : List (Engine × RegionId)) (s : State) : Calm s (reoffer due s) := by
  refine calm_foldl (fun u d => ?_) due s
  split
  · exact calm_settle ..
  · exact Calm.refl u

theorem calm_releaseClaims (p : PortId) (s : State) : Calm s (releaseClaims p s) := by
  refine calm_mapClaims (fun _ x => kept_releasePort p x) (fun _ x hx => ?_) s
  obtain ⟨hh, hw⟩ := hx
  simp [releasePort, RegionClaims.bare, RegionClaims.heldBy, hh, hw]

theorem calm_startedClaims (s : State) : Calm s (startedClaims s) := by
  refine calm_mapClaims (fun r x => ?_) (fun r x hx => ?_) s <;> split
  · split
    · exact kept_markStarted x
    · exact Kept.refl x
  · exact Kept.refl x
  · simpa [markStarted, hx.1] using hx
  · exact hx

end Sys2Proof.Machine
end

section
/-! PROOF. Requests of the canvas promote no claim and keep its laws (R6 to R10). -/

namespace Sys2Proof.Machine

/-! ### Changing a region (R6 to R10) -/

theorem overlaps_of_covers {a b : Region} {c r : Nat} (ha : a.covers c r = true) (hb : b.covers c r = true) : a.overlaps b = true := by
  simp only [Region.covers, Region.overlaps, Bool.and_eq_true, decide_eq_true_eq] at *
  omega

theorem overlapping_none {s : State} {r : RegionId} {g : Region} (h : overlapping s r g = none) {n : RegionId} {o : Region} (hn : n ≠ r)
    (ho : s.region n = some o) (hl : o.layer = g.layer) : o.overlaps g = false := by
  have := List.find?_eq_none.mp h n (mem_allRegions n)
  simpa [hn, ho, hl] using this

/-- The geometry the Region Table's law asks of regions 1 to 32 (R1). -/
def Region.inGrid (g : Region) : Prop :=
  1 ≤ g.layer ∧ g.layer ≤ 3 ∧ 1 ≤ g.width ∧ 1 ≤ g.height ∧ g.col + g.width ≤ 48 ∧ g.row + g.height ≤ 16

/-- Two regions with no shared tile on their layer (R1, R7). -/
def Region.apart (g h : Region) : Prop := g.layer = h.layer → ∀ c r, ¬(g.covers c r = true ∧ h.covers c r = true)

theorem apart_symm {g h : Region} (k : g.apart h) : h.apart g := fun hl c r hc => k hl.symm c r ⟨hc.2, hc.1⟩

theorem regionLaw_iff (s : State) :
    RegionLaw s ↔ (∃ g, s.region 0 = some g ∧ g.layer = 0 ∧ g.col = 0 ∧ g.row = 0 ∧ g.width = 48 ∧ g.height = 16 ∧ g.view = .none)
      ∧ (∀ r g, r ≠ 0 → s.region r = some g → g.inGrid)
      ∧ ∀ a b g h, a ≠ b → s.region a = some g → s.region b = some h → g.apart h := by
  simp only [RegionLaw, Region.inGrid, Region.apart]
  constructor
  · rintro ⟨h0, hg, ha⟩
    exact ⟨h0, hg, fun a b g h hab hga hhb hl c r => ha a b g h c r hab hga hhb hl⟩
  · rintro ⟨h0, hg, ha⟩
    exact ⟨h0, hg, fun a b g h c r hab hga hhb hl => ha a b g h hab hga hhb hl c r⟩

/-- The Region Table's law stands where one region but region 0 takes a record inside the grid, apart from the others, or none. -/
theorem regionLaw_changed {s t : State} {r : RegionId} {x : Option Region} (hr : r ≠ 0)
    (ht : ∀ n, t.region n = if n = r then x else s.region n) (hx : ∀ g, x = some g → g.inGrid)
    (ha : ∀ g n o, x = some g → n ≠ r → s.region n = some o → o.apart g) (h : RegionLaw s) : RegionLaw t := by
  rw [regionLaw_iff] at h ⊢
  obtain ⟨⟨g0, hg0, h0⟩, hgrid, hap⟩ := h
  refine ⟨⟨g0, by rw [ht, if_neg (Ne.symm hr), hg0], h0⟩, fun n g hn hg => ?_, fun a b g k hab hg hk => ?_⟩
  · rw [ht] at hg
    split_ifs at hg
    · exact hx g hg
    · exact hgrid n g hn hg
  · rw [ht] at hg hk
    split_ifs at hg hk with h1 h2 h2
    · exact absurd (h1.trans h2.symm) hab
    · exact apart_symm (ha g b k hg h2 hk)
    · exact ha k a g hk h1 hg
    · exact hap a b g k hab hg hk

theorem claims_regionSet (r n : RegionId) (g : Option Region) (x : RegionClaims) (s : State) :
    ((s.setRegion r g).setClaims r x).claims n = if n = r then x else s.claims n := by
  rw [claims_setClaims, claims_of_arbiter (setRegion_arbiter ..)]

theorem region_regionSet (r n : RegionId) (g : Option Region) (x : RegionClaims) (s : State) :
    ((s.setRegion r g).setClaims r x).region n = if n = r then g else s.region n := by
  rw [region_of_canvas (setClaims_canvas ..), region_setRegion]

/-- A region on which no claim stands is given a record, or none, that the laws allow (R7 to R9). -/
theorem calm_regionChanged {s : State} {r : RegionId} {x : Option Region} (hr : r ≠ 0) (hbusy : (s.claims r).busy = false)
    (hx : ∀ g, x = some g → g.inGrid ∧ g.lastChange = none ∧ (g.fixed = true → g.sponsor = false ∧ g.message = false))
    (ha : ∀ g n o, x = some g → n ≠ r → s.region n = some o → o.apart g) : Calm s (regionChanged r x s) := by
  have hbare : (s.claims r).bare := by simpa [RegionClaims.busy, RegionClaims.bare] using hbusy
  let t := (s.setRegion r x).setClaims r { s.claims r with seenWaiting := 0 }
  have hregion (n : RegionId) : t.region n = if n = r then x else s.region n := region_regionSet ..
  have hclaims (n : RegionId) : t.claims n = if n = r then { s.claims r with seenWaiting := 0 } else s.claims n := claims_regionSet ..
  have hkept (n : RegionId) : Kept (s.claims n) (t.claims n) := by
    rw [hclaims]
    split_ifs with hn
    · rw [hn]; exact kept_seen ..
    · exact Kept.refl _
  have hcalm : Calm s t := by
    refine ⟨fun hR hF => ⟨regionLaw_changed hr hregion (fun g hg => (hx g hg).1) ha hR, ?_⟩, fun h n => (hkept n).ordered (h n),
      ClaimSetLaw.of_fewer fun n => (hkept n).fewer, fun n => (hkept n).holder, fun n y f hy hf => ?_⟩
    · obtain ⟨hflags, hclosed⟩ := (fixedLaw_iff s).mp hF
      refine (fixedLaw_iff t).mpr ⟨fun n g hg => ?_, fun n hc => ?_⟩
      · rw [hregion] at hg
        split_ifs at hg
        · exact (hx g hg).2.2
        · exact hflags n g hg
      · rw [hclaims]
        split_ifs with hn
        · exact hbare
        · exact hclosed n fun g hg => hc g (by rw [hregion, if_neg hn, hg])
    · rw [hregion] at hy
      split_ifs at hy
      · rw [(hx y hy).2.1] at hf
        cases hf
      · exact ⟨y, hy, hf⟩
  exact hcalm.trans ((calm_settle .rotation r t).trans (calm_settle .message r _))

/-- Check 4 of R7 passes inside the grid alone. -/
theorem badGeometry_none {d : DefineFields} (h : badGeometry d = none) :
    1 ≤ d.width ∧ 1 ≤ d.height ∧ d.col + d.width ≤ 48 ∧ d.row + d.height ≤ 16 := by
  unfold badGeometry at h
  split_ifs at h
  simp_all [inRange]
  omega

theorem calm_defineChecked {d : DefineFields} {r : RegionId} {g : Region} {s : State} (hr : r ≠ 0) (hgrid : g.inGrid)
    (hlast : g.lastChange = none) : Calm s (defineChecked d r g s).1 := by
  unfold defineChecked
  split_ifs with hview _ _ hbusy
  · exact Calm.refl s
  · exact Calm.refl s
  · exact Calm.refl s
  · split <;> exact Calm.refl s
  · split
    · exact Calm.refl s
    · next hov =>
      refine calm_regionChanged hr (by simpa using hbusy) (fun k hk => ?_) (fun k n o hk hn ho hl c y hc => ?_)
      · cases hk
        refine ⟨hgrid, hlast, fun hf => ?_⟩
        simp [hf] at hview
        exact ⟨hview.1.1, hview.1.2⟩
      · cases hk
        have := overlaps_of_covers hc.1 hc.2
        rw [overlapping_none hov hn ho hl] at this
        cases this

theorem calm_onDefineRegion (d : DefineFields) (s : State) : Calm s (onDefineRegion d s).1 := by
  unfold onDefineRegion
  split
  · exact Calm.refl s
  · split
    · exact Calm.refl s
    · split
      · exact Calm.refl s
      · next hr =>
        split
        · exact Calm.refl s
        · next hlayer =>
          split
          · exact Calm.refl s
          · next hgeo =>
            split
            · exact Calm.refl s
            · exact Calm.refl s
            · refine calm_defineChecked hr ⟨?_, ?_, badGeometry_none hgeo⟩ rfl
              all_goals simp [inRange] at hlayer; simp only [defineRecord]; omega

theorem calm_onDeleteRegion (id : Nat) (s : State) : Calm s (onDeleteRegion id s).1 := by
  unfold onDeleteRegion
  split
  · exact Calm.refl s
  · split
    · exact Calm.refl s
    · split
      · exact Calm.refl s
      · next hr =>
        split
        · exact Calm.refl s
        · split
          · exact Calm.refl s
          · next hbusy => exact calm_regionChanged hr (by simpa using hbusy) (fun _ h => nomatch h) (fun _ _ _ h => nomatch h)

theorem regionLaw_base {s t : State} {g h : Region} (hg : s.region 0 = some g) (ht : ∀ n, t.region n = if n = 0 then some h else s.region n)
    (hh : h = { g with fill := h.fill, dwell := h.dwell }) (hR : RegionLaw s) : RegionLaw t := by
  obtain ⟨⟨g0, hg0, hlayer, hcol, hrow, hwidth, hheight, hview⟩, hgrid, hap⟩ := hR
  obtain rfl : g = g0 := by rw [hg] at hg0; exact Option.some.inj hg0
  have hgeo : h.layer = g.layer ∧ h.view = g.view ∧ ∀ c r, h.covers c r = g.covers c r := by
    rw [hh]
    exact ⟨rfl, rfl, fun _ _ => rfl⟩
  refine ⟨⟨h, by simp [ht], by rw [hh]; exact ⟨hlayer, hcol, hrow, hwidth, hheight, hview⟩⟩, fun r k hr hk => ?_, fun a b k l c r hab hk hl hlay => ?_⟩
  · rw [ht, if_neg hr] at hk
    exact hgrid r k hr hk
  · rw [ht] at hk hl
    split_ifs at hk hl with h1 h2 h2
    · exact absurd (h1.trans h2.symm) hab
    · cases hk
      rw [hgeo.2.2]
      exact hap a b g l c r hab (h1 ▸ hg) hl (hgeo.1 ▸ hlay)
    · cases hl
      rw [hgeo.2.2]
      exact hap a b k g c r hab hk (h2 ▸ hg) (hlay.trans hgeo.1)
    · exact hap a b k l c r hab hk hl hlay

theorem calm_onSetBase (fill dwell : Option Nat) (s : State) : Calm s (onSetBase fill dwell s).1 := by
  unfold onSetBase
  split
  · exact Calm.refl s
  · split
    · exact Calm.refl s
    · next g hg =>
      let h : Region := { g with fill := clampOr 0 7 g.fill fill, dwell := clampOr 0 600 g.dwell dwell }
      have hregion (n : RegionId) : (s.setRegion 0 (some h)).region n = if n = 0 then some h else s.region n := region_setRegion ..
      have hclaims (n : RegionId) : (s.setRegion 0 (some h)).claims n = s.claims n := claims_of_arbiter (setRegion_arbiter ..) n
      refine ⟨fun hR hF => ⟨regionLaw_base hg hregion rfl hR, ?_⟩, fun k n => by rw [hclaims]; exact k n,
        ClaimSetLaw.of_fewer fun n p => by rw [hclaims], fun n => by rw [hclaims]; exact (Kept.refl _).holder,
        fun n x f hx hf => ?_⟩
      · obtain ⟨hflags, hclosed⟩ := (fixedLaw_iff s).mp hF
        refine (fixedLaw_iff _).mpr ⟨fun n k hk => ?_, fun n hc => ?_⟩
        · rw [hregion] at hk
          split_ifs at hk
          · cases hk
            exact hflags 0 g hg
          · exact hflags n k hk
        · rw [hclaims]
          refine hclosed n fun k hk => ?_
          by_cases hn : n = 0
          · subst hn
            rw [hg] at hk
            cases hk
            exact hc h (by rw [hregion, if_pos rfl])
          · exact hc k (by rw [hregion, if_neg hn, hk])
      · rw [hregion] at hx
        split_ifs at hx with hn
        · cases hx
          exact ⟨g, hn ▸ hg, hf⟩
        · exact ⟨x, hx, hf⟩

theorem calm_onSetFill (n red green blue : Nat) (s : State) : Calm s (onSetFill n red green blue s).1 := by
  unfold onSetFill
  split
  · exact calm_of_same (fun _ => rfl) rfl
  · exact Calm.refl s

theorem calm_onGoLive (s : State) : Calm s (onGoLive s).1 := calm_of_same (fun _ => rfl) rfl

end Sys2Proof.Machine
end

section
/-! PROOF. Every other request, and every event outside the tick, promotes no claim. -/

namespace Sys2Proof.Machine

/-! ### Claim requests -/

theorem claimOf_none {s : State} {p : PortId} {tag : Nat} (h : (s.claimOf p tag).isSome = false) :
    tag ∉ (s.claimSet p).map (fun e => e.claim.tag) := by
  have hnone : s.claimOf p tag = none := by simpa using h
  have := List.find?_eq_none.mp hnone
  simp only [List.mem_map, not_exists, not_and]
  intro e he htag
  exact this e he (by simp [htag])

/-- A port's claim joins a wait list: of a defined region that is not fixed, with room in the port's claim set and a tag that is new there. -/
theorem calm_joinWait {s : State} {r : RegionId} {g : Region} {p : PortId} {k : Claim} (hg : s.region r = some g) (hf : g.fixed = false)
    (hk : k.claimant = .port p) (hnew : (s.claimOf p k.tag).isSome = false) (hroom : (s.claimSet p).length < 16) :
    Calm s (joinWait r k s).1 := by
  obtain ⟨w, hj, hw⟩ := joinWait_claims r k s
  have hregion : ∀ n, (joinWait r k s).1.region n = s.region n :=
    region_of_canvas ((only_joinWait (List.Subset.refl _) r k).mpr only_rfl).canvas
  have hclaims := hw.read
  have htags (q : PortId) : (tagsOf q ((joinWait r k s).1.claims r).live).Subperm (tagsOf q (k :: (s.claims r).live)) := by
    rw [hw.self]
    refine tagsOf_subperm q ((List.Subperm.append (List.Subperm.refl _) hj.subperm).trans ?_)
    exact List.perm_middle.subperm
  refine ⟨fun hR hF => ⟨regionLaw_congr hregion hR, ?_⟩, fun h n => ?_, fun hset => ?_, fun n => ?_, fun n x f hx hf => ⟨x, hregion n ▸ hx, hf⟩⟩
  · obtain ⟨hflags, hclosed⟩ := (fixedLaw_iff s).mp hF
    refine (fixedLaw_iff _).mpr ⟨fun n o ho => hflags n o (hregion n ▸ ho), fun n hc => ?_⟩
    have hn : n ≠ r := by
      rintro rfl
      have := hc g ((hregion n).trans hg)
      rw [hf] at this
      cases this
    rw [hw.other hn]
    exact hclosed n fun o ho => hc o ((hregion n).trans ho)
  · rw [hclaims]
    split_ifs with hn
    · exact hj.ordered (h r)
    · exact h n
  · rw [claimSetLaw_iff] at hset ⊢
    intro q
    obtain ⟨hlen, hnodup⟩ := hset q
    have hothers : ∀ n, n ≠ r → (tagsOf q ((joinWait r k s).1.claims n).live).Subperm (tagsOf q (s.claims n).live) := fun n hn => by
      rw [hw.other hn]
    by_cases hq : q = p
    · subst hq
      have hsub := flatMap_subperm_cons allRegions allRegions_nodup (by simpa [tagsOf, hk] using htags q) hothers
      have hfresh := claimOf_none hnew
      have hsize : (allRegions.flatMap (fun n => tagsOf q (s.claims n).live)).length < 16 := by
        rwa [← claimSet_tags, List.length_map]
      rw [claimSet_tags] at hfresh
      refine ⟨hsub.length_le.trans (by simpa using hsize), nodup_of_subperm hsub (List.nodup_cons.mpr ⟨hfresh, hnodup⟩)⟩
    · have hsub := flatMap_subperm allRegions (fun n _ => ?_ : ∀ n ∈ allRegions,
        (tagsOf q ((joinWait r k s).1.claims n).live).Subperm (tagsOf q (s.claims n).live))
      · exact ⟨hsub.length_le.trans hlen, nodup_of_subperm hsub hnodup⟩
      · by_cases hn : n = r
        · have := htags q
          rw [hn]
          simpa [tagsOf, hk, Ne.symm hq] using this
        · exact hothers n hn
  · rw [hclaims]
    split_ifs with hn
    · subst hn
      exact fun c hc => ⟨c, hc, claim_same_refl c⟩
    · exact (Kept.refl _).holder

theorem calm_onClaim (p : PortId) (region tag priority : Nat) (content : ContentField) (duration : Nat) (resume : Bool) (s : State) :
    Calm s (onClaim p region tag priority content duration resume s).1 := by
  unfold onClaim
  split
  · exact Calm.refl s
  split
  · exact Calm.refl s
  split
  · exact Calm.refl s
  split
  · exact Calm.refl s
  next g hg =>
  split
  · exact Calm.refl s
  next hf =>
  split
  · exact Calm.refl s
  split
  · exact Calm.refl s
  simp only
  split
  · exact Calm.refl s
  next hnew =>
  split
  · exact Calm.refl s
  next hroom =>
  split
  · exact Calm.refl s
  · exact calm_joinWait (p := p) hg (by simpa using hf) rfl (by simpa using hnew) (by omega)

/-- The claims of one region are changed, by what keeps them and brings none. -/
theorem calm_setClaims {s : State} {r : RegionId} {x : RegionClaims} (hk : Kept (s.claims r) x) (hb : (s.claims r).bare → x.bare) :
    Calm s (s.setClaims r x) := by
  refine calm_of_kept (region_of_canvas (setClaims_canvas ..)) (fun n => ?_) (fun hF n hc => ?_) <;> rw [claims_setClaims] <;> split_ifs with hn
  · exact hn ▸ hk
  · exact Kept.refl _
  · exact hb (((fixedLaw_iff s).mp hF).2 r (hn ▸ hc))
  · exact ((fixedLaw_iff s).mp hF).2 n hc

theorem calm_onRelease (p : PortId) (tag : Nat) (s : State) : Calm s (onRelease p tag s).1 := by
  unfold onRelease
  split
  · exact Calm.refl s
  · simp only
    split
    · refine calm_setClaims (kept_markDrop _) fun h => ?_
      simpa [markDrop, h.1] using h
    · refine calm_setClaims (kept_filter ..) fun h => ?_
      exact ⟨h.1, by simp [removeClaim, h.2]⟩

theorem calm_onWithdraw (p : PortId) (q : Byte) (s : State) : Calm s (onWithdraw p q s).1 := by
  have h : Calm s (releaseClaims p (s.setPort p { s.port p with withdrawn := true })) :=
    Calm.trans (Only.calm (parts := []) (by simp)) (calm_releaseClaims p (s.setPort p { s.port p with withdrawn := true }))
  unfold onWithdraw
  simp only
  split <;> exact h

theorem calm_onSetEngineRank (engine : Named Engine) (rank : Nat) (s : State) : Calm s (onSetEngineRank engine rank s).1 := by
  unfold onSetEngineRank
  split
  · exact Calm.refl s
  · next e =>
    have hrank : Calm s (match e with
        | .rotation => { s with arbiter := { s.arbiter with rotationRank := clamp 0 7 rank } }
        | .message => { s with arbiter := { s.arbiter with messageRank := clamp 0 7 rank } }) := by
      cases e <;> exact calm_of_kept (fun _ => rfl) (fun r => Kept.refl _) (fun hF r hc => ((fixedLaw_iff s).mp hF).2 r hc)
    refine hrank.trans (calm_mapClaims (fun _ x => kept_rerank ..) (fun _ x hx => ?_) _)
    simp [rerank, RegionClaims.bare, hx.1, hx.2]

/-! ### Requests and events through which the engines settle, or a port's claims are released -/

theorem calm_replaceRotation (plan : Plan) (cause : Nat) (s : State) : Calm s (replaceRotation plan cause s) := by
  unfold replaceRotation
  dsimp only
  refine Calm.trans (Only.calm (parts := [.rotation]) ?_) (calm_settleAll ..)
  simp

theorem calm_periodBoundary (n : Nat) (s : State) : Calm s (periodBoundary n s) := by
  unfold periodBoundary
  dsimp only
  split
  · exact Only.calm (parts := [.rotation]) (by simp)
  · refine Calm.trans (Only.calm (parts := [.rotation]) ?_) (calm_replaceRotation ..)
    simp

theorem calm_onEndLive (s : State) : Calm s (onEndLive s).1 := by
  unfold onEndLive
  split_ifs
  · exact Calm.refl s
  · dsimp only
    refine Calm.trans ?_ (calm_periodBoundary ..)
    exact calm_of_same (fun _ => rfl) rfl
  · exact Calm.refl s

theorem calm_onNextPeriod (s : State) : Calm s (onNextPeriod s).1 := by
  unfold onNextPeriod
  split_ifs
  · exact Calm.refl s
  · exact Calm.refl s
  · dsimp only
    refine Calm.trans (Calm.trans ?_ (calm_periodBoundary s.clock.period _)) (Only.calm (parts := []) ((only_tellClock ..).mpr only_rfl))
    exact Only.calm (parts := [.clock]) (by simp)

theorem calm_onMatchReset (s : State) : Calm s (onMatchReset s).1 := by
  unfold onMatchReset resetMessages
  split_ifs
  · exact Calm.refl s
  · dsimp only
    refine Calm.trans (Only.calm (parts := [.monitors, .clock, .score, .captures, .rotation, .messages]) ?_) (calm_settleAll ..)
    rw [only_messages (by decide), only_lower (by decide)]
    simp [only_iff]

theorem calm_onRotationCommit (p : PortId) (s : State) : Calm s (onRotationCommit p s).1 := by
  unfold onRotationCommit
  split
  · exact Calm.refl s
  · split
    · exact Calm.refl s
    · simp only
      split
      · exact Only.calm (parts := [.rotation]) (by simp)
      · dsimp only
        refine Calm.trans ?_ (calm_replaceRotation ..)
        exact Only.calm (parts := [.rotation]) (by simp)

theorem calm_onMessageSubmit (p : PortId) (tag : Nat) (text : List Nat) (style : Named Style) (repeats : Option Nat) (s : State) :
    Calm s (onMessageSubmit p tag text style repeats s).1 := by
  unfold onMessageSubmit
  split
  · exact Calm.refl s
  split
  · exact Calm.refl s
  split
  · exact Calm.refl s
  split
  · exact Calm.refl s
  split
  · exact Calm.refl s
  split
  · exact Calm.refl s
  split
  simp only
  split
  · dsimp only
    refine Calm.trans ?_ (calm_settleAll ..)
    exact Only.calm (parts := [.messages]) (by simp)
  · exact Only.calm (parts := [.messages]) (by simp)

theorem calm_onMessageApprove (port tag : Nat) (s : State) : Calm s (onMessageApprove port tag s).1 := by
  unfold onMessageApprove
  split
  · exact Calm.refl s
  · split
    · dsimp only
      refine Calm.trans ?_ (calm_settleAll ..)
      exact Only.calm (parts := [.messages]) (by simp)
    · split
      · exact Calm.refl s
      · split <;> exact Calm.refl s

theorem calm_onMessageWithdraw (p : PortId) (tag : Nat) (port : Option Nat) (s : State) : Calm s (onMessageWithdraw p tag port s).1 := by
  unfold onMessageWithdraw
  simp only
  split
  · exact Calm.refl s
  split
  · exact Calm.refl s
  split
  · exact Only.calm (parts := [.messages]) (by simp)
  split
  · dsimp only
    refine Calm.trans ?_ (calm_settleAll ..)
    exact Only.calm (parts := [.messages]) (by simp)
  split
  · exact Calm.refl s
  split
  · exact Calm.refl s
  · exact Only.calm (parts := [.messages]) (by simp)

theorem calm_onClockStart (s : State) : Calm s (onClockStart s).1 := by
  unfold onClockStart
  split
  · exact Calm.refl s
  · exact Calm.refl s
  · split
    · exact Calm.refl s
    · have hclock : Calm s (startedClaims (setClock { s.clock with state := .running } s)) :=
        Calm.trans (Only.calm (parts := [.clock]) (by simp)) (calm_startedClaims _)
      have hpasses (u : State) : Calm u (startedPasses u) := by
        unfold startedPasses
        refine Calm.trans ?_ (calm_settleAll ..)
        exact Only.calm (parts := [.messages]) (by simp)
      exact (hclock.trans (hpasses _)).trans (Only.calm (parts := []) ((only_tellClock ..).mpr only_rfl))

theorem calm_portLost (p : PortId) (s : State) : Calm s (portLost p s) :=
  (calm_releaseClaims p s).trans (Only.calm (parts := [.assets, .rotation]) (by simp [portLost]))

theorem calm_becomeSilent (p : PortId) (s : State) : Calm s (becomeSilent p s) := by
  unfold becomeSilent
  extract_lets t
  have ht : Calm s t := Calm.trans (Only.calm (parts := [.monitors]) (by simp)) (calm_portLost p _)
  split
  · exact ht.trans (Only.calm (parts := [.clock, .monitors]) (by simp))
  · exact ht

theorem calm_silenceExpiry (p : PortId) (s : State) : Calm s (silenceExpiry p s) := by
  unfold silenceExpiry
  split
  · exact calm_becomeSilent p s
  · exact Calm.refl s

theorem calm_msStep (s : State) : Calm s (msStep s) := by
  have h : Calm s (settleOverdue s) :=
    (calm_foldl (fun u p => calm_silenceExpiry p u) allPorts s).trans (Only.calm (parts := [.assets, .free]) (by simp [settleOverdue]))
  exact h.trans (Only.calm (parts := [.clock, .captures, .messages]) (by simp [msStep]))

theorem calm_msIf (due : Bool) (s : State) : Calm s (msIf due s) := by
  unfold msIf
  split
  · exact calm_msStep s
  · exact Calm.refl s

theorem calm_onSetPortTimeout (port ms : Nat) (s : State) : Calm s (onSetPortTimeout port ms s).1 := by
  unfold onSetPortTimeout
  split
  · exact Calm.refl s
  · dsimp only
    refine Calm.trans ?_ (calm_silenceExpiry ..)
    exact Only.calm (parts := []) (by simp)

theorem calm_onPortReset (p : PortId) (port : Option Nat) (s : State) : Calm s (onPortReset p port s).1 := by
  unfold onPortReset
  split
  · exact Calm.refl s
  · split
    · exact Calm.refl s
    · dsimp only [resetPort]
      refine Calm.trans ?_ (calm_portLost ..)
      exact Only.calm (parts := []) (by simp)

end Sys2Proof.Machine
end

section
/-! PROOF. The stages of an evaluation: records stay but for their last change, and a promotion finds the dwell passed (R30 to R34). -/

namespace Sys2Proof.Machine

/-! ### Regions alike but for their last change -/

/-- A record without its last-change frame. -/
def Region.undated (g : Region) : Region := { g with lastChange := none }

/-- Every region has the record it had, but for the frame of its last change. -/
def SameRecords (s t : State) : Prop := ∀ n, (t.region n).map Region.undated = (s.region n).map Region.undated

theorem SameRecords.symm {s t : State} (h : SameRecords s t) : SameRecords t s := fun n => (h n).symm

theorem SameRecords.trans {s t u : State} (h : SameRecords s t) (k : SameRecords t u) : SameRecords s u := fun n => (k n).trans (h n)

theorem sameRecords_of_canvas {s t : State} (h : t.canvas = s.canvas) : SameRecords s t := fun n => by rw [region_of_canvas h]

theorem SameRecords.some {s t : State} (h : SameRecords s t) {n : RegionId} {x : Region} (hx : t.region n = some x) :
    ∃ g, s.region n = some g ∧ x = { g with lastChange := x.lastChange } := by
  have hn := h n
  rw [hx] at hn
  obtain ⟨g, hg, hgx⟩ := Option.map_eq_some_iff.mp hn.symm
  refine ⟨g, hg, ?_⟩
  obtain ⟨⟩ := x
  obtain ⟨⟩ := g
  simp_all [Region.undated]

theorem regionLaw_sameRecords {s t : State} (h : SameRecords s t) (hR : RegionLaw s) : RegionLaw t := by
  obtain ⟨⟨g, hg, hbase⟩, hgrid, hap⟩ := hR
  obtain ⟨x, hx, hgx⟩ := h.symm.some hg
  refine ⟨⟨x, hx, by rw [hgx] at hbase; exact hbase⟩, fun n y hn hy => ?_, fun a b y z c r hab hy hz hl => ?_⟩
  · obtain ⟨k, hk, hyk⟩ := h.some hy
    rw [hyk]
    exact hgrid n k hn hk
  · obtain ⟨k, hk, hyk⟩ := h.some hy
    obtain ⟨l, hlr, hzl⟩ := h.some hz
    rw [hyk, hzl] at hl ⊢
    exact hap a b k l c r hab hk hlr hl

/-- The law of fixed regions stands where records are alike and claims change only where a claim may stand. -/
theorem fixedLaw_sameRecords {s t : State} (h : SameRecords s t) (hc : ∀ r, s.closed r → (s.claims r).bare → (t.claims r).bare)
    (hF : FixedLaw s) : FixedLaw t := by
  obtain ⟨hflags, hclosed⟩ := (fixedLaw_iff s).mp hF
  refine (fixedLaw_iff t).mpr ⟨fun n x hx => ?_, fun n hn => ?_⟩
  · obtain ⟨g, hg, hxg⟩ := h.some hx
    rw [hxg]
    exact hflags n g hg
  · have hs : s.closed n := fun g hg => by
      obtain ⟨x, hx, hgx⟩ := h.symm.some hg
      rw [hgx]
      exact hn x hx
    exact hc n hs (hclosed n hs)

/-! ### The stages of an evaluation (R31 to R34) -/

theorem dropped_arbiter (r : RegionId) (h : Claim) (b : Bool) (s : State) : (dropped r h b s).arbiter = s.arbiter :=
  ((only_dropped (List.Subset.refl _) r h b).mpr only_rfl).arbiter

theorem claimNotice_arbiter (k : NoticeKind) (r : RegionId) (c : Claim) (fields : List Atom) (s : State) :
    (claimNotice k r c fields s).arbiter = s.arbiter := ((only_claimNotice (parts := []) k r c fields).mpr only_rfl).arbiter

/-- A holder that goes back to waiting joins the list, or is lost (R32). -/
theorem claims_goBack (r : RegionId) (h : Claim) (reason : Atom) (k : NoticeKind) (fields : List Atom) (s : State) :
    ∃ w, Joins { h with mark := none } (s.claims r).waiting w
      ∧ ClaimsBecome r { s.claims r with waiting := w } s (goBack r h reason k fields s) := by
  obtain ⟨w, hj, hw⟩ := joinWait_claims r { h with mark := none } s
  refine ⟨w, hj, ?_⟩
  unfold goBack
  simp only
  split <;> next u heq => rw [heq] at hw; refine hw.congr ?_; simp [claimNotice_arbiter, dropped_arbiter]

/-- A holder that leaves at the leave stage is gone, or waits again (R32). -/
theorem claims_leave (r : RegionId) (h : Claim) (cause : LeaveCause) (s : State) :
    ∃ w, Joins { h with mark := none } (s.claims r).waiting w
      ∧ ClaimsBecome r { s.claims r with holder := none, waiting := w } s (leave r h cause s) := by
  let t := s.setClaims r { s.claims r with holder := none }
  have ht : ClaimsBecome r { s.claims r with holder := none } s t := claimsBecome_setClaims ..
  have gone (u : State) (hu : u.arbiter = t.arbiter) : ∃ w, Joins { h with mark := none } (s.claims r).waiting w
      ∧ ClaimsBecome r { s.claims r with holder := none, waiting := w } s u := ⟨_, .inl rfl, ht.congr hu⟩
  have back (reason : Atom) (k : NoticeKind) (fields : List Atom) : ∃ w, Joins { h with mark := none } (s.claims r).waiting w
      ∧ ClaimsBecome r { s.claims r with holder := none, waiting := w } s (goBack r h reason k fields t) := by
    obtain ⟨w, hj, hw⟩ := claims_goBack r h reason k fields t
    rw [ht.self] at hj hw
    exact ⟨w, hj, ht.trans hw⟩
  cases cause
  case released => exact gone _ (dropped_arbiter ..)
  case duration => exact gone _ ((dropped_arbiter ..).trans (claimNotice_arbiter ..))
  case clockStart => exact gone _ ((dropped_arbiter ..).trans (claimNotice_arbiter ..))
  case keep => exact back ..
  case fallback =>
    simp only [leave]
    split
    · exact back ..
    · exact gone _ ((dropped_arbiter ..).trans (claimNotice_arbiter ..))

/-- A holder gone or waiting again takes no other port's claim away and brings none. -/
theorem kept_left {x : RegionClaims} {h c : Claim} {w : List Claim} (hx : x.holder = some h) (hc : c.claimant = h.claimant ∧ c.tag = h.tag)
    (hj : Joins c x.waiting w) : Kept x { x with holder := none, waiting := w } := by
  refine ⟨⟨fun ho => hj.ordered ho, fun p => ?_⟩, fun _ hn => nomatch hn⟩
  have hsame : tagsOf p (c :: x.waiting) = tagsOf p (h :: x.waiting) := by simp [tagsOf, List.filter_cons, hc.1]; split <;> simp [hc.2]
  have := tagsOf_subperm p hj.subperm
  rw [hsame] at this
  simpa [RegionClaims.live, hx] using this

theorem claims_leaveStage (r : RegionId) (g : Region) (s : State) :
    ∃ y, Kept (s.claims r) y ∧ ClaimsBecome r y s (leaveStage r g s).1 := by
  have ht : ClaimsBecome r (countStage (s.claims r)) s (s.setClaims r (countStage (s.claims r))) := claimsBecome_setClaims ..
  unfold leaveStage
  simp only
  split
  · exact ⟨_, kept_countStage _, ht⟩
  · next h hh =>
    split
    · exact ⟨_, kept_countStage _, ht⟩
    · next cause _ =>
      obtain ⟨w, hj, hw⟩ := claims_leave r h cause (s.setClaims r (countStage (s.claims r)))
      rw [ht.self] at hj hw hh
      exact ⟨_, (kept_countStage _).trans (kept_left (c := { h with mark := none }) hh ⟨rfl, rfl⟩ hj), ht.trans hw⟩

/-- A claim made holder stands there and no longer on the wait list; nothing else has changed but the frame of last change (R33). -/
theorem promote_does {r : RegionId} {g : Region} (c : Claim) {s : State} (hg : s.region r = some g) :
    ClaimsBecome r { s.claims r with holder := some c, waiting := removeClaim c (s.claims r).waiting } s (promote r c s)
      ∧ (promote r c s).canvas = (s.setRegion r (some { g with lastChange := some s.comp.frame })).canvas := by
  have ht : (s.setClaims r { s.claims r with holder := some c, waiting := removeClaim c (s.claims r).waiting }).region r = some g := hg
  unfold promote
  simp only [ht]
  constructor
  · refine (claimsBecome_setClaims ..).congr ?_
    rw [claimNotice_arbiter, setRegion_arbiter]
  · rw [((only_claimNotice (parts := []) ..).mpr only_rfl).canvas]
    rfl

/-- A holder displaced is gone or waits again, the candidate stands in its place (R34). -/
theorem displace_does {r : RegionId} {g : Region} (h c : Claim) {s : State} (hg : s.region r = some g) :
    (∃ w, Joins { h with mark := none } (s.claims r).waiting w
        ∧ ClaimsBecome r { s.claims r with holder := some c, waiting := removeClaim c w } s (displace r h c s))
      ∧ (displace r h c s).canvas = (s.setRegion r (some { g with lastChange := some s.comp.frame })).canvas := by
  let t := s.setClaims r { s.claims r with holder := none }
  have ht : ClaimsBecome r { s.claims r with holder := none } s t := claimsBecome_setClaims ..
  have step (w : List Claim) (u : State) (hj : Joins { h with mark := none } (s.claims r).waiting w)
      (hu : ClaimsBecome r { s.claims r with holder := none, waiting := w } s u) (hc : u.canvas = s.canvas) (hf : u.comp = s.comp) :
      (∃ w, Joins { h with mark := none } (s.claims r).waiting w
        ∧ ClaimsBecome r { s.claims r with holder := some c, waiting := removeClaim c w } s (promote r c u))
      ∧ (promote r c u).canvas = (s.setRegion r (some { g with lastChange := some s.comp.frame })).canvas := by
    obtain ⟨hp, hpc⟩ := promote_does c ((region_of_canvas hc r).trans hg)
    rw [hu.self] at hp
    refine ⟨⟨w, hj, hu.trans hp⟩, hpc.trans ?_⟩
    simp [State.setRegion, hc, hf]
  have hpre (u : State) (hu : Only [.arbiter, .rotation, .messages] t u) (fields : List Atom) :
      Only [.arbiter, .rotation, .messages] s
        (dropped r { h with mark := none } false (claimNotice .preempted r { h with mark := none } fields u)) := by
    have : Only [.arbiter, .rotation, .messages] s t := by simp [t]
    simpa using this.trans hu
  obtain ⟨w, hj, hw⟩ := joinWait_claims r { h with mark := none } t
  have ho : Only [.arbiter, .rotation, .messages] t (joinWait r { h with mark := none } t).1 := by simp
  rw [ht.self] at hj hw
  have hst : Only [.arbiter, .rotation, .messages] s t := by simp [t]
  unfold displace
  simp only
  split
  · split
    · next u heq =>
      rw [heq] at hw ho
      refine step w _ hj ((ht.trans hw).congr (claimNotice_arbiter ..)) ?_ ?_
      · exact ((only_claimNotice ..).mpr (hst.trans ho)).canvas
      · exact ((only_claimNotice ..).mpr (hst.trans ho)).comp
    · next u heq =>
      rw [heq] at hw ho
      refine step w _ hj ((ht.trans hw).congr ((dropped_arbiter ..).trans (claimNotice_arbiter ..))) ?_ ?_
      · exact (hpre u ho _).canvas
      · exact (hpre u ho _).comp
  · refine step _ _ (.inl rfl) (ht.congr ((dropped_arbiter ..).trans (claimNotice_arbiter ..))) ?_ ?_
    · exact (hpre t only_rfl _).canvas
    · exact (hpre t only_rfl _).comp

end Sys2Proof.Machine
end

section
/-! PROOF. The evaluations of a tick, one region after another (R30). -/

namespace Sys2Proof.Machine

/-- A candidate made holder is one claim still, and takes no other port's claim away. -/
theorem lawful_promoted {x : RegionClaims} {c : Claim} {w : List Claim} (hc : c ∈ x.waiting)
    (hw : w = x.waiting ∨ ∃ h, x.holder = some h ∧ Joins { h with mark := none } x.waiting w) :
    Lawful x { x with holder := some c, waiting := removeClaim c w } := by
  have hself : (c :: removeClaim c x.waiting).Subperm x.waiting := by
    have hperm := List.perm_cons_erase hc
    have hfilter : (removeClaim c x.waiting).Subperm (x.waiting.erase c) := by
      have := (hperm.filter (fun v => !v.same c)).subperm
      rw [List.filter_cons, if_neg (by simp [claim_same_refl])] at this
      exact this.trans List.filter_sublist.subperm
    exact ((List.subperm_cons c).mpr hfilter).trans hperm.symm.subperm
  rcases hw with rfl | ⟨h, hh, hj⟩
  · refine ⟨fun ho => ⟨(List.length_filter_le ..).trans ho.1, ho.2.sublist List.filter_sublist⟩, fun p => ?_⟩
    exact tagsOf_subperm p (hself.trans (List.sublist_append_right ..).subperm)
  · refine ⟨fun ho => ?_, fun p => ?_⟩
    · have := hj.ordered ho
      exact ⟨(List.length_filter_le ..).trans this.1, this.2.sublist List.filter_sublist⟩
    · have hback : (removeClaim c w).Subperm ({ h with mark := none } :: removeClaim c x.waiting) := by
        have hs := hj.subperm.filter (fun v => !v.same c)
        rw [List.filter_cons] at hs
        split at hs
        · exact hs
        · exact hs.trans (List.sublist_cons_self ..).subperm
      have hall : (c :: removeClaim c w).Subperm ({ h with mark := none } :: x.waiting) :=
        ((List.subperm_cons c).mpr hback).trans ((List.Perm.swap ..).subperm.trans ((List.subperm_cons _).mpr hself))
      have htags := tagsOf_subperm p hall
      have hsame : tagsOf p ({ h with mark := none } :: x.waiting) = tagsOf p (h :: x.waiting) := by
        simp [tagsOf, List.filter_cons]
        split <;> simp
      rw [hsame] at htags
      simpa [RegionClaims.live, hh] using htags

/-- What the evaluation of a region did to its record and its holder: neither changed, but that a holder may be gone; or the dwell had passed,
and the record has the frame as its last change (R33). -/
def Verdicts (f : FrameNo) (r : RegionId) (s t : State) : Prop :=
  (s.region r = none → t.region r = none)
    ∧ ∀ g, s.region r = some g →
        (t.region r = some g ∧ HolderStays (s.claims r) (t.claims r))
          ∨ (t.region r = some { g with lastChange := some f } ∧ ∀ f0, g.lastChange = some f0 → g.dwell ≤ (f - f0).toNat)

theorem dwellPassed_iff (g : Region) (f : FrameNo) : dwellPassed g f = true ↔ ∀ f0, g.lastChange = some f0 → g.dwell ≤ (f - f0).toNat := by
  unfold dwellPassed framesSince
  cases g.lastChange <;> simp

/-- The replace or promote stage, which finds the record as the evaluation found it (R33, R34). -/
theorem replaceStage_does {r : RegionId} {g : Region} (passed : Bool) (left : Option Claim) {s : State} (hg : s.region r = some g) :
    ∃ y, Lawful (s.claims r) y ∧ ClaimsBecome r y s (replaceStage r g passed left s).1
      ∧ (((replaceStage r g passed left s).1.canvas = s.canvas ∧ HolderStays (s.claims r) y)
        ∨ (passed = true
          ∧ (replaceStage r g passed left s).1.canvas = (s.setRegion r (some { g with lastChange := some s.comp.frame })).canvas)) := by
  have same : ∃ y, Lawful (s.claims r) y ∧ ClaimsBecome r y s s ∧ ((s.canvas = s.canvas ∧ HolderStays (s.claims r) y)
        ∨ (passed = true ∧ s.canvas = (s.setRegion r (some { g with lastChange := some s.comp.frame })).canvas)) :=
    ⟨_, (Kept.refl _).toLawful, claimsBecome_refl r s, .inl ⟨rfl, (Kept.refl _).holder⟩⟩
  have mem {c : Claim} (hc : candidate s r g = some c) : c ∈ (s.claims r).waiting := List.mem_of_find?_eq_some hc
  unfold replaceStage
  split
  · exact same
  · next h c hh hc =>
    split
    · next hcond =>
      obtain ⟨⟨w, hj, hw⟩, hcan⟩ := displace_does h c hg
      exact ⟨_, lawful_promoted (mem hc) (.inr ⟨h, hh, hj⟩), hw, .inr ⟨by simp at hcond; exact hcond.2, hcan⟩⟩
    · exact same
  · next c hh hc =>
    split
    · next hpassed =>
      obtain ⟨hw, hcan⟩ := promote_does c hg
      exact ⟨_, lawful_promoted (mem hc) (.inl rfl), hw, .inr ⟨hpassed, hcan⟩⟩
    · exact same

/-! ### The evaluation of regions, one after another (R30) -/

/-- What the evaluation of the regions listed does: they alone have new claims or a new last change, and the laws stand. -/
structure Evaluated (rs : List RegionId) (s t : State) : Prop where
  other : ∀ n, n ∉ rs → t.region n = s.region n ∧ t.claims n = s.claims n
  frame : t.comp.frame = s.comp.frame
  records : SameRecords s t
  fixed : FixedLaw s → FixedLaw t
  lawful : ∀ n, Lawful (s.claims n) (t.claims n)
  verdict : ∀ n, Verdicts s.comp.frame n s t

theorem verdicts_of_same {f : FrameNo} {r : RegionId} {s t : State} (hr : t.region r = s.region r) (hc : t.claims r = s.claims r) :
    Verdicts f r s t :=
  ⟨fun h => hr.trans h, fun g hg => .inl ⟨hr.trans hg, by rw [hc]; exact (Kept.refl _).holder⟩⟩

theorem Evaluated.refl (s : State) : Evaluated [] s s :=
  ⟨fun _ _ => ⟨rfl, rfl⟩, rfl, fun _ => rfl, id, fun _ => (Kept.refl _).toLawful, fun _ => verdicts_of_same rfl rfl⟩

theorem Evaluated.trans {r : RegionId} {rs : List RegionId} {s t u : State} (hr : r ∉ rs) (h : Evaluated [r] s t) (k : Evaluated rs t u) :
    Evaluated (r :: rs) s u := by
  refine ⟨fun n hn => ?_, k.frame.trans h.frame, h.records.trans k.records, k.fixed ∘ h.fixed, fun n => (h.lawful n).trans (k.lawful n),
    fun n => ?_⟩
  · obtain ⟨hnr, hnrs⟩ := not_or.mp (mt List.mem_cons.mpr hn)
    obtain ⟨h1, h2⟩ := h.other n (by simpa using hnr)
    obtain ⟨k1, k2⟩ := k.other n hnrs
    exact ⟨k1.trans h1, k2.trans h2⟩
  · by_cases hn : n = r
    · subst hn
      obtain ⟨k1, k2⟩ := k.other n hr
      have := h.verdict n
      simpa only [Verdicts, k1, k2] using this
    · obtain ⟨h1, h2⟩ := h.other n (by simpa using hn)
      have := k.verdict n
      rw [h.frame] at this
      simpa only [Verdicts, h1, h2] using this

/-- The engines' part of an evaluation, and the wait count noted, keep the region's claims and touch no other's (R35, R126, R160). -/
theorem claims_rotationAct (r : RegionId) (g : Region) (v : Verdict) (s : State) :
    ∃ y, Kept (s.claims r) y ∧ ClaimsBecome r y s (rotationAct r g v s) := by
  have hcut : (cutSpot r s).arbiter = s.arbiter := ((only_cutSpot (parts := [.rotation]) (by simp) r).mpr only_rfl).arbiter
  have hselect (u : State) : (selectSpot r g u).arbiter = u.arbiter := ((only_selectSpot (parts := [.rotation]) (by simp) r g).mpr only_rfl).arbiter
  have same (u : State) (hu : u.arbiter = s.arbiter) : ∃ y, Kept (s.claims r) y ∧ ClaimsBecome r y s u :=
    ⟨_, Kept.refl _, (claimsBecome_refl r s).congr hu⟩
  unfold rotationAct
  extract_lets u t
  have ht : ∃ y, Kept (s.claims r) y ∧ ClaimsBecome r y s t := by
    unfold t u
    split
    · exact same s rfl
    · split
      · split
        · obtain ⟨y, hk, hy⟩ := claims_settle .rotation r (cutSpot r s)
          rw [claims_of_arbiter hcut] at hk
          exact ⟨y, hk, ((claimsBecome_refl r s).congr hcut).trans hy⟩
        · exact same _ hcut
      · exact same s rfl
  obtain ⟨y, hk, hy⟩ := ht
  split
  · exact ⟨y, hk, hy.congr (hselect t)⟩
  · exact ⟨y, hk, hy⟩

theorem claims_messageAct (r : RegionId) (g : Region) (v : Verdict) (s : State) :
    ∃ y, Kept (s.claims r) y ∧ ClaimsBecome r y s (messageAct r g v s) := by
  unfold messageAct
  extract_lets t u
  have ht : Only [.messages] s t := by
    unfold t
    split
    · simp
    · split
      · split <;> simp
      · simp
  have hu : u.arbiter = s.arbiter := by
    have : Only [.messages] s u := by
      unfold u
      split <;> simpa using ht
    exact this.arbiter
  obtain ⟨y, hk, hy⟩ := claims_settle .message r u
  rw [claims_of_arbiter hu] at hk
  exact ⟨y, hk, ((claimsBecome_refl r s).congr hu).trans hy⟩

theorem claims_noteWaiting (r : RegionId) (s : State) : ∃ y, Kept (s.claims r) y ∧ ClaimsBecome r y s (noteWaiting r s) :=
  ⟨_, kept_seen .., claimsBecome_setClaims ..⟩

/-- Two operations on the claims of one region, one after the other. -/
theorem claims_then {r : RegionId} {x : RegionClaims} {s t u : State} (h : ∃ y, Kept x y ∧ ClaimsBecome r y s t)
    (k : ∃ z, Kept (t.claims r) z ∧ ClaimsBecome r z t u) : ∃ z, Kept x z ∧ ClaimsBecome r z s u := by
  obtain ⟨y, hk, hy⟩ := h
  obtain ⟨z, hz, hu⟩ := k
  rw [hy.self] at hz
  exact ⟨z, hk.trans hz, hy.trans hu⟩

/-- What becomes of the claims and the record of a region that the arbiter evaluates (R30). -/
theorem arbitrate_does {r : RegionId} {g : Region} {s : State} (hg : s.region r = some g) :
    ∃ y, Lawful (s.claims r) y ∧ ClaimsBecome r y s (arbitrate r g s).1
      ∧ (((arbitrate r g s).1.canvas = s.canvas ∧ HolderStays (s.claims r) y)
        ∨ (dwellPassed g s.comp.frame = true
          ∧ (arbitrate r g s).1.canvas = (s.setRegion r (some { g with lastChange := some s.comp.frame })).canvas)) := by
  obtain ⟨y, hk, hy⟩ := claims_leaveStage r g s
  have hcan := (only_leaveStage (s := s) r g).canvas
  have hcomp := (only_leaveStage (s := s) r g).comp
  obtain ⟨z, hz, hzb, hcase⟩ := replaceStage_does (r := r) (dwellPassed g s.frame) (leaveStage r g s).2
    ((region_of_canvas hcan r).trans hg)
  rw [hy.self] at hz hcase
  refine ⟨z, hk.toLawful.trans hz, hy.trans hzb, ?_⟩
  rcases hcase with ⟨hc, hh⟩ | ⟨hp, hc⟩
  · exact .inl ⟨hc.trans hcan, hk.holder.trans hh⟩
  · refine .inr ⟨hp, hc.trans ?_⟩
    simp [State.setRegion, hcan, hcomp]

/-- A step that changes the claims of one region lawfully, and of the canvas at most that region's last change, its dwell having passed. -/
theorem evaluated_of {r : RegionId} {g : Region} {z : RegionClaims} {s t : State} (hg : s.region r = some g) (hf : g.fixed = false)
    (hclaims : ClaimsBecome r z s t) (hlaw : Lawful (s.claims r) z) (hframe : t.comp.frame = s.comp.frame)
    (hregion : (t.canvas = s.canvas ∧ HolderStays (s.claims r) z)
      ∨ (dwellPassed g s.comp.frame = true ∧ t.canvas = (s.setRegion r (some { g with lastChange := some s.comp.frame })).canvas)) :
    Evaluated [r] s t := by
  have hother : ∀ n, n ≠ r → t.region n = s.region n := by
    intro n hn
    rcases hregion with ⟨h, -⟩ | ⟨-, h⟩
    · exact region_of_canvas h n
    · rw [region_of_canvas h, region_setRegion, if_neg hn]
  have hself : (t.region r = some g ∧ HolderStays (s.claims r) z)
      ∨ (dwellPassed g s.comp.frame = true ∧ t.region r = some { g with lastChange := some s.comp.frame }) := by
    rcases hregion with ⟨h, hh⟩ | ⟨hp, h⟩
    · exact .inl ⟨(region_of_canvas h r).trans hg, hh⟩
    · exact .inr ⟨hp, by rw [region_of_canvas h, region_setRegion_self]⟩
  have hsame : SameRecords s t := by
    intro n
    by_cases hn : n = r
    · subst hn
      rcases hself with ⟨h, -⟩ | ⟨-, h⟩ <;> rw [h, hg]
      rfl
    · rw [hother n hn]
  refine ⟨fun n hn => ?_, hframe, hsame, fun hF => ?_, fun n => ?_, fun n => ?_⟩
  · have hnr : n ≠ r := by simpa using hn
    exact ⟨hother n hnr, hclaims.other hnr⟩
  · refine fixedLaw_sameRecords hsame (fun n hc hb => ?_) hF
    have hnr : n ≠ r := by
      rintro rfl
      have := hc g hg
      rw [hf] at this
      cases this
    rwa [hclaims.other hnr]
  · by_cases hn : n = r
    · subst hn
      rwa [hclaims.self]
    · rw [hclaims.other hn]
      exact (Kept.refl _).toLawful
  · by_cases hn : n = r
    · subst hn
      refine ⟨fun h => absurd (hg.symm.trans h) (by simp), fun k hk => ?_⟩
      obtain rfl : g = k := Option.some.inj (hg.symm.trans hk)
      rcases hself with ⟨h, hh⟩ | ⟨hp, h⟩
      · exact .inl ⟨h, by rwa [hclaims.self]⟩
      · exact .inr ⟨h, (dwellPassed_iff ..).mp hp⟩
    · exact verdicts_of_same (hother n hn) (hclaims.other hn)

/-- What the evaluation of one region does (R30 to R35). -/
theorem evaluated_evaluate (r : RegionId) (s : State) : Evaluated [r] s (evaluate r s) := by
  have stays : Evaluated [r] s s :=
    ⟨fun _ _ => ⟨rfl, rfl⟩, rfl, fun _ => rfl, id, fun _ => (Kept.refl _).toLawful, fun _ => verdicts_of_same rfl rfl⟩
  unfold evaluate
  split
  · exact stays
  next g hg =>
  split
  · exact stays
  next hf =>
  have hu : Only [.rotation, .messages] s (countPass r (countSpot r g s)) := by simp
  generalize countPass r (countSpot r g s) = u at hu
  obtain ⟨y, hlaw, hy, hcase⟩ := arbitrate_does ((region_of_canvas hu.canvas r).trans hg)
  have he : Only [.canvas, .arbiter, .rotation, .messages] u (arbitrate r g u).1 := only_arbitrate r g
  simp only
  generalize arbitrate r g u = e at hy hcase he
  obtain ⟨z, hz, hzb⟩ := claims_then (claims_then (claims_rotationAct r g e.2 e.1) (claims_messageAct r g e.2 _)) (claims_noteWaiting r _)
  have hrest : Only [.arbiter, .rotation, .messages] e.1 (noteWaiting r (messageAct r g e.2 (rotationAct r g e.2 e.1))) := by
    have := (only_rotationAct (s := e.1) r g e.2).trans (only_messageAct r g e.2)
    simpa [noteWaiting] using this
  generalize noteWaiting r (messageAct r g e.2 (rotationAct r g e.2 e.1)) = t at hzb hrest
  rw [hy.self] at hz
  rw [claims_of_arbiter hu.arbiter] at hlaw hcase
  rw [hu.canvas, hu.comp] at hcase
  refine evaluated_of hg (by simpa using hf) (((claimsBecome_refl r s).congr hu.arbiter).trans (hy.trans hzb)) (hlaw.trans hz.toLawful) ?_ ?_
  · rw [hrest.comp, he.comp, hu.comp]
  · rcases hcase with ⟨hc, hh⟩ | ⟨hp, hc⟩
    · exact .inl ⟨hrest.canvas.trans hc, hh.trans hz.holder⟩
    · refine .inr ⟨hp, hrest.canvas.trans (hc.trans ?_)⟩
      simp [State.setRegion, hu.canvas]

theorem evaluated_foldl (rs : List RegionId) (hrs : rs.Nodup) (s : State) : Evaluated rs s (rs.foldl (fun t r => evaluate r t) s) := by
  induction rs generalizing s with
  | nil => exact Evaluated.refl s
  | cons r rest ih =>
    obtain ⟨hr, hrest⟩ := List.nodup_cons.mp hrs
    exact (evaluated_evaluate r s).trans hr (ih hrest _)

theorem evaluated_evaluateAll (s : State) : Evaluated allRegions s (evaluateAll s) := evaluated_foldl _ allRegions_nodup s

end Sys2Proof.Machine
end

section
/-! PROOF. Device reset, and what carries a request to its block and back, promote no claim. -/

namespace Sys2Proof.Machine

/-! ### The part right after reset, read element by element -/

section Reset
variable (pending : List Instr) (free : Nat) (nor : List (Nat × Page)) (dirsel : Fin 8) (ratesel : Bool)

@[simp] theorem region_resetWith (r : RegionId) :
    (State.resetWith pending free nor dirsel ratesel).region r = if r = 0 then some Region.base else none := by
  have h : ∀ r : RegionId, Canvas.reset.regions.get r = if r = 0 then some Region.base else none := by decide
  exact h r

@[simp] theorem claims_resetWith (r : RegionId) : (State.resetWith pending free nor dirsel ratesel).claims r = ⟨none, [], 0⟩ := by
  have h : ∀ r : RegionId, Arbiter.reset.claims.get r = ⟨none, [], 0⟩ := by decide
  exact h r

@[simp] theorem colour_resetWith (n : PatternId) : (State.resetWith pending free nor dirsel ratesel).colour n = ⟨0, 0, 0⟩ := by
  have h : ∀ n : PatternId, Canvas.reset.colours.get n = ⟨0, 0, 0⟩ := by decide
  exact h n

@[simp] theorem currentSpot_resetWith (r : RegionId) : (State.resetWith pending free nor dirsel ratesel).currentSpot r = none := by
  have h : ∀ r : RegionId, Rotation.reset.current.get r = none := by decide
  exact h r

@[simp] theorem pass_resetWith (r : RegionId) : (State.resetWith pending free nor dirsel ratesel).pass r = none := by
  have h : ∀ r : RegionId, Messages.reset.passes.get r = none := by decide
  exact h r

@[simp] theorem monitor_resetWith (m : MonitorId) : (State.resetWith pending free nor dirsel ratesel).monitor m = Monitor.reset := by
  simp [State.monitor, State.resetWith, Vector.get_eq_getElem]

@[simp] theorem link_resetWith (k : LinkId) : (State.resetWith pending free nor dirsel ratesel).link k = Link.reset := by
  simp [State.link, State.resetWith, Vector.get_eq_getElem]

@[simp] theorem input_resetWith (i : InputId) : (State.resetWith pending free nor dirsel ratesel).input i = PictureInput.reset := by
  cases i <;> rfl

theorem port_resetWith (p : PortId) :
    (State.resetWith pending free nor dirsel ratesel).port p = Port.reset (if p = directorOf dirsel then .director else .general) := by
  refine (vector_get_set (Vector.replicate 6 (Port.reset .general)) (directorOf dirsel) p (Port.reset .director)).trans ?_
  split <;> simp [Vector.get_eq_getElem]

end Reset

theorem regionLaw_resetWith (pending : List Instr) (free : Nat) (nor : List (Nat × Page)) (dirsel : Fin 8) (ratesel : Bool) :
    RegionLaw (State.resetWith pending free nor dirsel ratesel) := by
  refine ⟨⟨Region.base, by simp, rfl, rfl, rfl, rfl, rfl, rfl⟩, fun r g hr hg => by simp [hr] at hg, fun a b g h c r hab hg hh => ?_⟩
  simp only [region_resetWith] at hg hh
  split_ifs at hg hh with h1 h2
  exact absurd (h1.trans h2.symm) hab

theorem fixedLaw_resetWith (pending : List Instr) (free : Nat) (nor : List (Nat × Page)) (dirsel : Fin 8) (ratesel : Bool) :
    FixedLaw (State.resetWith pending free nor dirsel ratesel) := by
  refine (fixedLaw_iff _).mpr ⟨fun r g hg hf => ?_, fun r _ => by simp [RegionClaims.bare]⟩
  simp only [region_resetWith] at hg
  split_ifs at hg
  cases hg
  cases hf

theorem waitLaw_resetWith (pending : List Instr) (free : Nat) (nor : List (Nat × Page)) (dirsel : Fin 8) (ratesel : Bool) :
    WaitLaw (State.resetWith pending free nor dirsel ratesel) := fun r => by simp

theorem claimSetLaw_resetWith (pending : List Instr) (free : Nat) (nor : List (Nat × Page)) (dirsel : Fin 8) (ratesel : Bool) :
    ClaimSetLaw (State.resetWith pending free nor dirsel ratesel) := by
  refine (claimSetLaw_iff _).mpr fun p => ?_
  have h : ∀ l : List RegionId, l.flatMap (fun _ => ([] : List Nat)) = [] := by simp
  simp [RegionClaims.live, tagsOf, h]

theorem calm_deviceReset (pending : List Instr) (free : Nat) (nor : List (Nat × Page)) (dirsel : Fin 8) (ratesel : Bool) (s : State) :
    Calm s (State.resetWith pending free nor dirsel ratesel) := by
  refine ⟨fun _ _ => ⟨regionLaw_resetWith .., fixedLaw_resetWith _ _ _ _ _⟩, fun _ => waitLaw_resetWith _ _ _ _ _,
    fun _ => claimSetLaw_resetWith _ _ _ _ _, fun r c hc => by simp at hc, fun r x f hx hf => ?_⟩
  simp only [region_resetWith] at hx
  split_ifs at hx
  cases hx
  cases hf

/-! ### Requests, one and all -/

/-- A command that is carried on a link is received there, and handed to its block (R191, R193). -/
theorem exec_of_wireOf {i : Instr} {x : PortId × Byte × Nat × List Atom} (h : wireOf i = some x) (s : State) :
    exec i s = .next (pump (receive x.1 x.2.1 x.2.2.1 (handOn i) s)) := by
  cases i <;> cases h <;> rfl

/-- A reading request leaves the part as it is. -/
theorem onReadRegion_fst (id : Nat) (s : State) : (onReadRegion id s).1 = s := by
  unfold onReadRegion
  split
  · rfl
  · split <;> rfl

theorem onReadLink_fst (link : Nat) (s : State) : (onReadLink link s).1 = s := by
  unfold onReadLink
  split <;> rfl

theorem onReadClaims_fst (p : PortId) (port : Nat) (s : State) : (onReadClaims p port s).1 = s := by
  unfold onReadClaims
  split
  · rfl
  · split <;> rfl

theorem onReadComposition_fst (col row : Nat) (s : State) : (onReadComposition col row s).1 = s := by
  unfold onReadComposition
  split_ifs
  · rfl
  · rfl
  · split <;> rfl

theorem onReadExposure_fst (contract start : Option Nat) (s : State) : (onReadExposure contract start s).1 = s := by
  unfold onReadExposure
  simp only
  split
  · rfl
  · split
    · rfl
    · split <;> rfl

theorem calm_handOn (i : Instr) (s : State) : Calm s (handOn i s).1 := by
  cases i
  case defineRegion => exact calm_onDefineRegion ..
  case deleteRegion => exact calm_onDeleteRegion ..
  case setBase => exact calm_onSetBase ..
  case setFill => exact calm_onSetFill ..
  case goLive => exact calm_onGoLive s
  case endLive => exact calm_onEndLive s
  case matchReset => exact calm_onMatchReset s
  case setPortRole => exact (only_onSetPortRole ..).calm
  case setPortTimeout => exact calm_onSetPortTimeout ..
  case setPriorityMap => exact (only_onSetPriorityMap ..).calm
  case setEngineRank => exact calm_onSetEngineRank ..
  case setInput => exact (only_onSetInput ..).calm
  case setMonitor => exact (only_onSetMonitor ..).calm
  case clearFaults => exact (only_onClearFaults ..).calm
  case setLinkMode => exact (only_onSetLinkMode ..).calm
  case messageApprove => exact calm_onMessageApprove ..
  case messageReject => exact (only_onMessageReject ..).calm
  case messageConfig => exact (only_onMessageConfig ..).calm
  case claim => exact calm_onClaim ..
  case release => exact calm_onRelease ..
  case withdraw => exact calm_onWithdraw ..
  case resume => exact Only.calm (parts := []) (by simp [handOn, onResume])
  case clockStart => exact calm_onClockStart s
  case clockStop => exact only_onClockStop.calm
  case clockSet => exact (only_onClockSet ..).calm
  case clockAdjust => exact (only_onClockAdjust ..).calm
  case possessionReset => exact (only_onPossessionReset ..).calm
  case nextPeriod => exact calm_onNextPeriod s
  case scoreSet => exact (only_onScoreSet ..).calm
  case clockConfig => exact (only_onClockConfig ..).calm
  case clockMark => exact (only_onClockMark ..).calm
  case capture => exact (only_onCapture ..).calm
  case takeCapture => exact only_onTakeCapture.calm
  case rotationBegin => exact (only_onRotationBegin ..).calm
  case rotationContract => exact (only_onRotationContract ..).calm
  case rotationSpot => exact (only_onRotationSpot ..).calm
  case rotationCommit => exact calm_onRotationCommit ..
  case rotationDiscard => exact (only_onRotationDiscard ..).calm
  case contractSuspend => exact (only_onContractSuspend ..).calm
  case uploadBegin => exact (only_onUploadBegin ..).calm
  case uploadLoad => exact (only_onUploadLoad ..).calm
  case uploadCommit => exact (only_onUploadCommit ..).calm
  case uploadFinish => exact (only_onUploadFinish ..).calm
  case uploadAbort => exact (only_onUploadAbort ..).calm
  case assetRetire => exact (only_onAssetRetire ..).calm
  case assetReclaim => exact (only_onAssetReclaim ..).calm
  case messageSubmit => exact calm_onMessageSubmit ..
  case messageWithdraw => exact calm_onMessageWithdraw ..
  case portReset => exact calm_onPortReset ..
  case readRegion => exact calm_of_same (by simp [handOn, onReadRegion_fst]) (by simp [handOn, onReadRegion_fst])
  case readLink => exact calm_of_same (by simp [handOn, onReadLink_fst]) (by simp [handOn, onReadLink_fst])
  case readClaims => exact calm_of_same (by simp [handOn, onReadClaims_fst]) (by simp [handOn, onReadClaims_fst])
  case readComposition => exact calm_of_same (by simp [handOn, onReadComposition_fst]) (by simp [handOn, onReadComposition_fst])
  case readExposure => exact calm_of_same (by simp [handOn, onReadExposure_fst]) (by simp [handOn, onReadExposure_fst])
  all_goals exact Calm.refl s

theorem only_conclude {parts : List Part} {s : State} (p : PortId) (q : Byte) (code : Nat) (r : State × Ans) :
    Only parts s (conclude p q code r) ↔ Only parts s r.1 := by
  unfold conclude
  split
  · simp
  · simp only
    split <;> simp

theorem calm_conclude {s : State} (p : PortId) (q : Byte) (code : Nat) {r : State × Ans} (h : Calm s r.1) : Calm s (conclude p q code r) :=
  h.trans (Only.calm (parts := []) ((only_conclude p q code r).mpr only_rfl))

theorem calm_frameArrives (p : PortId) (s : State) : Calm s (frameArrives p s) := Only.calm (parts := [.monitors]) (by simp)

theorem calm_receive (p : PortId) (q : Byte) (code : Nat) {act : State → State × Ans} (h : ∀ u, Calm u (act u).1) (s : State) :
    Calm s (receive p q code act s) := by
  unfold receive taken
  simp only
  split
  · exact calm_frameArrives p s
  · refine (calm_frameArrives p s).trans ?_
    split
    · exact Only.calm (parts := []) (by simp)
    · exact calm_conclude p q code (h _)

theorem calm_validFrame (p : PortId) (f : RxFrame) (s : State) : Calm s (validFrame p f s) := by
  have h := calm_frameArrives p s
  unfold validFrame takenFrame
  simp only
  split
  · exact h
  · refine h.trans ?_
    split
    · split
      · exact Only.calm (parts := []) (by simp)
      · exact Only.calm (parts := []) (by simp)
      · exact calm_conclude _ _ _ (calm_handOn ..)
    · exact Only.calm (parts := []) (by simp)

theorem calm_pump {s t : State} (h : Calm s t) : Calm s (pump t) := h.trans (Only.calm (parts := []) (by simp))

theorem calm_rxByte (p : PortId) (s : State) (b : Byte) : Calm s (rxByte p s b) := by
  have hset (l : List Byte) : Calm s (setRx p l s) := Only.calm (parts := []) (by simp)
  unfold rxByte
  simp only
  split
  · split
    · exact hset _
    · exact Calm.refl s
  · split
    · exact hset _
    · exact hset _
    · exact calm_pump ((hset _).trans (calm_validFrame ..))

theorem calm_rxBytes (p : PortId) (bytes : List Byte) (s : State) : Calm s (rxBytes p bytes s) := calm_foldl (calm_rxByte p) bytes s

end Sys2Proof.Machine
end

section
/-! PROOF. The frame tick and every command: the laws of regions and claims (O54). -/

namespace Sys2Proof.Machine

/-! ### The frame tick (R48) -/

/-- What a frame tick does to regions and claims: the laws stand, records are alike but for their last change, and each region has the verdict
of its one evaluation. -/
structure Ticked (s t : State) : Prop where
  records : SameRecords s t
  fixed : FixedLaw s → RegionLaw s → FixedLaw t
  wait : WaitLaw s → WaitLaw t
  claimSet : ClaimSetLaw s → ClaimSetLaw t
  verdict : ∀ r, Verdicts t.comp.frame r s t

theorem Evaluated.ticked {rs : List RegionId} {s t : State} (h : Evaluated rs s t) : Ticked s t :=
  ⟨h.records, fun hF _ => h.fixed hF, fun hw r => (h.lawful r).ordered (hw r), ClaimSetLaw.of_fewer fun r => (h.lawful r).fewer,
    fun r => by rw [h.frame]; exact h.verdict r⟩

/-- What comes before the evaluations of a tick changes neither regions nor claims. -/
theorem Ticked.after {s t u : State} (hc : t.canvas = s.canvas) (ha : t.arbiter = s.arbiter) (h : Ticked t u) : Ticked s u := by
  have hr := region_of_canvas hc
  have hk := claims_of_arbiter ha
  have hcalm : Calm s t := calm_of_same hr ha
  refine ⟨(sameRecords_of_canvas hc).trans h.records, fun hF hR => ?_, h.wait ∘ hcalm.wait, h.claimSet ∘ hcalm.claimSet, fun r => ?_⟩
  · obtain ⟨hR', hF'⟩ := hcalm.canvas hR hF
    exact h.fixed hF' hR'
  · simpa only [Verdicts, hr, hk] using h.verdict r

/-- What comes after them leaves the canvas and the frame, and promotes no claim. -/
theorem Ticked.andThen {s t u : State} (h : Ticked s t) (hc : u.canvas = t.canvas) (hf : u.comp.frame = t.comp.frame) (k : Calm t u) :
    Ticked s u := by
  refine ⟨h.records.trans (sameRecords_of_canvas hc), fun hF hR => (k.canvas (regionLaw_sameRecords h.records hR) (h.fixed hF hR)).2,
    k.wait ∘ h.wait, k.claimSet ∘ h.claimSet, fun r => ?_⟩
  obtain ⟨hnone, hsome⟩ := h.verdict r
  rw [hf]
  refine ⟨fun hr => (region_of_canvas hc r).trans (hnone hr), fun g hg => ?_⟩
  rcases hsome g hg with ⟨ht, hh⟩ | ⟨ht, hd⟩
  · exact .inl ⟨(region_of_canvas hc r).trans ht, hh.trans (k.holder r)⟩
  · exact .inr ⟨(region_of_canvas hc r).trans ht, hd⟩

/-- The evaluations of a tick, from the state in which the tick begins (R30, R48). -/
theorem ticked_evaluateAll (n : Nat) (s : State) :
    Ticked s (evaluateAll (linksTick (inputTick .pb (inputTick .pa (advance n (forceCloseAll s)))))) := by
  have h : Only [.links, .monitors, .rotation, .exposure, .comp, .inputs] s
      (linksTick (inputTick .pb (inputTick .pa (advance n (forceCloseAll s))))) := by
    simpa using only_forceCloseAll.mono (by decide)
  exact (evaluated_evaluateAll _).ticked.after h.canvas h.arbiter

theorem ticked_reoffer {s t : State} (due : List (Engine × RegionId)) (h : Ticked s t) : Ticked s (reoffer due t) :=
  h.andThen (only_reoffer due).canvas (by rw [(only_reoffer due).comp]) (calm_reoffer due t)

theorem compose_frame (s : State) : (compose s).comp.frame = s.comp.frame := by
  have h : Only [.monitors] { s with comp := { s.comp with map := some (buildMap s), previous := s.comp.map }, score := s.score.useFlash }
      (compose s) := by simp [compose]
  rw [h.comp]

theorem ticked_frameTick (n : Nat) (s : State) : Ticked s (frameTick n s) := by
  have h := ticked_reoffer (forceCloseAll s).dueOffers (ticked_evaluateAll n s)
  unfold frameTick
  dsimp only
  generalize reoffer (forceCloseAll s).dueOffers _ = u at h ⊢
  exact h.andThen only_compose.canvas (compose_frame u) only_compose.calm

/-! ### Every command (O54) -/

/-- What every step keeps of regions and claims. -/
def KeepsRegionsAndClaims (s t : State) : Prop :=
  (RegionLaw s → FixedLaw s → RegionLaw t ∧ FixedLaw t) ∧ (WaitLaw s → ClaimSetLaw s → WaitLaw t ∧ ClaimSetLaw t)
    ∧ ∀ r g, s.region r = some g →
        (∀ c, (t.claims r).holder = some c → (∀ h, (s.claims r).holder = some h → c.same h = false) →
          t.region r = some { g with lastChange := some t.comp.frame }
            ∧ ∀ f, g.lastChange = some f → g.dwell ≤ (t.comp.frame - f).toNat)
        ∧ (∀ x f, t.region r = some x → x.lastChange = some f → g.lastChange ≠ some f →
          f = t.comp.frame ∧ ∀ f0, g.lastChange = some f0 → g.dwell ≤ (f - f0).toNat)

/-- A holder that stays is no new holder. -/
theorem HolderStays.not_new {x y : RegionClaims} (h : HolderStays x y) {c : Claim} (hc : y.holder = some c)
    (hnew : ∀ h, x.holder = some h → c.same h = false) : False := by
  obtain ⟨d, hd, hcd⟩ := h c hc
  rw [hnew d hd] at hcd
  cases hcd

theorem Calm.keeps {s t : State} (h : Calm s t) : KeepsRegionsAndClaims s t := by
  refine ⟨h.canvas, fun hw hc => ⟨h.wait hw, h.claimSet hc⟩, fun r g hg => ⟨fun c hc hnew => ((h.holder r).not_new hc hnew).elim,
    fun x f hx hf hg' => ?_⟩⟩
  obtain ⟨k, hk, hkf⟩ := h.change r x f hx hf
  obtain rfl : g = k := Option.some.inj (hg.symm.trans hk)
  exact absurd hkf hg'

theorem Ticked.keeps {s t : State} (h : Ticked s t) : KeepsRegionsAndClaims s t := by
  refine ⟨fun hR hF => ⟨regionLaw_sameRecords h.records hR, h.fixed hF hR⟩, fun hw hc => ⟨h.wait hw, h.claimSet hc⟩, fun r g hg => ?_⟩
  rcases (h.verdict r).2 g hg with ⟨ht, hh⟩ | ⟨ht, hd⟩
  · refine ⟨fun c hc hnew => (hh.not_new hc hnew).elim, fun x f hx hf hg' => ?_⟩
    obtain rfl : g = x := Option.some.inj (ht.symm.trans hx)
    exact absurd hf hg'
  · refine ⟨fun _ _ _ => ⟨ht, hd⟩, fun x f hx hf _ => ?_⟩
    obtain rfl := Option.some.inj (ht.symm.trans hx)
    obtain rfl : t.comp.frame = f := Option.some.inj hf
    exact ⟨rfl, hd⟩

/-- A tick, or a step that promotes no claim. -/
def CalmOrTicked (s t : State) : Prop := Calm s t ∨ Ticked s t

theorem CalmOrTicked.keeps {s t : State} (h : CalmOrTicked s t) : KeepsRegionsAndClaims s t := h.elim Calm.keeps Ticked.keeps

theorem CalmOrTicked.pump {s t : State} (h : CalmOrTicked s t) : CalmOrTicked s (pump t) := by
  rcases h with h | h
  · exact .inl (calm_pump h)
  · exact .inr (h.andThen (pump_canvas t) (by rw [pump_comp]) (calm_pump (Calm.refl t)))

theorem calmOrTicked_timerTick (s : State) : CalmOrTicked s (timerTick s) := .inr (ticked_frameTick ..)

theorem calmOrTicked_tickIf (due : Bool) (s : State) : CalmOrTicked s (tickIf due s) := by
  unfold tickIf
  split
  · exact calmOrTicked_timerTick s
  · exact .inl (Calm.refl s)

theorem calmOrTicked_timerExpiry (n : Nat) (s : State) : CalmOrTicked s (timerExpiry n s) := by
  unfold timerExpiry
  split
  · exact calmOrTicked_timerTick s
  · exact .inl (Calm.refl s)

theorem calmOrTicked_genlockEdge (n : Nat) (s : State) : CalmOrTicked s (genlockEdge n s) := by
  have hlock (u : State) : Only [.comp, .monitors] u (lockTo n u) := by simp
  unfold genlockEdge
  split
  · exact .inl (Calm.refl s)
  · split
    · exact .inr ((ticked_frameTick n _).after (hlock s).canvas (hlock s).arbiter)
    · exact .inl (Only.calm (parts := [.comp, .monitors]) (by simp))

/-- A step that ends by starting the free transmitters. -/
theorem calmOrTicked_next {o : Host.Outcome State Fault Refusal} {s t u : State} (h : CalmOrTicked s u) (ho : o = .next (pump u))
    (ht : o = .next t) : CalmOrTicked s t := by
  obtain rfl : pump u = t := Host.Outcome.next.inj (ho.symm.trans ht)
  exact h.pump

theorem calmOrTicked_deviceReset (dirsel : Fin 8) (ratesel : Bool) (s : State) :
    CalmOrTicked s (State.resetWith s.pending (s.free + 16) (norAtReset s) dirsel ratesel) := .inl (calm_deviceReset ..)

theorem calmOrTicked_holdEnd (k : LinkId) (s : State) : CalmOrTicked s (if (s.link k).holdEnds then slotStart k s else s) := by
  split
  · exact .inl (only_slotStart _).calm
  · exact .inl (Calm.refl s)

/-- Every command but a request is a tick, or promotes no claim. -/
theorem calmOrTicked_event {i : Instr} (hi : wireOf i = none) {s t : State} (h : exec i s = .next t) : CalmOrTicked s t := by
  cases i
  case deviceReset => exact calmOrTicked_next (calmOrTicked_deviceReset ..) rfl h
  case startupScanEnd => exact calmOrTicked_next (.inl (only_scanEnd _).calm) rfl h
  case genlockEdge => exact calmOrTicked_next (calmOrTicked_genlockEdge ..) rfl h
  case frameTimerExpiry => exact calmOrTicked_next (calmOrTicked_timerExpiry ..) rfl h
  case genlockLost => exact calmOrTicked_next (.inl (only_genlockLoss _).calm) rfl h
  case claimDurationEnd => exact calmOrTicked_next (calmOrTicked_tickIf ..) rfl h
  case spotComplete => exact calmOrTicked_next (calmOrTicked_tickIf ..) rfl h
  case passComplete => exact calmOrTicked_next (calmOrTicked_tickIf ..) rfl h
  case scoreFlashEnd => exact calmOrTicked_next (calmOrTicked_tickIf ..) rfl h
  case inputFrameArrival => exact calmOrTicked_next (.inl (only_inputArrival ..).calm) rfl h
  case inputFrameDiscarded => exact calmOrTicked_next (.inl (Calm.refl s)) rfl h
  case inputLost => exact calmOrTicked_next (calmOrTicked_tickIf ..) rfl h
  case holdLimitFallback => exact calmOrTicked_next (calmOrTicked_tickIf ..) rfl h
  case slotStart => exact calmOrTicked_next (.inl (only_slotStart _).calm) rfl h
  case receiverStatus => exact calmOrTicked_next (.inl (only_statusTaken ..).calm) rfl h
  case slotEndNoStatus => exact calmOrTicked_next (.inl (only_slotEnd _).calm) rfl h
  case linkHoldEnd => exact calmOrTicked_next (calmOrTicked_holdEnd ..) rfl h
  case frameClose => exact calmOrTicked_next (.inl (only_frameClose _).calm) rfl h
  case linkDown => exact calmOrTicked_next (calmOrTicked_tickIf ..) rfl h
  case msStep => exact calmOrTicked_next (.inl (calm_msStep s)) rfl h
  case mainExpiry => exact calmOrTicked_next (.inl (calm_msIf ..)) rfl h
  case possessionExpiry => exact calmOrTicked_next (.inl (calm_msIf ..)) rfl h
  case hornEnd => exact calmOrTicked_next (.inl (calm_msIf ..)) rfl h
  case whistle => exact calmOrTicked_next (.inl only_whistleEdge.calm) rfl h
  case heldEntryLapse => exact calmOrTicked_next (.inl (calm_msIf ..)) rfl h
  case pageProgramStart => exact calmOrTicked_next (.inl only_programStart.calm) rfl h
  case pageProgramEnd => exact calmOrTicked_next (.inl (only_programEnd _).calm) rfl h
  case markProgramStart => exact calmOrTicked_next (.inl only_markStart.calm) rfl h
  case markProgramEnd => exact calmOrTicked_next (.inl (only_markEnd _).calm) rfl h
  case reclaimBlockJudge => exact calmOrTicked_next (.inl only_judgeBlock.calm) rfl h
  case blockEraseEnd => exact calmOrTicked_next (.inl (only_eraseEnd _).calm) rfl h
  case operationTimeLimit => exact calmOrTicked_next (.inl (Only.calm (parts := [.assets, .free]) (by simp))) rfl h
  case rxFrame => exact calmOrTicked_next (.inl (calm_rxBytes ..)) rfl h
  case rxByteGap => exact calmOrTicked_next (.inl (Only.calm (parts := []) (by simp))) rfl h
  case silenceTimeout => exact calmOrTicked_next (.inl (calm_silenceExpiry ..)) rfl h
  case txFrameEnd => exact calmOrTicked_next (.inl (Only.calm (parts := []) (by simp))) rfl h
  all_goals cases hi

theorem calmOrTicked_exec {i : Instr} {s t : State} (h : exec i s = .next t) : CalmOrTicked s t := by
  cases hi : wireOf i with
  | none => exact calmOrTicked_event hi h
  | some x =>
    rw [exec_of_wireOf hi] at h
    cases h
    exact .inl (calm_pump (calm_receive _ _ _ (calm_handOn i) s))

theorem calmOrTicked_step {s t : State} (h : step s = .next t) : CalmOrTicked s t := by
  unfold step at h
  split at h
  · cases h
    exact .inl (Calm.refl s)
  next i rest _ =>
    have hp : Calm s (s.withPending rest) := calm_of_same (fun _ => rfl) rfl
    rcases calmOrTicked_exec h with h | h
    · exact .inl (hp.trans h)
    · exact .inr (Ticked.after (t := s.withPending rest) rfl rfl h)

/-- Settles O54: a step is a tick, whose evaluations alone promote claims, or keeps every holder and last change. -/
theorem regionsAndClaimsKeepTheirLaws : Obligations.RegionsAndClaimsKeepTheirLaws := by
  intro s t h
  exact (calmOrTicked_step h).keeps

end Sys2Proof.Machine
end

section
/-! PROOF. GoLive, the requests refused in Live, the settings of the canvas, device reset and the laws at reset (O4, O5, O30, O60). -/

namespace Sys2Proof.Machine

/-! ### Requests whose whole effect is seen at once -/

/-- A request that leaves the part as it is, and is answered. -/
theorem answers_unmoved {i : Instr} {p : PortId} {q : Byte} {code : Nat} {s : State} {r : Reply} {act : State → State × Ans}
    (hT : Taken p code s) (h58 : code ≠ 58) (h59 : code ≠ 59) (hx : exec i s = .next (pump (receive p q code act s)))
    (ha : act (frameArrives p s) = (frameArrives p s, .reply r)) : Answers i p q code r [] untouched s (fun _ => True) :=
  answers_of hT h58 h59 hx ha (only_refl ..) (fun _ => rfl) trivial

/-- Settles O4: the canvas alone is written, and the rights table gives code 6 to one role. -/
theorem goLiveSetsTheMode : Obligations.GoLiveSetsTheMode := by
  refine ⟨fun p q s hT => ?_, fun role => by cases role <;> decide⟩
  exact answers_of hT (by decide) (by decide) rfl rfl ((only_canvas (parts := [.canvas]) (by decide) _).mpr (only_refl ..)) (fun _ => rfl) (by simp)

/-- Settles O5: in Live the mode is the first check of each of the five. -/
theorem setupRequestsAreRefusedInLive : Obligations.SetupRequestsAreRefusedInLive := by
  intro p q s hm
  have hl : (frameArrives p s).live = true := by simp [State.live, hm]
  exact ⟨fun d hT => answers_unmoved hT (by decide) (by decide) rfl (if_pos hl),
    fun id hT => answers_unmoved hT (by decide) (by decide) rfl (if_pos hl),
    fun fill dwell hT => answers_unmoved hT (by decide) (by decide) rfl (if_pos hl),
    fun hT => answers_unmoved hT (by decide) (by decide) rfl (if_pos hl),
    fun port role hT => answers_unmoved hT (by decide) (by decide) rfl (if_pos hl)⟩

/-! ### Clamping, as the statements write it -/

theorem clamp_eq_min (hi n : Nat) : clamp 0 hi n = min hi n := by simp [clamp]

theorem clampHits_zero (hi n : Nat) : clampHits 0 hi n = decide (hi < n) := by
  simp only [clampHits, clamp_eq_min, decide_eq_decide]
  omega

theorem clampOr_eq_stored {lo hi : Nat} (h : lo ≤ hi) (held : Nat) (n : Option Nat) : clampOr lo hi held n = stored lo hi held n := by
  cases n with
  | none => rfl
  | some n =>
    simp only [clampOr, stored, clamp]
    split_ifs <;> omega

theorem clampHitsOpt_zero (hi : Nat) (n : Option Nat) : clampHitsOpt 0 hi n = decide (hi < n.getD 0) := by
  cases n with
  | none => simp [clampHitsOpt]
  | some n => simpa [clampHitsOpt] using clampHits_zero hi n

/-! ### The settings of the canvas (R10, R11) -/

theorem live_of_setup {s : State} (h : s.canvas.mode = .setup) : s.live = false := by simp [State.live, h]

theorem answers_setBase {p : PortId} {s : State} (hT : Taken p 3 s) (hm : s.canvas.mode = .setup) {g : Region} (hg : s.region 0 = some g)
    (q : Byte) (fill dwell : Option Nat) :
    Answers (.setBase p q fill dwell) p q 3
      (doneIf (decide (7 < fill.getD 0 ∨ 600 < dwell.getD 0)) [.num (stored 0 7 g.fill fill), .num (stored 0 600 g.dwell dwell)])
      [.canvas] untouched s
      (fun t => t.canvas = { s.canvas with
          regions := s.canvas.regions.set 0 (some { g with fill := stored 0 7 g.fill fill, dwell := stored 0 600 g.dwell dwell }) }) := by
  have ha : onSetBase fill dwell (frameArrives p s)
      = ((frameArrives p s).setRegion 0 (some { g with fill := stored 0 7 g.fill fill, dwell := stored 0 600 g.dwell dwell }),
          .reply (doneIf (decide (7 < fill.getD 0 ∨ 600 < dwell.getD 0))
            [.num (stored 0 7 g.fill fill), .num (stored 0 600 g.dwell dwell)])) := by
    simp [onSetBase, hg, live_of_setup hm, clampOr_eq_stored, clampHitsOpt_zero, Ans.doneAdjusted, doneIf, nat]
  exact answers_of hT (by decide) (by decide) rfl ha (by simp) (fun _ => rfl) (by simp [State.setRegion])

theorem answers_setFill {p : PortId} {s : State} (hT : Taken p 4 s) {n : Nat} (h : n < 8) (q : Byte) (red green blue : Nat) :
    Answers (.setFill p q n red green blue) p q 4
      (doneIf (decide (255 < red ∨ 255 < green ∨ 255 < blue)) [.num (min 255 red), .num (min 255 green), .num (min 255 blue)])
      [.canvas] untouched s
      (fun t => t.canvas = { s.canvas with colours := s.canvas.colours.set n ⟨min 255 red, min 255 green, min 255 blue⟩ h }) := by
  have ha : onSetFill n red green blue (frameArrives p s)
      = ({ frameArrives p s with canvas := { s.canvas with
            colours := s.canvas.colours.set n ⟨min 255 red, min 255 green, min 255 blue⟩ h } },
          .reply (doneIf (decide (255 < red ∨ 255 < green ∨ 255 < blue)) [.num (min 255 red), .num (min 255 green), .num (min 255 blue)])) := by
    simp [onSetFill, h, clamp_eq_min, clampHits_zero, Ans.doneAdjusted, doneIf, nat, Bool.or_assoc]
  exact answers_of hT (by decide) (by decide) rfl ha ((only_canvas (parts := [.canvas]) (by decide) _).mpr (only_refl ..)) (fun _ => rfl) (by simp)

theorem answers_setFill_unknown {p : PortId} {s : State} (hT : Taken p 4 s) {n : Nat} (h : 8 ≤ n) (q : Byte) (red green blue : Nat) :
    Answers (.setFill p q n red green blue) p q 4 (refusesField .pattern) [] untouched s (fun _ => True) :=
  answers_unmoved hT (by decide) (by decide) rfl (dif_neg (by omega))

/-! ### Device reset (R202) -/

theorem startFrame_portReset (role : Role) : startFrame (Port.reset role) = Port.reset role := startFrame_idle _ rfl rfl

theorem norAtReset_idle {s : State} (h : s.assets.op = none) : norAtReset s = s.assets.nor := by simp [norAtReset, h]

theorem directorOf_eq_iff (d : Fin 8) (p : PortId) : p = directorOf d ↔ p.val = if d.val < 6 then d.val else 0 := by
  rw [Fin.ext_iff]
  unfold directorOf
  split_ifs <;> rfl

/-! The transmitters touch the ports alone (R195), and so nothing that is read of another block. -/

@[simp] theorem region_pump (s : State) (r : RegionId) : (pump s).region r = s.region r := rfl
@[simp] theorem claims_pump (s : State) (r : RegionId) : (pump s).claims r = s.claims r := rfl
@[simp] theorem input_pump (s : State) (i : InputId) : (pump s).input i = s.input i := by cases i <;> rfl
@[simp] theorem link_pump (s : State) (k : LinkId) : (pump s).link k = s.link k := rfl
@[simp] theorem monitor_pump (s : State) (m : MonitorId) : (pump s).monitor m = s.monitor m := rfl
@[simp] theorem pass_pump (s : State) (r : RegionId) : (pump s).pass r = s.pass r := rfl
@[simp] theorem currentSpot_pump (s : State) (r : RegionId) : (pump s).currentSpot r = s.currentSpot r := rfl

/-- No transmitter has a frame to start right after reset. -/
theorem port_pump_resetWith (pending : List Instr) (free : Nat) (nor : List (Nat × Page)) (dirsel : Fin 8) (ratesel : Bool) (p : PortId) :
    (pump (State.resetWith pending free nor dirsel ratesel)).port p
      = Port.reset (if p.val = (if dirsel.val < 6 then dirsel.val else 0) then .director else .general) := by
  rw [port_pump, port_resetWith, startFrame_portReset]
  simp only [directorOf_eq_iff]

/-- Settles O30: the state is `State.resetWith`, read block by block. -/
theorem deviceResetRestoresEveryBlock : Obligations.DeviceResetRestoresEveryBlock := by
  intro d rate s
  refine ⟨pump (State.resetWith s.pending (s.free + 16) (norAtReset s) d rate), rfl, rfl, rfl, rfl, ?_⟩
  have regions := region_resetWith s.pending (s.free + 16) (norAtReset s) d rate
  have claims := claims_resetWith s.pending (s.free + 16) (norAtReset s) d rate
  have colours := colour_resetWith s.pending (s.free + 16) (norAtReset s) d rate
  have spots := currentSpot_resetWith s.pending (s.free + 16) (norAtReset s) d rate
  have passes := pass_resetWith s.pending (s.free + 16) (norAtReset s) d rate
  have monitors := monitor_resetWith s.pending (s.free + 16) (norAtReset s) d rate
  have inputs := input_resetWith s.pending (s.free + 16) (norAtReset s) d rate
  have links := link_resetWith s.pending (s.free + 16) (norAtReset s) d rate
  refine ⟨rfl, fun r hr => (regions r).trans (if_neg hr), colours, ?_, fun r => ?_, rfl, rfl, rfl, rfl, rfl, fun i => ?_, monitors, fun k => ?_,
    rfl, rfl, rfl, rfl, rfl, rfl, rfl, rfl, rfl, rfl, rfl, rfl, rfl, rfl, rfl, rfl, rfl, rfl, rfl, rfl, rfl, rfl,
    spots, rfl, rfl, rfl, rfl, passes, rfl, rfl, rfl, rfl, rfl, rfl, rfl, rfl, norAtReset_idle,
    fun p => ?_⟩
  · exact ⟨Region.base, (regions 0).trans (if_pos rfl), rfl, rfl, rfl, rfl, rfl, rfl, rfl, rfl, rfl, rfl, rfl, rfl, rfl, rfl, rfl⟩
  · rw [claims_pump, claims r]
    exact ⟨rfl, rfl⟩
  · rw [input_pump, inputs i]
    exact ⟨rfl, rfl, rfl, rfl⟩
  · rw [link_pump, links k]
    exact ⟨rfl, rfl, rfl, rfl, rfl, rfl, rfl, rfl, rfl, rfl, rfl⟩
  · rw [port_pump_resetWith]
    exact ⟨rfl, rfl, rfl, rfl, rfl, rfl, rfl, rfl, rfl, rfl, rfl, rfl, rfl⟩

/-! ### Every law at reset (O60) -/

section Laws
variable (pending : List Instr) (free : Nat) (nor : List (Nat × Page)) (dirsel : Fin 8) (ratesel : Bool)

theorem portLaw_resetWith : PortLaw (State.resetWith pending free nor dirsel ratesel) := by
  intro p
  rw [port_resetWith]
  split <;> decide

theorem roleLaw_resetWith : RoleLaw (State.resetWith pending free nor dirsel ratesel) := by
  have role (p : PortId) : ((State.resetWith pending free nor dirsel ratesel).port p).role
      = if p = directorOf dirsel then .director else .general := by rw [port_resetWith]; rfl
  refine ⟨fun p => ?_, fun p q hp => ?_⟩
  · rw [role]
    split_ifs with h
    · exact iff_of_true rfl h
    · exact iff_of_false (by decide) h
  · rw [role] at hp
    split_ifs at hp

theorem monitorLaw_resetWith : MonitorLaw (State.resetWith pending free nor dirsel ratesel) := by
  refine ⟨by simp only [monitor_resetWith]; rfl, by simp only [monitor_resetWith]; rfl, fun p => ?_, fun k => ?_⟩
  · rw [monitor_resetWith, port_resetWith]
    rfl
  · rw [monitor_resetWith, link_resetWith]
    rfl

theorem latchLaw_resetWith : LatchLaw (State.resetWith pending free nor dirsel ratesel) := by
  intro m h
  rw [monitor_resetWith] at h
  cases h

theorem rotationLaw_resetWith : RotationLaw (State.resetWith pending free nor dirsel ratesel) := by
  have plan : PlanLaw ⟨[], []⟩ := ⟨by decide, by decide, by decide, by decide, by decide, by decide⟩
  refine ⟨plan, nofun, nofun, Nat.le_refl 0, nofun, fun _ => rfl, nofun, fun r x h => ?_, fun a b x y h => ?_⟩
  · simp at h
  · simp at h

theorem messageLaw_resetWith : MessageLaw (State.resetWith pending free nor dirsel ratesel) := by
  have he : (State.resetWith pending free nor dirsel ratesel).entries = [] := by
    have hp : (State.resetWith pending free nor dirsel ratesel).passList = [] := by simp [State.passList]
    simp only [State.entries, hp]
    rfl
  have hs : (State.resetWith pending free nor dirsel ratesel).messages.settings = Messages.reset.settings := rfl
  rw [MessageLaw, he, hs]
  decide

end Laws

theorem assetLaw_reset : AssetLaw .reset :=
  ⟨memory_wf_reset, nofun, nofun, nofun, nofun, nofun, nofun, fun _ => ⟨rfl, rfl, rfl, rfl, rfl, rfl, rfl, rfl⟩⟩

theorem directoryLaw_reset : DirectoryLaw .reset := ⟨by decide, nofun, nofun, nofun, nofun, nofun, nofun⟩

theorem referenceLaw_reset : ReferenceLaw .reset := by
  refine ⟨fun r c id h => ?_, nofun, nofun, nofun, fun r g id hg hs => ?_⟩
  · simp [State.reset] at h
  · simp only [State.reset, region_resetWith] at hg
    split_ifs at hg
    cases hg
    cases hs

/-- Settles O60: each law is read off the reset values. -/
theorem resetMeetsEveryLaw : Obligations.ResetMeetsEveryLaw :=
  ⟨regionLaw_resetWith _ _ _ _ _, fixedLaw_resetWith _ _ _ _ _, waitLaw_resetWith _ _ _ _ _, claimSetLaw_resetWith _ _ _ _ _,
    by unfold ClockLaw; decide, by unfold ScoreLaw; decide, by unfold CaptureLaw; decide, portLaw_resetWith _ _ _ _ _,
    roleLaw_resetWith _ _ _ _ _, monitorLaw_resetWith _ _ _ _ _, latchLaw_resetWith _ _ _ _ _, rotationLaw_resetWith _ _ _ _ _,
    messageLaw_resetWith _ _ _ _ _, assetLaw_reset, directoryLaw_reset, referenceLaw_reset⟩

end Sys2Proof.Machine
end

section
/-! PROOF. A changed region: DeleteRegion and DefineRegion (O2, O3). -/

namespace Sys2Proof.Machine

/-! ### An engine settles a region that has room (R25, R126, R160) -/

/-- What settling does besides a region's claims where nothing is evicted: what is offered again may change, and nothing else. -/
structure Quiet (s t : State) : Prop where
  only : Only [.arbiter, .rotation, .messages] s t
  ports : t.ports = s.ports
  arbiter : t.arbiter = { s.arbiter with claims := t.arbiter.claims }
  rotation : t.rotation = { s.rotation with offering := t.rotation.offering }
  messages : t.messages = { s.messages with offering := t.messages.offering }

theorem Quiet.refl (s : State) : Quiet s s := ⟨only_rfl, rfl, rfl, rfl, rfl⟩

theorem Quiet.trans {s t u : State} (h : Quiet s t) (k : Quiet t u) : Quiet s u := by
  refine ⟨h.only.trans k.only, k.ports.trans h.ports, ?_, ?_, ?_⟩
  · rw [k.arbiter, h.arbiter]
  · rw [k.rotation, h.rotation]
  · rw [k.messages, h.messages]

theorem quiet_setClaims (r : RegionId) (x : RegionClaims) (s : State) : Quiet s (s.setClaims r x) := ⟨by simp, rfl, rfl, rfl, rfl⟩

theorem quiet_setOffering (e : Engine) (r : RegionId) (b : Bool) (s : State) : Quiet s (s.setOffering e r b) := by
  cases e <;> exact ⟨by simp [State.setOffering], rfl, rfl, rfl, rfl⟩

/-- Where a list has room a claim joins, and nobody is pushed off (R25). -/
theorem joinWait_room {r : RegionId} {s : State} (h : (s.claims r).waiting.length < 4) (c : Claim) :
    joinWait r c s = (s.setClaims r { s.claims r with waiting := insertClaim c (s.claims r).waiting }, true) := if_pos h

theorem quiet_releaseEngine (e : Engine) (r : RegionId) (s : State) : Quiet s (releaseEngine e r s) :=
  (quiet_setClaims ..).trans (quiet_setOffering ..)

theorem settle_wanted {e : Engine} {r : RegionId} {s : State} (h : s.interest e r = true) (hheld : (s.claims r).heldBy (.engine e) = false)
    (hwait : (s.claims r).awaitedBy (.engine e) = false) (hroom : (s.claims r).waiting.length < 4) :
    ClaimsBecome r { s.claims r with waiting := insertClaim (engineClaim s e r) (s.claims r).waiting } s (settle e r s)
      ∧ Quiet s (settle e r s) := by
  have hs : settle e r s
      = (s.setClaims r { s.claims r with waiting := insertClaim (engineClaim s e r) (s.claims r).waiting }).setOffering e r false := by
    simp [settle, h, hheld, hwait, offer, joinWait_room hroom]
  rw [hs]
  exact ⟨(claimsBecome_setClaims ..).congr (setOffering_arbiter ..), (quiet_setClaims ..).trans (quiet_setOffering ..)⟩

theorem settle_unwanted {e : Engine} {r : RegionId} {s : State} (h : s.interest e r = false) (hheld : (s.claims r).heldBy (.engine e) = false)
    (hwait : (s.claims r).awaitedBy (.engine e) = false) :
    ClaimsBecome r (s.claims r) s (settle e r s) ∧ Quiet s (settle e r s) := by
  have hfilter : (s.claims r).waiting.filter (fun w => !decide (w.claimant = .engine e)) = (s.claims r).waiting := by
    simpa [RegionClaims.awaitedBy] using hwait
  have hs : settle e r s = releaseEngine e r s := by simp [settle, h]
  rw [hs]
  refine ⟨?_, quiet_releaseEngine ..⟩
  simpa [hheld, hfilter] using claims_releaseEngine e r s

/-- The claims an engine's settling leaves on a region without a holder, whose list has room and no claim of the engine's. -/
theorem settle_vacant {e : Engine} {r : RegionId} {s : State} {l : List Claim} (hholder : (s.claims r).holder = none)
    (hl : (s.claims r).waiting = l) (hwait : ∀ w ∈ l, w.claimant ≠ .engine e) (hroom : l.length < 4) :
    ClaimsBecome r { s.claims r with waiting := if s.interest e r then insertClaim (engineClaim s e r) l else l } s (settle e r s)
      ∧ Quiet s (settle e r s) := by
  subst hl
  have hheld : (s.claims r).heldBy (.engine e) = false := by simp [RegionClaims.heldBy, hholder]
  have hawait : (s.claims r).awaitedBy (.engine e) = false := by simpa [RegionClaims.awaitedBy] using hwait
  cases h : s.interest e r with
  | true => exact settle_wanted h hheld hawait hroom
  | false => exact settle_unwanted h hheld hawait

/-! ### A changed region (R8, R9) -/

theorem engineClaim_eq (s : State) (e : Engine) (r : RegionId) : engineClaim s e r = standingClaim e (s.engineRank e) r := by
  cases e <;> rfl

/-- The waiting claims the two engines bring to a region without any, the Rotation Engine first (R126, R160). -/
def engineClaims (s : State) (r : RegionId) (sponsored carried : Bool) : List Claim :=
  let first := if sponsored then [standingClaim .rotation s.arbiter.rotationRank r] else []
  let other := if carried then [standingClaim .message s.arbiter.messageRank r] else []
  if s.arbiter.rotationRank < s.arbiter.messageRank then other ++ first else first ++ other

/-- An engine's interest in a region reads the region, the engines' queues and the clock. -/
theorem interest_congr {s t : State} {e : Engine} {r : RegionId} (hr : t.region r = s.region r) (hspots : t.rotation.spots = s.rotation.spots)
    (hpasses : t.messages.passes = s.messages.passes) (happroved : t.messages.approved = s.messages.approved) (hclock : t.clock = s.clock) :
    t.interest e r = s.interest e r := by
  cases e
  · simp [State.interest, rotationInterest, hr, hspots]
  · simp [State.interest, messageInterest, hr, State.pass, State.running, hpasses, happroved, hclock]

theorem Quiet.interest {s t : State} (h : Quiet s t) (e : Engine) (r : RegionId) : t.interest e r = s.interest e r :=
  interest_congr (region_of_canvas h.only.canvas r) (by rw [h.rotation]) (by rw [h.messages]) (by rw [h.messages]) (h.only.2 .clock (by decide))

/-- What a changed region's claims become: those of the engines that have an interest in the record it now has. -/
structure Changed (r : RegionId) (g : Option Region) (s t : State) : Prop where
  only : Only [.canvas, .arbiter, .rotation, .messages] s t
  ports : t.ports = s.ports
  canvas : t.canvas = { s.canvas with regions := s.canvas.regions.set r.val g r.isLt }
  other : ∀ n, n ≠ r → t.claims n = s.claims n
  holder : (t.claims r).holder = none
  waiting : (t.claims r).waiting = engineClaims s r ((s.setRegion r g).interest .rotation r) ((s.setRegion r g).interest .message r)
  rotation : t.rotation = { s.rotation with offering := t.rotation.offering }
  messages : t.messages = { s.messages with offering := t.messages.offering }

/-- What the second engine's settling makes of what the first brought. -/
theorem engineClaims_eq (s : State) (r : RegionId) (sponsored carried : Bool) :
    engineClaims s r sponsored carried
      = (let first := if sponsored then [standingClaim .rotation s.arbiter.rotationRank r] else []
         if carried then insertClaim (standingClaim .message s.arbiter.messageRank r) first else first) := by
  rcases Nat.lt_or_ge s.arbiter.rotationRank s.arbiter.messageRank with h | h
  · cases sponsored <;> cases carried <;> simp [engineClaims, insertClaim, standingClaim, h]
  · cases sponsored <;> cases carried <;> simp [engineClaims, insertClaim, standingClaim, h, Nat.not_lt.mpr h]

theorem changed_regionChanged {r : RegionId} {s : State} (hholder : (s.claims r).holder = none) (hwait : (s.claims r).waiting = [])
    (g : Option Region) : Changed r g s (regionChanged r g s) := by
  let t := (s.setRegion r g).setClaims r { s.claims r with seenWaiting := 0 }
  have ht : t.claims r = { s.claims r with seenWaiting := 0 } := by simp [t]
  obtain ⟨hc1, hq1⟩ := settle_vacant (e := .rotation) (r := r) (s := t) (l := []) (by rw [ht]; exact hholder) (by rw [ht]; exact hwait)
    (by simp) (by simp)
  let u := settle .rotation r t
  let first := if (s.setRegion r g).interest .rotation r then [standingClaim .rotation s.arbiter.rotationRank r] else []
  have hfirst : (u.claims r).waiting = first := by
    rw [hc1.self]
    show (if t.interest .rotation r then insertClaim (engineClaim t .rotation r) [] else []) = first
    rfl
  have hu : (u.claims r).holder = none := by rw [hc1.self, ht]; exact hholder
  obtain ⟨hc2, hq2⟩ := settle_vacant (e := .message) hu hfirst (by simp only [first]; split <;> simp [standingClaim])
    (by simp only [first]; split <;> simp)
  have hq := hq1.trans hq2
  have hb := hc1.trans hc2
  have hclaim : engineClaim u .message r = standingClaim .message s.arbiter.messageRank r := by
    rw [engineClaim_eq]
    show standingClaim .message u.arbiter.messageRank r = _
    rw [hq1.arbiter]
    rfl
  refine ⟨?_, hq.ports, hq.only.canvas, fun n hn => ?_, ?_, ?_, hq.rotation, hq.messages⟩
  · exact Only.trans (t := t) (by simp [t]) (hq.only.mono (by decide))
  · rw [show (regionChanged r g s).claims n = t.claims n from hb.other hn]
    exact (claims_regionSet ..).trans (if_neg hn)
  · rw [show (regionChanged r g s).claims r = _ from hc2.self]
    exact hu
  · rw [show (regionChanged r g s).claims r = _ from hc2.self, engineClaims_eq, hclaim, hq1.interest]
    rfl

/-- What a changed region leaves in the state after the answer. -/
theorem answers_regionChanged {i : Instr} {p : PortId} {q : Byte} {code : Nat} {s : State} {y : Reply} {r : RegionId} {g : Option Region}
    {act : State → State × Ans} {P : State → Prop} (hT : Taken p code s) (h58 : code ≠ 58) (h59 : code ≠ 59)
    (hx : exec i s = .next (pump (receive p q code act s))) (hholder : (s.claims r).holder = none) (hwait : (s.claims r).waiting = [])
    (ha : act (frameArrives p s) = (regionChanged r g (frameArrives p s), .reply y))
    (hP : ∀ u, Changed r g (frameArrives p s) u → P (pump (sendAnswer p q code true y u))) :
    Answers i p q code y [.canvas, .arbiter, .rotation, .messages] untouched s P := by
  have h := changed_regionChanged (r := r) (s := frameArrives p s) (by simpa using hholder) (by simpa using hwait) g
  refine answers_of hT h58 h59 hx ha h.only (fun n => ?_) (hP _ h)
  simp [State.port, h.ports, untouched]

/-! ### DeleteRegion and the settings of the canvas (O3) -/

theorem toRegion_val (r : RegionId) : toRegion r.val = some r := by simp [toRegion]

theorem interest_undefined {s : State} {r : RegionId} (h : s.region r = none) (e : Engine) : s.interest e r = false := by
  cases e <;> simp [State.interest, rotationInterest, messageInterest, h]

theorem busy_false {x : RegionClaims} (hholder : x.holder = none) (hwait : x.waiting = []) : x.busy = false := by
  simp [RegionClaims.busy, hholder, hwait]

theorem answers_deleteRegion {p : PortId} {s : State} (hT : Taken p 2 s) (hm : s.canvas.mode = .setup) {r : RegionId} (hr : r ≠ 0)
    {g : Region} (hg : s.region r = some g) (hholder : (s.claims r).holder = none) (hwait : (s.claims r).waiting = []) (q : Byte) :
    Answers (.deleteRegion p q r.val) p q 2 (doneWith []) [.canvas, .arbiter, .rotation, .messages] untouched s
      (fun t => t.canvas = { s.canvas with regions := s.canvas.regions.set r.val none r.isLt }
        ∧ (∀ n, n ≠ r → t.claims n = s.claims n) ∧ (t.claims r).holder = none ∧ (t.claims r).waiting = []
        ∧ t.rotation = { s.rotation with offering := t.rotation.offering }
        ∧ t.messages = { s.messages with offering := t.messages.offering }) := by
  have ha : onDeleteRegion r.val (frameArrives p s) = (regionChanged r none (frameArrives p s), .done []) := by
    simp [onDeleteRegion, live_of_setup hm, toRegion_val, hr, hg, busy_false hholder hwait]
  refine answers_regionChanged hT (by decide) (by decide) rfl hholder hwait ha fun u h => ?_
  have hnone (e : Engine) : ((frameArrives p s).setRegion r none).interest e r = false := interest_undefined (by simp) e
  obtain ⟨-, -, hcanvas, hother, hfree, hlist, hrotation, hmessages⟩ := h
  rw [hnone, hnone] at hlist
  refine ⟨by simpa using hcanvas, fun n hn => ?_, hfree, hlist.trans (by simp [engineClaims]), by simpa using hrotation, by simpa using hmessages⟩
  rw [← frameArrives_claims p s n, ← hother n hn]
  rfl

/-- Settles O3: the deletion is a changed region without a record; the two settings are one write each. -/
theorem canvasSettingsAreStored : Obligations.CanvasSettingsAreStored :=
  ⟨fun _ q _ _ _ hT hm hr hg hholder hwait => answers_deleteRegion hT hm hr hg hholder hwait q,
    fun _ q fill dwell _ _ hT hm hg => answers_setBase hT hm hg q fill dwell,
    fun _ q _ red green blue _ hT => ⟨fun h => answers_setFill hT h q red green blue,
      fun h => answers_setFill_unknown hT h q red green blue⟩⟩

/-! ### DefineRegion (O2) -/

theorem defineRecord_eq (d : DefineFields) (policy : FaultPolicy) (view : ViewBinding) : defineRecord d policy view = recordOf d policy view := by
  simp [defineRecord, recordOf, clampOr_eq_stored]

/-- Check 4 of R7 passes inside the grid. -/
theorem badGeometry_of_inGrid {d : DefineFields} (hw : 1 ≤ d.width) (hh : 1 ≤ d.height) (hc : d.col + d.width ≤ 48)
    (hr : d.row + d.height ≤ 16) : badGeometry d = none := by
  unfold badGeometry
  rw [if_neg, if_neg, if_neg, if_neg] <;> simp [inRange] <;> omega

/-- Two rectangles that are not empty share a tile where they overlap (R1). -/
theorem overlaps_shares {a b : Region} (haw : 1 ≤ a.width) (hah : 1 ≤ a.height) (hbw : 1 ≤ b.width) (hbh : 1 ≤ b.height)
    (h : a.overlaps b = true) :
    inTiles a.col a.row a.width a.height (max a.col b.col) (max a.row b.row)
      ∧ inTiles b.col b.row b.width b.height (max a.col b.col) (max a.row b.row) := by
  simp only [Region.overlaps, Bool.and_eq_true, decide_eq_true_eq] at h
  simp only [inTiles]
  omega

/-- Check 8 of R7 passes where no other region of the layer shares a tile. -/
theorem overlapping_none_of_apart {s : State} {r : RegionId} {g : Region} (hR : RegionLaw s) (hw : 1 ≤ g.width) (hh : 1 ≤ g.height)
    (hlayer : 1 ≤ g.layer) (hapart : ∀ n o, n ≠ r → s.region n = some o → o.layer = g.layer →
      ∀ c y, ¬(inTiles o.col o.row o.width o.height c y ∧ inTiles g.col g.row g.width g.height c y)) : overlapping s r g = none := by
  obtain ⟨⟨g0, hg0, hl0, -⟩, hgrid, -⟩ := (regionLaw_iff s).mp hR
  refine List.find?_eq_none.mpr fun n _ hn => ?_
  simp only [Bool.and_eq_true, decide_eq_true_eq] at hn
  obtain ⟨hne, hn⟩ := hn
  cases ho : s.region n with
  | none => simp [ho] at hn
  | some o =>
    simp only [ho, Bool.and_eq_true, decide_eq_true_eq] at hn
    obtain ⟨hl, hov⟩ := hn
    have hn0 : n ≠ 0 := by
      rintro rfl
      obtain rfl : g0 = o := Option.some.inj (hg0.symm.trans ho)
      omega
    have hin := hgrid n o hn0 ho
    exact hapart n o hne ho hl _ _ (overlaps_shares (by simp_all [Region.inGrid]) (by simp_all [Region.inGrid]) hw hh hov)

/-- Checks 5 to 9 of R7 pass, and the record is stored. -/
theorem defineChecked_accepted {d : DefineFields} {r : RegionId} {g : Region} {s : State}
    (hfixed : g.view ≠ .none → g.sponsor = false ∧ g.message = false ∧ g.stoppage = false)
    (hglyph : g.view ≠ .none ∨ g.message = true → g.glyphSet.isSome = true)
    (hcomplete : ∀ a, g.glyphSet = some a → s.assets.isComplete .glyphSet a = true) (hoverlap : overlapping s r g = none)
    (hbusy : (s.claims r).busy = false) :
    defineChecked d r g s
      = (regionChanged r (some g) s,
          .doneAdjusted (clampHitsOpt 0 600 d.dwell || clampHitsOpt 0 300 d.holdLimit || clampHitsOpt 0 7 d.fill)
            [nat g.dwell, nat g.holdLimit, nat g.fill]) := by
  unfold defineChecked
  rw [if_neg, if_neg, if_neg, hoverlap]
  · simp [hbusy]
  · cases ha : g.glyphSet with
    | none => simp
    | some a => simp [hcomplete a ha]
  · simp only [Region.fixed, Bool.and_eq_true, Bool.or_eq_true, decide_eq_true_eq, Option.isNone_iff_eq_none, not_and]
    intro h hnone
    simpa [hnone] using hglyph h
  · simp only [Region.fixed, Bool.and_eq_true, Bool.or_eq_true, decide_eq_true_eq, not_and]
    intro h
    simp [hfixed h]

theorem running_eq_false (s : State) : s.running = false ↔ s.clock.state ≠ .running := decide_eq_false_iff_not

theorem setRegion_running (s : State) (r : RegionId) (g : Option Region) : (s.setRegion r g).running = s.running := rfl

/-- The interests of the engines in the record DefineRegion stores (R126, R160). -/
theorem interest_rotation_setRegion (s : State) (r : RegionId) (g : Region) :
    (s.setRegion r (some g)).interest .rotation r = true ↔ g.sponsor = true ∧ ∃ x ∈ s.rotation.spots, r.val ∈ x.regions := by
  simp [State.interest, rotationInterest]

theorem interest_message_setRegion (s : State) (r : RegionId) (g : Region) :
    (s.setRegion r (some g)).interest .message r = true ↔ g.message = true
      ∧ ((s.pass r).isSome = true ∨ ∃ e ∈ s.messages.approved, e.style = .normal ∨ s.clock.state ≠ .running) := by
  simp [State.interest, messageInterest, Entry.eligible, running_eq_false, State.pass, setRegion_running]

/-- Settles O2: the seven checks of R7 pass, and the region is then a changed region. -/
theorem defineRegionStoresItsRecord : Obligations.DefineRegionStoresItsRecord := by
  intro p q d policy view r s hT hm hR hid hid1 hl1 hl3 hw hh hcol hrow hpolicy hview hfixed hglyph hcomplete hapart hholder hwait
  have hr : r ≠ 0 := by rintro rfl; simp at hid; omega
  have ha : onDefineRegion d (frameArrives p s) = (regionChanged r (some (recordOf d policy view)) (frameArrives p s),
      .reply ⟨.done, decide (600 < d.dwell.getD 0 ∨ 300 < d.holdLimit.getD 0 ∨ 7 < d.fill.getD 0),
        [.num (stored 0 600 30 d.dwell), .num (stored 0 300 60 d.holdLimit), .num (stored 0 7 0 d.fill)]⟩) := by
    have hgeometry := badGeometry_of_inGrid hw hh hcol hrow
    have hchecked := defineChecked_accepted (d := d) (r := r) (g := recordOf d policy view) (s := frameArrives p s) hfixed hglyph
      (fun a h => by simpa using hcomplete a h)
      (overlapping_none_of_apart (by simpa [RegionLaw] using hR) hw hh hl1 fun n o hn ho => hapart n o hn (by simpa using ho))
      (by simpa using busy_false hholder hwait)
    have hlayer : inRange 1 3 d.layer = true := by simp [inRange, hl1, hl3]
    simp only [onDefineRegion, frameArrives_live, live_of_setup hm, hid, toRegion_val, hr, hlayer, hgeometry, hpolicy, hview, defineRecord_eq,
      hchecked]
    simp [clampHitsOpt_zero, Ans.doneAdjusted, nat, recordOf, Bool.or_assoc]
  refine answers_regionChanged hT (by decide) (by decide) rfl hholder hwait ha fun u h => ?_
  obtain ⟨-, -, hcanvas, hother, hfree, hlist, hrotation, hmessages⟩ := h
  refine ⟨by simpa using hcanvas, fun n hn => ?_, hfree, fun sponsored carried hs hc => ?_, by simpa using hrotation, by simpa using hmessages⟩
  · rw [← frameArrives_claims p s n, ← hother n hn]
    rfl
  · refine hlist.trans ?_
    have h1 : ((frameArrives p s).setRegion r (some (recordOf d policy view))).interest .rotation r = sponsored := by
      rw [Bool.eq_iff_iff, interest_rotation_setRegion, hs]
      simp [recordOf]
    have h2 : ((frameArrives p s).setRegion r (some (recordOf d policy view))).interest .message r = carried := by
      rw [Bool.eq_iff_iff, interest_message_setRegion, hc]
      simp [recordOf]
    rw [h1, h2]
    simp [engineClaims]

end Sys2Proof.Machine
end

section
/-! PROOF. The planes of a map from the highest layer down (O35). -/

namespace Sys2Proof.Machine

/-! ### Lists sorted by a key -/

theorem insertBy_eq {α : Type} (key : α → Nat) (a : α) (l : List α) : insertBy key a l = l.orderedInsert (fun x y => key x ≤ key y) a := by
  induction l with
  | nil => rfl
  | cons b rest ih =>
    simp only [insertBy, List.orderedInsert, ← ih]
    rcases Nat.lt_or_ge (key b) (key a) with h | h
    · rw [if_pos h, if_neg (Nat.not_le.mpr h)]
    · rw [if_neg (Nat.not_lt.mpr h), if_pos h]

theorem sortBy_eq {α : Type} (key : α → Nat) (l : List α) : sortBy key l = l.insertionSort (fun x y => key x ≤ key y) := by
  induction l with
  | nil => rfl
  | cons a rest ih => simp only [sortBy, insertBy_eq, ih, List.insertionSort]; rfl

theorem sortBy_perm {α : Type} (key : α → Nat) (l : List α) : (sortBy key l).Perm l := by
  rw [sortBy_eq]
  exact List.perm_insertionSort _ l

@[simp] theorem mem_sortBy {α : Type} (key : α → Nat) (l : List α) (a : α) : a ∈ sortBy key l ↔ a ∈ l := (sortBy_perm key l).mem_iff

theorem pairwise_sortBy {α : Type} (key : α → Nat) (l : List α) : (sortBy key l).Pairwise (fun a b => key a ≤ key b) := by
  have : Std.Total (fun x y : α => key x ≤ key y) := ⟨fun x y => Nat.le_total _ _⟩
  have : IsTrans α (fun x y : α => key x ≤ key y) := ⟨fun x y z => Nat.le_trans⟩
  rw [sortBy_eq]
  exact List.pairwise_insertionSort _ l

/-! ### The planes of a map (R49, R51) -/

theorem mem_planesOf {s : State} {x : Plane} : x ∈ planesOf s ↔ ∃ r g, r ≠ 0 ∧ s.region r = some g ∧ x = planeOf s r g := by
  have htail (r : RegionId) : r ∈ allRegions.tail ↔ r ≠ 0 := by revert r; decide
  rw [planesOf, mem_sortBy, List.mem_flatMap]
  constructor
  · rintro ⟨r, hr, hx⟩
    cases hg : s.region r with
    | none => simp [hg] at hx
    | some g => exact ⟨r, g, (htail r).mp hr, hg, by simpa [hg] using hx⟩
  · rintro ⟨r, g, hr, hg, rfl⟩
    exact ⟨r, (htail r).mpr hr, by simp [hg]⟩

/-- Planes of one layer share no tile (R1). -/
theorem planesOf_apart {s : State} (hR : RegionLaw s) {x y : Plane} (hx : x ∈ planesOf s) (hy : y ∈ planesOf s) (hl : x.layer = y.layer)
    {c r : Nat} (hcx : x.covers c r = true) (hcy : y.covers c r = true) : x = y := by
  obtain ⟨-, -, hapart⟩ := (regionLaw_iff s).mp hR
  obtain ⟨a, g, -, hg, rfl⟩ := mem_planesOf.mp hx
  obtain ⟨b, k, -, hk, rfl⟩ := mem_planesOf.mp hy
  by_cases hab : a = b
  · subst hab
    obtain rfl : g = k := Option.some.inj (hg.symm.trans hk)
    rfl
  · exact absurd ⟨hcx, hcy⟩ (hapart a b g k hab hg hk hl c r)

theorem planesOf_layer {s : State} (hR : RegionLaw s) {x : Plane} (hx : x ∈ planesOf s) : x.layer ≤ 3 := by
  obtain ⟨-, hgrid, -⟩ := (regionLaw_iff s).mp hR
  obtain ⟨r, g, hr, hg, rfl⟩ := mem_planesOf.mp hx
  exact (hgrid r g hr hg).2.1

theorem covers_of_supplies {x : Plane} {c r : Nat} (h : x.supplies c r = true) : x.covers c r = true := by
  simp only [Plane.supplies, Bool.and_eq_true] at h
  exact h.1.1

/-- The first plane that supplies a tile is the highest that does (R51). -/
theorem supplier_highest {s : State} (hR : RegionLaw s) {m : ComposedMap} (hm : m.planes = planesOf s) (c r : Nat) :
    (m.supplier c r = m.base ∧ (∀ x ∈ m.planes, x.supplies c r = false))
      ∨ (m.supplier c r ∈ m.planes ∧ (m.supplier c r).supplies c r = true
          ∧ ∀ x ∈ m.planes, x.supplies c r = true → x.layer < (m.supplier c r).layer ∨ x = m.supplier c r) := by
  unfold ComposedMap.supplier
  cases h : m.planes.find? (fun p => p.supplies c r) with
  | none => exact .inl ⟨rfl, by simpa using h⟩
  | some y =>
    obtain ⟨hy, pre, post, hsplit, hpre⟩ := List.find?_eq_some_iff_append.mp h
    have hmem : y ∈ m.planes := by simp [hsplit]
    refine .inr ⟨hmem, hy, fun x hx hxs => ?_⟩
    simp only [Option.getD_some]
    have hlayer : x ∈ post → x.layer ≤ y.layer := fun hpost => by
      have hsorted := pairwise_sortBy (fun p : Plane => 3 - p.layer) _ |>.sublist (l₁ := y :: post)
        (by rw [show sortBy _ _ = pre ++ y :: post from hm ▸ hsplit]; exact List.sublist_append_right ..)
      have hyx := (List.pairwise_cons.mp hsorted).1 x hpost
      have := planesOf_layer hR (hm ▸ hx)
      omega
    rw [hsplit, List.mem_append, List.mem_cons] at hx
    rcases hx with hx | rfl | hpost
    · simp only [Bool.not_eq_true'] at hpre
      exact absurd hxs (by simp [hpre x hx])
    · exact .inr rfl
    · rcases Nat.lt_or_ge x.layer y.layer with hlt | hge
      · exact .inl hlt
      · refine .inr (planesOf_apart hR (hm ▸ ?_) (hm ▸ hmem) (by have := hlayer hpost; omega) (covers_of_supplies hxs) (covers_of_supplies hy))
        simp [hsplit, hpost]

theorem buildMap_base (s : State) : (buildMap s).base.region = 0 := rfl

/-- A tick leaves the map of regions that are alike but for their last change. -/
theorem frameTick_map (n : Nat) (s : State) : ∃ u, SameRecords s u ∧ (frameTick n s).comp.map = some (buildMap u) := by
  have h := ticked_reoffer (forceCloseAll s).dueOffers (ticked_evaluateAll n s)
  unfold frameTick
  dsimp only
  generalize reoffer (forceCloseAll s).dueOffers _ = u at h ⊢
  have hmap : Only [.monitors] { u with comp := { u.comp with map := some (buildMap u), previous := u.comp.map }, score := u.score.useFlash }
      (compose u) := by simp [compose]
  exact ⟨u, h.records, by rw [hmap.comp]⟩

/-- Settles O35: the map is built over records alike but for their last change, sorted from the highest layer down. -/
theorem tilesShowTheHighestRegion : Obligations.TilesShowTheHighestRegion := by
  intro t0 s ht hR
  obtain ⟨u, hu, hmap⟩ := frameTick_map (s.comp.timerStart + s.period) s
  have hR' := regionLaw_sameRecords hu hR
  have hexec : exec (.frameTimerExpiry t0) s = .next (pump (frameTick (s.comp.timerStart + s.period) s)) := by
    show Host.Outcome.next (pump (timerExpiry t0 s)) = _
    have hdue : timerDue s t0 = true := decide_eq_true ht
    rw [timerExpiry, if_pos hdue, timerTick]
  refine ⟨_, buildMap u, hexec, by rw [pump_comp, hmap], buildMap_base u, fun x hx => ?_, fun r g hr hg => ?_, supplier_highest hR' rfl⟩
  · obtain ⟨r, k, hr, hk, rfl⟩ := mem_planesOf.mp hx
    obtain ⟨g, hg, hkg⟩ := hu.some hk
    exact ⟨hr, g, hg, by rw [hkg]; exact ⟨rfl, rfl, rfl, rfl, rfl⟩⟩
  · obtain ⟨k, hk, -⟩ := hu.symm.some hg
    exact ⟨planeOf u r k, mem_planesOf.mpr ⟨r, k, hr, hk, rfl⟩, rfl⟩

end Sys2Proof.Machine
end

section
/-! SUPPORT. Notices to several ports, settling everywhere, and the period boundary (R125, R132, R133). -/

namespace Sys2Proof.Machine

/-! ### Requests that are answered at once, told by the state their block leaves -/

theorem exec_of_reply {i : Instr} {p : PortId} {q : Byte} {code : Nat} {s u : State} {r : Reply} {act : State → State × Ans}
    (hT : Taken p code s) (h58 : code ≠ 58) (h59 : code ≠ 59) (hx : exec i s = .next (pump (receive p q code act s)))
    (ha : act (frameArrives p s) = (u, .reply r)) : exec i s = .next (pump (sendAnswer p q code true r u)) := by
  rw [hx, receive_of_taken hT, ha]
  simp [conclude, h58, h59]

theorem portsBecome_answer {p : PortId} {q : Byte} {code : Nat} {r : Reply} {f : PortId → Port → Port} {s u : State}
    (hf : ∀ n, u.port n = f n (s.port n)) : PortsBecome (answering p q code r f) s (pump (sendAnswer p q code true r u)) := by
  intro n
  rw [port_pump, port_sendAnswer]
  by_cases hn : n = p <;> simp [answering, hn, hf]

/-! ### Notices to several ports (R133, R196) -/

theorem portsOf_congr {s t : State} (hd : t.dirsel = s.dirsel) (hr : ∀ n, (t.port n).role = (s.port n).role) (roles : List Role) :
    t.portsOf roles = s.portsOf roles := by
  refine List.filter_congr fun p _ => ?_
  show (roles.contains (t.port p).role || decide (p = directorOf t.dirsel)) = (roles.contains (s.port p).role || decide (p = directorOf s.dirsel))
  rw [hr, hd]

theorem noted_role (ps : List PortId) (x : Notice) (n : PortId) (y : Port) : (noted ps x n y).role = y.role := by
  unfold noted
  split
  · exact (noteTo_kept x y).1
  · rfl

theorem notedAll_cons (ps : List PortId) (x : Notice) (l : List Notice) (n : PortId) (y : Port) :
    notedAll ps (x :: l) n y = notedAll ps l n (noted ps x n y) := by
  unfold notedAll noted
  split <;> rfl

theorem notedAll_append (ps : List PortId) (l m : List Notice) (n : PortId) (y : Port) :
    notedAll ps (l ++ m) n y = notedAll ps m n (notedAll ps l n y) := by
  unfold notedAll
  split <;> simp

theorem notedAll_role (ps : List PortId) (l : List Notice) (n : PortId) (y : Port) : (notedAll ps l n y).role = y.role := by
  induction l generalizing y with
  | nil => simp [notedAll]
  | cons x rest ih => rw [notedAll_cons, ih, noted_role]

theorem port_notifyRoles (s : State) (roles : List Role) (x : Notice) (n : PortId) :
    (notifyAll (s.portsOf roles) x s).port n = noted (s.portsOf roles) x n (s.port n) := port_notifyAll _ (portsOf_nodup ..) x s n

theorem port_notifySponsors (l : List Notice) (s : State) (n : PortId) :
    (notifySponsors l s).port n = notedAll (s.portsOf [.sponsor]) l n (s.port n) := by
  induction l generalizing s with
  | nil => simp [notifySponsors, notedAll]
  | cons x rest ih =>
    have hroles : (notifyAll (s.portsOf [.sponsor]) x s).portsOf [.sponsor] = s.portsOf [.sponsor] :=
      portsOf_congr (s := s) (t := notifyAll (s.portsOf [.sponsor]) x s) rfl (fun m => by rw [port_notifyRoles, noted_role]) _
    rw [notedAll_cons, ← port_notifyRoles]
    exact (ih _).trans (by rw [hroles])

/-! ### Settling touches no more of the engines than their offers (R126, R160) -/

/-- Of the two engines, only what is offered again differs. -/
structure Offered (s t : State) : Prop where
  rotation : t.rotation = { s.rotation with offering := t.rotation.offering }
  messages : t.messages = { s.messages with offering := t.messages.offering }

theorem Offered.refl (s : State) : Offered s s := ⟨rfl, rfl⟩

theorem Offered.trans {s t u : State} (h : Offered s t) (k : Offered t u) : Offered s u :=
  ⟨by rw [k.rotation, h.rotation], by rw [k.messages, h.messages]⟩

theorem Quiet.offered {s t : State} (h : Quiet s t) : Offered s t := ⟨h.rotation, h.messages⟩

theorem offered_evict (r : RegionId) (c : Claim) (rank : Nat) (s : State) : Offered s (evict r c rank s) := by
  unfold evict
  split
  · next h =>
    unfold claimNotice
    rw [h]
    exact ⟨rfl, rfl⟩
  · exact (quiet_setOffering ..).offered

theorem offered_joinWait (r : RegionId) (c : Claim) (s : State) : Offered s (joinWait r c s).1 := by
  unfold joinWait
  simp only
  split
  · exact (quiet_setClaims ..).offered
  · split
    · exact Offered.refl s
    · split
      · exact (quiet_setClaims ..).offered.trans (offered_evict ..)
      · exact Offered.refl s

theorem offered_settle (e : Engine) (r : RegionId) (s : State) : Offered s (settle e r s) := by
  unfold settle
  split
  · split
    · exact Offered.refl s
    · exact (offered_joinWait r (engineClaim s e r) s).trans (quiet_setOffering ..).offered
  · exact (quiet_releaseEngine ..).offered

theorem offered_settleAll (e : Engine) (s : State) : Offered s (settleAll e s) := by
  unfold settleAll
  generalize allRegions = l
  induction l generalizing s with
  | nil => exact Offered.refl s
  | cons r rest ih => exact (offered_settle e r s).trans (ih _)

/-- An engine without an interest anywhere only lets go of what it has (R126). -/
theorem quiet_settleAll {e : Engine} {s : State} (h : ∀ r, s.interest e r = false) : Quiet s (settleAll e s) := by
  unfold settleAll
  generalize allRegions = l
  induction l generalizing s with
  | nil => exact Quiet.refl s
  | cons r rest ih =>
    have hr : Quiet s (settle e r s) := by
      rw [settle, if_neg (by simp [h r])]
      exact quiet_releaseEngine ..
    exact hr.trans (ih fun n => by rw [hr.interest, h n])

/-! ### The period boundary (R125, R132, R133, R148) -/

/-- The notices of a period boundary that closes period `n` and promotes `plan` (R133). -/
def boundaryReports (n : Nat) (plan : Plan) (s : State) : List Notice :=
  s.rotation.contracts.map (periodReportOf s.comp.frame n)
    ++ ((s.rotation.contracts.filter (fun o => !plan.contracts.any (fun c => decide (c.id = o.terms.id)))).map
        (fun o => contractReportOf s.comp.frame 1 (periodClosed n o)))

/-- The contracts of a promoted rotation, those carried with their closed accounts (R125). -/
def promotedContracts (n : Nat) (plan : Plan) (s : State) : List Contract :=
  plan.contracts.map (fun c =>
    match s.rotation.contracts.find? (fun o => decide (o.terms.id = c.id)) with
    | some o => { periodClosed n o with terms := c }
    | none => { terms := c, suspended := false, accrued := 0, history := [], lastCredit := none, cut := 0, shown := 0 })

theorem carriedContracts_closed (n : Nat) (plan : Plan) (s : State) {x : Rotation}
    (hx : x.contracts = s.rotation.contracts.map (periodClosed n)) : carriedContracts x plan = promotedContracts n plan s := by
  refine List.map_congr_left fun c _ => ?_
  have hfind : x.contract c.id = (s.rotation.contracts.find? (fun o => decide (o.terms.id = c.id))).map (periodClosed n) := by
    rw [Rotation.contract, hx, List.find?_map]
    rfl
  rw [hfind]
  cases s.rotation.contracts.find? (fun o => decide (o.terms.id = c.id)) <;> rfl

theorem droppedContracts_closed (n : Nat) (plan : Plan) (s : State) {x : Rotation}
    (hx : x.contracts = s.rotation.contracts.map (periodClosed n)) :
    droppedContracts x plan
      = (s.rotation.contracts.filter (fun o => !plan.contracts.any (fun c => decide (c.id = o.terms.id)))).map (periodClosed n) := by
  rw [droppedContracts, hx, List.filter_map]
  rfl

/-- A period boundary with no rotation staged. -/
structure Closed (n : Nat) (s t : State) : Prop where
  only : Only [.rotation] s t
  rotation : t.rotation = { s.rotation with contracts := s.rotation.contracts.map (periodClosed n) }
  ports : ∀ m, t.port m = notedAll (s.portsOf [.sponsor]) (s.rotation.contracts.map (periodReportOf s.comp.frame n)) m (s.port m)

theorem notifySponsors_rotation (l : List Notice) (s : State) : (notifySponsors l s).rotation = s.rotation :=
  ((only_notifySponsors (parts := []) l).mpr only_rfl).2 .rotation (by decide)

theorem closed_periodBoundary {n : Nat} {s : State} (h : s.rotation.staged = none) : Closed n s (periodBoundary n s) := by
  have hrot := notifySponsors_rotation (s.rotation.contracts.map (periodReport s.frame n)) s
  have hb : periodBoundary n s = { notifySponsors (s.rotation.contracts.map (periodReport s.frame n)) s with
      rotation := { s.rotation with contracts := s.rotation.contracts.map (closePeriod n) } } := by
    simp only [periodBoundary, hrot, h]
  rw [hb]
  exact ⟨by simp, rfl, port_notifySponsors _ s⟩

/-- A period boundary that promotes the staged rotation. -/
structure Promoted (n : Nat) (plan : Plan) (s t : State) : Prop where
  only : Only [.arbiter, .rotation, .messages] s t
  rotation : t.rotation = { contracts := promotedContracts n plan s, spots := plan.spots, staged := none, build := s.rotation.build,
                            pointer := 0, current := Vector.replicate 33 none, offering := t.rotation.offering }
  messages : t.messages = { s.messages with offering := t.messages.offering }
  ports : (∀ r g, s.region r = some g → g.sponsor = false) →
    ∀ m, t.port m = notedAll (s.portsOf [.sponsor]) (boundaryReports n plan s) m (s.port m)

/-- Where no region carries sponsors the Rotation Engine has no interest. -/
theorem interest_unsponsored {s : State} (h : ∀ r g, s.region r = some g → g.sponsor = false) (r : RegionId) : s.interest .rotation r = false := by
  cases hg : s.region r with
  | none => exact interest_undefined hg _
  | some g => simp [State.interest, rotationInterest, hg, h r g hg]

theorem promoted_periodBoundary {n : Nat} {plan : Plan} {s : State} (h : s.rotation.staged = some plan) :
    Promoted n plan s (periodBoundary n s) := by
  let closed : Rotation := { s.rotation with contracts := s.rotation.contracts.map (closePeriod n), staged := none }
  let t := { notifySponsors (s.rotation.contracts.map (periodReport s.frame n)) s with rotation := closed }
  let u := { notifySponsors ((droppedContracts closed plan).map (contractReport t.frame causePromotion)) t with
    rotation := { closed with
      contracts := carriedContracts closed plan, spots := plan.spots, pointer := 0, current := Vector.replicate 33 none } }
  have hb : periodBoundary n s = settleAll .rotation u := by
    simp only [periodBoundary, notifySponsors_rotation, h, replaceRotation]
    rfl
  have ht : Only [.rotation] s t := by simp [t]
  have hu : Only [.rotation] s u := ht.trans (by simp [u])
  have ho := offered_settleAll .rotation u
  rw [hb]
  refine ⟨(hu.mono (by decide)).trans (by simp), ?_, ?_, fun hs m => ?_⟩
  · rw [ho.rotation, ← carriedContracts_closed n plan s (x := closed) rfl]
  · rw [ho.messages, hu.2 .messages (by decide)]
  · have hquiet : Quiet u (settleAll .rotation u) :=
      quiet_settleAll (interest_unsponsored fun r g hg => hs r g (by rwa [region_of_canvas hu.canvas] at hg))
    have hsponsors : t.portsOf [.sponsor] = s.portsOf [.sponsor] :=
      portsOf_congr (ht.2 .straps (by decide)).1 (fun m => by
        rw [show t.port m = _ from port_notifySponsors _ s m, notedAll_role]) _
    have hport : u.port m = notedAll (t.portsOf [.sponsor]) ((droppedContracts closed plan).map (contractReport t.frame causePromotion)) m
        (t.port m) := port_notifySponsors _ t m
    rw [show (settleAll .rotation u).port m = u.port m by simp [State.port, hquiet.ports], hport, hsponsors,
      show t.port m = _ from port_notifySponsors _ s m, ← notedAll_append, droppedContracts_closed n plan s (x := closed) rfl, List.map_map,
      show t.frame = s.comp.frame from congrArg Compositor.frame ht.comp]
    rfl

end Sys2Proof.Machine
end

section
/-! PROOF. EndLive and NextPeriod (O7). -/

namespace Sys2Proof.Machine

/-! ### EndLive and NextPeriod (R16, R91) -/

theorem portsOf_of_notedAll {s t : State} {ps : List PortId} {l : List Notice} (hd : t.dirsel = s.dirsel)
    (h : ∀ m, t.port m = notedAll ps l m (s.port m)) (roles : List Role) : t.portsOf roles = s.portsOf roles :=
  portsOf_congr hd (fun m => by rw [h, notedAll_role]) roles

theorem port_tellClock (kind : NoticeKind) (fields : List Atom) (s : State) (n : PortId) :
    (tellClock kind fields s).port n = noted (s.portsOf [.scoring]) (clockNoticeOf kind s.comp.frame s.clock fields) n (s.port n) :=
  port_notifyRoles ..

@[simp] theorem tellClock_clock (kind : NoticeKind) (fields : List Atom) (s : State) : (tellClock kind fields s).clock = s.clock := rfl
@[simp] theorem tellClock_canvas (kind : NoticeKind) (fields : List Atom) (s : State) : (tellClock kind fields s).canvas = s.canvas := rfl
@[simp] theorem tellClock_rotation (kind : NoticeKind) (fields : List Atom) (s : State) : (tellClock kind fields s).rotation = s.rotation := rfl
@[simp] theorem tellClock_messages (kind : NoticeKind) (fields : List Atom) (s : State) : (tellClock kind fields s).messages = s.messages := rfl

/-- The canvas of a part that has gone to Setup. -/
def State.toSetup (s : State) : State := { s with canvas := { s.canvas with mode := .setup } }

/-- The clock with which a period opens (R91). -/
def Clock.opened (k : Clock) : Clock :=
  { k with period := k.period + 1, main := k.length, possession := k.possessionReset, correction := 0, state := .stopped }

theorem onEndLive_closes {s : State} (hm : s.canvas.mode = .live) (hc : s.clock.state ≠ .running) :
    onEndLive s = (periodBoundary s.clock.period s.toSetup, .done []) := by
  simp [onEndLive, State.live, State.running, hm, hc, State.toSetup]

theorem onNextPeriod_opens {s : State} (hc : s.clock.state ≠ .running) (hp : s.clock.period < 9) :
    onNextPeriod s = (tellClock .periodChanged [nat s.clock.period] (periodBoundary s.clock.period (setClock s.clock.opened s)), .done []) := by
  simp only [onNextPeriod]
  rw [if_neg (by simp [State.running, hc]), if_neg (by omega)]
  rfl

/-- The reports of an unstaged boundary, as the ports hear them. -/
def periodReports (s : State) : List Notice := s.rotation.contracts.map (periodReportOf s.comp.frame s.clock.period)

theorem closed_endLive {s : State} (h : s.rotation.staged = none) : Closed s.clock.period s.toSetup (periodBoundary s.clock.period s.toSetup) :=
  closed_periodBoundary h

theorem closed_nextPeriod {s : State} (h : s.rotation.staged = none) :
    Closed s.clock.period (setClock s.clock.opened s) (periodBoundary s.clock.period (setClock s.clock.opened s)) :=
  closed_periodBoundary h

/-- What PeriodChanged adds to the ports, after the reports (R91, R106). -/
theorem port_nextPeriod {s u : State} {k : Clock} {ps : List PortId} {l : List Notice} (hclock : u.clock = k.opened) (hcomp : u.comp = s.comp)
    (hd : u.dirsel = s.dirsel) (h : ∀ m, u.port m = notedAll ps l m (s.port m)) (n : PortId) :
    (tellClock .periodChanged [nat k.period] u).port n
      = thenPorts (notedAll ps l)
          (noted (s.portsOf [.scoring]) (clockNoticeOf .periodChanged s.comp.frame k.opened [nat k.period])) n (s.port n) := by
  rw [port_tellClock, hclock, hcomp, portsOf_of_notedAll hd h, h]
  rfl

theorem answers_endLive {p : PortId} {s : State} (hT : Taken p 7 s) (hstaged : s.rotation.staged = none) (hm : s.canvas.mode = .live)
    (hc : s.clock.state ≠ .running) (q : Byte) :
    Answers (.endLive p q) p q 7 (doneWith []) [.canvas, .rotation] (notedAll (s.portsOf [.sponsor]) (periodReports s)) s
      (fun t => t.canvas = { s.canvas with mode := .setup }
        ∧ t.rotation = { s.rotation with contracts := s.rotation.contracts.map (periodClosed s.clock.period) }) := by
  have h := closed_endLive (s := frameArrives p s) (by simpa using hstaged)
  refine answers_of hT (by decide) (by decide) rfl (onEndLive_closes (by simpa using hm) (by simpa using hc)) ?_ (fun n => ?_) ⟨?_, ?_⟩
  · exact Only.trans (t := (frameArrives p s).toSetup) ((only_canvas (by decide) _).mpr only_rfl) (h.only.mono (by decide))
  · have hps : (frameArrives p s).toSetup.portsOf [.sponsor] = s.portsOf [.sponsor] := frameArrives_portsOf p s _
    rw [h.ports, hps]
    simp [State.toSetup, periodReports, State.port]
  · rw [pump_canvas, sendAnswer_canvas, h.only.canvas]
    simp [State.toSetup]
  · rw [pump_rotation, sendAnswer_rotation, h.rotation]
    simp [State.toSetup]

theorem answers_nextPeriod {p : PortId} {s : State} (hT : Taken p 32 s) (hstaged : s.rotation.staged = none)
    (hc : s.clock.state ≠ .running) (hp : s.clock.period < 9) (q : Byte) :
    Answers (.nextPeriod p q) p q 32 (doneWith []) [.clock, .rotation]
      (thenPorts (notedAll (s.portsOf [.sponsor]) (periodReports s))
        (noted (s.portsOf [.scoring]) (clockNoticeOf .periodChanged s.comp.frame s.clock.opened [nat s.clock.period]))) s
      (fun t => t.clock = s.clock.opened
        ∧ t.rotation = { s.rotation with contracts := s.rotation.contracts.map (periodClosed s.clock.period) }) := by
  have h := closed_nextPeriod (s := frameArrives p s) (by simpa using hstaged)
  refine answers_of hT (by decide) (by decide) rfl (onNextPeriod_opens (by simpa using hc) (by simpa using hp)) ?_ (fun n => ?_) ⟨?_, ?_⟩
  · refine (only_tellClock ..).mpr (Only.trans (t := setClock (frameArrives p s).clock.opened (frameArrives p s)) ?_ (h.only.mono (by decide)))
    exact (only_setClock (by decide) _).mpr only_rfl
  · have hps : (setClock (frameArrives p s).clock.opened (frameArrives p s)).portsOf [.sponsor] = s.portsOf [.sponsor] :=
      frameArrives_portsOf p s _
    rw [port_nextPeriod (s := frameArrives p s) (h.only.2 .clock (by decide)) h.only.comp (h.only.2 .straps (by decide)).1 h.ports, hps]
    simp [periodReports, setClock]
  · rw [pump_clock, sendAnswer_clock, tellClock_clock, h.only.2 .clock (by decide)]
    simp [setClock]
  · rw [pump_rotation, sendAnswer_rotation, tellClock_rotation, h.rotation]
    simp [setClock]

/-! ### A boundary that promotes a rotation (R125) -/

/-- What a request that closes the current period and promotes `plan` leaves of the engines. -/
structure PromotedBy (p : PortId) (plan : Plan) (s t : State) : Prop where
  staged : t.rotation.staged = none
  build : t.rotation.build = s.rotation.build
  spots : t.rotation.spots = plan.spots
  pointer : t.rotation.pointer = 0
  current : ∀ r, t.currentSpot r = none
  messages : t.messages = { s.messages with offering := t.messages.offering }
  only : Only [.canvas, .arbiter, .clock, .rotation, .messages] (frameArrives p s) t
  contracts : t.rotation.contracts = promotedContracts s.clock.period plan s

/-- The engines are as the boundary left them when the answer has been made. -/
theorem promotedBy_of {p : PortId} {plan : Plan} {s b u t : State} (h : Promoted s.clock.period plan b u) (hr : b.rotation = s.rotation)
    (hm : b.messages = s.messages) (hb : Only [.canvas, .clock] (frameArrives p s) b) (htr : t.rotation = u.rotation)
    (htm : t.messages = u.messages) (ht : Only [] u t) : PromotedBy p plan s t := by
  have hrot := htr.trans h.rotation
  refine ⟨by rw [hrot], by rw [hrot, hr], by rw [hrot], by rw [hrot], fun r => ?_, ?_, ?_, ?_⟩
  · rw [State.currentSpot, hrot]
    simp [Vector.get_eq_getElem]
  · rw [htm, h.messages, hm]
  · exact (hb.mono (by decide)).trans ((h.only.mono (by decide)).trans (ht.mono (by decide)))
  · rw [hrot]
    simp [promotedContracts, hr]

/-- The reports read nothing that a boundary changes before them. -/
theorem boundaryReports_congr {s b : State} (hr : b.rotation = s.rotation) (hc : b.comp = s.comp) (n : Nat) (plan : Plan) :
    boundaryReports n plan b = boundaryReports n plan s := by simp [boundaryReports, hr, hc]

theorem endLive_promotes {p : PortId} {plan : Plan} {s : State} (hT : Taken p 7 s) (hstaged : s.rotation.staged = some plan)
    (hm : s.canvas.mode = .live) (hc : s.clock.state ≠ .running) (q : Byte) :
    ∃ t, exec (.endLive p q) s = .next t ∧ PromotedBy p plan s t ∧ t.canvas = { s.canvas with mode := .setup } ∧ t.clock = s.clock
      ∧ ((∀ r g, s.region r = some g → g.sponsor = false) →
          PortsBecome (answering p q 7 (doneWith []) (notedAll (s.portsOf [.sponsor]) (boundaryReports s.clock.period plan s)))
            (frameArrives p s) t) := by
  have h := promoted_periodBoundary (n := s.clock.period) (s := (frameArrives p s).toSetup) (plan := plan) (by simpa [State.toSetup] using hstaged)
  have ha : onEndLive (frameArrives p s) = (periodBoundary s.clock.period (frameArrives p s).toSetup, .done []) := by
    rw [onEndLive_closes (by simpa using hm) (by simpa using hc), frameArrives_clock]
  have hb : Only [.canvas, .clock] (frameArrives p s) (frameArrives p s).toSetup := (only_canvas (by decide) _).mpr only_rfl
  refine ⟨_, exec_of_reply hT (by decide) (by decide) rfl ha, ?_, ?_, ?_, fun hs => portsBecome_answer fun n => ?_⟩
  · exact promotedBy_of h (frameArrives_rotation p s) (frameArrives_messages p s) hb rfl rfl (by simp)
  · rw [pump_canvas, sendAnswer_canvas, h.only.canvas]
    simp [State.toSetup]
  · rw [pump_clock, sendAnswer_clock, h.only.2 .clock (by decide)]
    simp [State.toSetup]
  · have hps : (frameArrives p s).toSetup.portsOf [.sponsor] = s.portsOf [.sponsor] := frameArrives_portsOf p s _
    rw [h.ports (fun r g hg => hs r g (by simpa [State.toSetup, State.region] using hg)), hps,
      boundaryReports_congr (s := s) (b := (frameArrives p s).toSetup) (frameArrives_rotation p s) (frameArrives_comp p s)]
    rfl

theorem nextPeriod_promotes {p : PortId} {plan : Plan} {s : State} (hT : Taken p 32 s) (hstaged : s.rotation.staged = some plan)
    (hc : s.clock.state ≠ .running) (hp : s.clock.period < 9) (q : Byte) :
    ∃ t, exec (.nextPeriod p q) s = .next t ∧ PromotedBy p plan s t ∧ t.canvas = s.canvas ∧ t.clock = s.clock.opened
      ∧ ((∀ r g, s.region r = some g → g.sponsor = false) →
          PortsBecome
            (answering p q 32 (doneWith [])
              (thenPorts (notedAll (s.portsOf [.sponsor]) (boundaryReports s.clock.period plan s))
                (noted (s.portsOf [.scoring]) (clockNoticeOf .periodChanged s.comp.frame s.clock.opened [nat s.clock.period]))))
            (frameArrives p s) t) := by
  have h := promoted_periodBoundary (n := s.clock.period) (s := setClock s.clock.opened (frameArrives p s)) (plan := plan)
    (by simpa [setClock] using hstaged)
  have ha : onNextPeriod (frameArrives p s) = (tellClock .periodChanged [nat s.clock.period]
      (periodBoundary s.clock.period (setClock s.clock.opened (frameArrives p s))), .done []) := by
    rw [onNextPeriod_opens (by simpa using hc) (by simpa using hp), frameArrives_clock]
  have hb : Only [.canvas, .clock] (frameArrives p s) (setClock s.clock.opened (frameArrives p s)) := (only_setClock (by decide) _).mpr only_rfl
  refine ⟨_, exec_of_reply hT (by decide) (by decide) rfl ha, ?_, ?_, ?_, fun hs => portsBecome_answer fun n => ?_⟩
  · exact promotedBy_of h (frameArrives_rotation p s) (frameArrives_messages p s) hb
      (by rw [pump_rotation, sendAnswer_rotation, tellClock_rotation]) (by rw [pump_messages, sendAnswer_messages, tellClock_messages]) (by simp)
  · rw [pump_canvas, sendAnswer_canvas, tellClock_canvas, h.only.canvas]
    simp [setClock]
  · rw [pump_clock, sendAnswer_clock, tellClock_clock, h.only.2 .clock (by decide)]
    simp [setClock]
  · have hps : (setClock s.clock.opened (frameArrives p s)).portsOf [.sponsor] = s.portsOf [.sponsor] := frameArrives_portsOf p s _
    have hports := h.ports (fun r g hg => hs r g (by simpa [setClock, State.region] using hg))
    rw [port_nextPeriod (s := frameArrives p s) (h.only.2 .clock (by decide)) h.only.comp (h.only.2 .straps (by decide)).1 hports, hps,
      boundaryReports_congr (s := s) (b := setClock s.clock.opened (frameArrives p s)) (frameArrives_rotation p s) (frameArrives_comp p s),
      frameArrives_portsOf, frameArrives_comp]

/-- Settles O7: with no rotation staged the boundary is one change of the contracts; with one it replaces the rotation too. -/
theorem periodBoundaryRollsTheAccounts : Obligations.PeriodBoundaryRollsTheAccounts := by
  refine ⟨fun p q s hstaged => ⟨fun hT hm hc => answers_endLive hT hstaged hm hc q, fun hT hm hc => ?_, fun hT hm => ?_,
    fun hT hc hp => answers_nextPeriod hT hstaged hc hp q, fun hT hc => ?_, fun hT hc hp => ?_⟩, fun i p q plan s hc hstaged hi => ?_⟩
  · exact answers_unmoved hT (by decide) (by decide) rfl (by simp [onEndLive, State.live, State.running, hm, hc, Ans.refuse, refusal])
  · exact answers_unmoved hT (by decide) (by decide) rfl (by simp [onEndLive, State.live, hm, Ans.done, doneWith])
  · exact answers_unmoved hT (by decide) (by decide) rfl (if_pos (by simp [State.running, hc]))
  · refine answers_unmoved hT (by decide) (by decide) rfl ?_
    simp [onNextPeriod, State.running, hc, hp, Ans.badValue, refusesField]
  · rcases hi with ⟨rfl, hT, hp⟩ | ⟨rfl, hT, hm⟩
    · obtain ⟨t, hx, ⟨h1, h2, h3, h4, h5, h6, h7, h8⟩, hcanvas, hclock, hports⟩ := nextPeriod_promotes hT hstaged hc hp q
      exact ⟨t, hx, h1, h2, h3, h4, h5, nofun, fun _ => ⟨hcanvas, hclock⟩, h6, h7, h8, fun hs => ⟨nofun, fun _ => hports hs⟩⟩
    · obtain ⟨t, hx, ⟨h1, h2, h3, h4, h5, h6, h7, h8⟩, hcanvas, hclock, hports⟩ := endLive_promotes hT hstaged hm hc q
      exact ⟨t, hx, h1, h2, h3, h4, h5, fun _ => ⟨hcanvas, hclock⟩, nofun, h6, h7, h8, fun hs => ⟨fun _ => hports hs, nofun⟩⟩

end Sys2Proof.Machine
end

section
/-! SUPPORT. What the reads of the canvas, the links, the claims and the map answer, and sorting by a key. -/

namespace Sys2Proof.Machine

/-! ### The reading requests of the canvas, the clock, the links, the claims and the map (R12, R29, R53, R78, R107) -/

/-- A request that leaves the part as it is, and is answered Done. -/
theorem answers_read {i : Instr} {p : PortId} {q : Byte} {code : Nat} {s : State} {fields : List Atom} {act : State → State × Ans}
    (hT : Taken p code s) (hx : exec i s = .next (pump (receive p q code act s))) (ha : act (frameArrives p s) = (frameArrives p s, .done fields))
    (h58 : code ≠ 58 := by decide) (h59 : code ≠ 59 := by decide) :
    Answers i p q code (doneWith fields) [] untouched s (fun _ => True) := answers_unmoved hT h58 h59 hx ha

theorem onReadRegion_undefined {s : State} {r : RegionId} (h : s.region r = none) : onReadRegion r.val s = (s, .done [.flag false]) := by
  simp [onReadRegion, toRegion_val, h]

theorem onReadRegion_defined {s : State} {r : RegionId} {g : Region} (h : s.region r = some g) :
    onReadRegion r.val s
      = (s, .done ([.flag true] ++ regionAtoms g ++ optAtoms holderAtoms (s.claims r).holder ++ [nat (s.claims r).seenWaiting])) := by
  simp [onReadRegion, toRegion_val, h]

theorem onReadLink_eq (k : LinkId) (s : State) :
    onReadLink k.val s = (s, .done ([.named (s.link k).stateCode, nat (s.link k).hold, .named (flowCode (s.link k).mode)]
      ++ patternAtoms (s.link k).pattern
      ++ optAtoms (fun m => [Atom.named (flowCode m)]) ((s.link k).waiting.over (s.link k).armed).mode
      ++ optAtoms patternAtoms ((s.link k).waiting.over (s.link k).armed).pattern
      ++ [nat (s.link k).pacing, .named (if (s.link k).room then 0 else 1), .flag (s.link k).overrun, nat (s.link k).group,
          frameAtom (s.link k).lastStatus]
      ++ optAtoms deliveryAtoms (s.link k).record)) := by
  simp [onReadLink, toLink]

theorem orElse_eq_ite {α : Type} (a b : Option α) : a.orElse (fun _ => b) = if a.isSome then a else b := by cases a <;> rfl

theorem onReadClaims_eq {s : State} {p n : PortId} (h : n = p ∨ (s.port p).role = .director) :
    onReadClaims p n.val s
      = (s, .done (listAtoms standingAtoms (sortBy (fun e => e.claim.tag) (s.claimSet n))
          ++ [.flag (s.port n).withdrawn, nat (sortBy (fun e => e.claim.tag) (s.claimSet n)).length])) := by
  have hn : toPort n.val = some n := by simp [toPort]
  rw [onReadClaims, if_neg, hn]
  rintro ⟨hne, hrole⟩
  rcases h with rfl | h
  · exact hne rfl
  · exact hrole h

/-- One line of ReadClaims, as R29 lists its fields. -/
theorem standingAtoms_eq (e : Standing) :
    standingAtoms e
      = [nat e.claim.tag, nat e.region.val, nat e.claim.rank]
          ++ (match e.claim.content with
              | .picture i => [.named 0, .named (inputCode i)]
              | .asset id => [.named 1, nat id]
              | .fill f => [.named 2, nat f.val]
              | .spot => [.named 3]
              | .crawl => [.named 4])
          ++ [.named (if e.holding then 1 else 0)] ++ (if e.holding then [.absent] else [.present, nat e.position])
          ++ optNat e.claim.remaining ++ [.flag e.claim.resume]
          ++ (match e.claim.mark with
              | none => [.absent]
              | some .keep => [.present, .named 0]
              | some .dropRelease => [.present, .named 1, .named 0]
              | some .dropClockStart => [.present, .named 1, .named 1]) := by
  have hplace : optNat (if e.holding then none else some e.position) = if e.holding then [.absent] else [.present, nat e.position] := by
    split <;> rfl
  have hmark : optAtoms markAtoms e.claim.mark
      = (match e.claim.mark with
         | none => [.absent]
         | some .keep => [.present, .named 0]
         | some .dropRelease => [.present, .named 1, .named 0]
         | some .dropClockStart => [.present, .named 1, .named 1]) := by
    rcases e.claim.mark with _ | _ | _ | _ <;> rfl
  have hcontent : contentAtoms e.claim.content
      = (match e.claim.content with
         | .picture i => [.named 0, .named (inputCode i)]
         | .asset id => [.named 1, nat id]
         | .fill f => [.named 2, nat f.val]
         | .spot => [.named 3]
         | .crawl => [.named 4]) := by cases e.claim.content <;> rfl
  rw [standingAtoms, hplace, hmark, hcontent]

theorem onReadComposition_map {s : State} {c r : Nat} (hc : c ≤ 47) (hr : r ≤ 15) {m : ComposedMap} (h : s.comp.map = some m) :
    onReadComposition c r s
      = (s, .done ([frameAtom m.frame, nat (m.region c r).val] ++ contentEntry (m.content c r)
            ++ listAtoms (fun (x : Plane) => [nat x.region.val, .named (x.mark c r)]) (otherPlanes m c r))) := by
  rw [onReadComposition, if_neg (by omega), if_neg (by omega), h]

theorem onReadComposition_none {s : State} {c r : Nat} (hc : c ≤ 47) (hr : r ≤ 15) (h : s.comp.map = none) :
    onReadComposition c r s = (s, .done (frameAtom s.frame :: Config.noMapFields.map nat)) := by
  rw [onReadComposition, if_neg (by omega), if_neg (by omega), h]

theorem planeMark_eq (x : Plane) (c r : Nat) :
    x.mark c r = if x.presentable = false then 0 else if x.region ≠ 0 ∧ x.transparent c r = true then 1 else 2 := by
  unfold Plane.mark
  cases x.presentable <;> rfl

/-! ### Sorting that keeps the order of what is equal -/

theorem pairwise_insertBy_stable {α : Type} {key : α → Nat} {R : α → α → Prop} {a : α} {l : List α}
    (hl : l.Pairwise (fun x y => key x < key y ∨ key x = key y ∧ R x y)) (ha : ∀ y ∈ l, R a y) :
    (insertBy key a l).Pairwise (fun x y => key x < key y ∨ key x = key y ∧ R x y) := by
  induction l with
  | nil => simp [insertBy]
  | cons b rest ih =>
    obtain ⟨hb, hrest⟩ := List.pairwise_cons.mp hl
    unfold insertBy
    split_ifs with h
    · refine List.pairwise_cons.mpr ⟨fun y hy => ?_, ih hrest fun y hy => ha y (List.mem_cons_of_mem _ hy)⟩
      rw [insertBy_eq, (List.perm_orderedInsert _ a rest).mem_iff, List.mem_cons] at hy
      rcases hy with rfl | hy
      · exact .inl h
      · exact hb y hy
    · refine List.pairwise_cons.mpr ⟨fun y hy => ?_, hl⟩
      have hby : key b ≤ key y := by
        rcases List.mem_cons.mp hy with rfl | hy
        · exact Nat.le_refl _
        · rcases hb y hy with h | ⟨h, -⟩ <;> omega
      rcases Nat.lt_or_ge (key a) (key y) with hlt | hge
      · exact .inl hlt
      · exact .inr ⟨by omega, ha y hy⟩

/-- Entries of one key keep their order. -/
theorem pairwise_sortBy_stable {α : Type} {key : α → Nat} {R : α → α → Prop} {l : List α} (h : l.Pairwise R) :
    (sortBy key l).Pairwise (fun x y => key x < key y ∨ key x = key y ∧ R x y) := by
  induction l with
  | nil => exact List.Pairwise.nil
  | cons a rest ih =>
    obtain ⟨ha, hrest⟩ := List.pairwise_cons.mp h
    exact pairwise_insertBy_stable (ih hrest) fun y hy => ha y ((mem_sortBy ..).mp hy)

theorem listOrder_perm (l : List AssetRecord) : (listOrder l).Perm l := (sortBy_perm ..).trans (sortBy_perm ..)

theorem listOrder_sorted (l : List AssetRecord) :
    (listOrder l).Pairwise (fun a b => a.id < b.id ∨ a.id = b.id ∧ a.first ≤ b.first) := pairwise_sortBy_stable (pairwise_sortBy ..)

end Sys2Proof.Machine
end

section
/-! SUPPORT. The longest run of Free pages (R186), and the size of continued answers (R194). -/

namespace Sys2Proof.Machine

/-! ### The longest run of Free pages (R186) -/

theorem keyGet_none_iff {α : Type} (k : Nat) (l : List (Nat × α)) : keyGet k l = none ↔ ∀ e ∈ l, e.1 ≠ k := by
  induction l with
  | nil => simp [keyGet]
  | cons a rest ih =>
    by_cases h : a.1 = k
    · simp [keyGet, h]
    · simp [keyGet, h, ih]

/-- Pages `a` to `a + n - 1` are pages of asset memory, and no entry of the page map is one of them. -/
def FreeRun (map : List (Nat × PageStanding)) (a n : Nat) : Prop := a + n ≤ pageTotal ∧ ∀ e ∈ map, ¬(a ≤ e.1 ∧ e.1 < a + n)

theorem freeRun_iff (map : List (Nat × PageStanding)) (a n : Nat) :
    FreeRun map a n ↔ a + n ≤ 16384 ∧ ∀ m, a ≤ m → m < a + n → keyGet m map = none := by
  simp only [FreeRun, pageTotal, keyGet_none_iff]
  refine and_congr_right fun _ => ⟨fun h m h1 h2 e he hem => h e he (by omega), fun h e he hk => h e.1 hk.1 hk.2 e he rfl⟩

/-- Where a run ends before an entry of the map, or begins behind it. -/
theorem freeRun_cons {k : Nat} {v : PageStanding} {rest : List (Nat × PageStanding)} {a n : Nat} :
    FreeRun ((k, v) :: rest) a n ↔ FreeRun rest a n ∧ (a + n ≤ k ∨ k < a) := by
  simp only [FreeRun, List.forall_mem_cons]
  constructor
  · rintro ⟨h, hk, hr⟩
    exact ⟨⟨h, hr⟩, by omega⟩
  · rintro ⟨⟨h, hr⟩, hk⟩
    exact ⟨h, by omega, hr⟩

/-- What the search has found: no less than the best run before, and nothing in its place but a longer free run from `lo` on. -/
structure Longest (map : List (Nat × PageStanding)) (lo : Nat) (best out : Nat × Nat) : Prop where
  found : out = best ∨ best.1 < out.1 ∧ lo ≤ out.2 ∧ FreeRun map out.2 out.1
  most : ∀ a n, 0 < n → lo ≤ a → FreeRun map a n → n ≤ out.1 ∧ (n = out.1 → out.2 ≤ a)

theorem Longest.le {map : List (Nat × PageStanding)} {lo : Nat} {best out : Nat × Nat} (h : Longest map lo best out) : best.1 ≤ out.1 := by
  rcases h.found with rfl | ⟨h, -⟩ <;> omega

/-- The best run so far, the gap before an entry of the map being one more. -/
def gapBest (lo k : Nat) (best : Nat × Nat) : Nat × Nat := if best.1 < k - lo then (k - lo, lo) else best

theorem gapBest_cases (lo k : Nat) (best : Nat × Nat) :
    best.1 < k - lo ∧ gapBest lo k best = (k - lo, lo) ∨ k - lo ≤ best.1 ∧ gapBest lo k best = best := by
  unfold gapBest
  split_ifs with h
  · exact .inl ⟨h, rfl⟩
  · exact .inr ⟨by omega, rfl⟩

/-- A step of the search: the gap before the next entry, then what follows it. -/
theorem longest_cons {k : Nat} {v : PageStanding} {rest : List (Nat × PageStanding)} {lo : Nat} {best out : Nat × Nat} (hk : lo ≤ k)
    (hkt : k < pageTotal) (hrest : ∀ e ∈ rest, k < e.1) (hbest : 0 < best.1 → best.2 ≤ lo) (h : Longest rest (k + 1) (gapBest lo k best) out) :
    Longest ((k, v) :: rest) lo best out := by
  have hle := h.le
  obtain ⟨hfound, hmost⟩ := h
  have hgap := gapBest_cases lo k best
  refine ⟨?_, fun a n hn ha hrun => ?_⟩
  · rcases hfound with rfl | ⟨hlt, hlo, hrun⟩
    · rcases hgap with ⟨hlt, hg⟩ | ⟨-, hg⟩
      · refine .inr ⟨by rw [hg]; exact hlt, by rw [hg], ?_⟩
        rw [hg]
        refine freeRun_cons.mpr ⟨⟨?_, fun e he hin => ?_⟩, .inl ?_⟩
        · show lo + (k - lo) ≤ pageTotal
          omega
        · have := hrest e he
          have : e.1 < lo + (k - lo) := hin.2
          omega
        · show lo + (k - lo) ≤ k
          omega
      · exact .inl hg
    · refine .inr ⟨?_, by omega, freeRun_cons.mpr ⟨hrun, .inr (by omega)⟩⟩
      rcases hgap with ⟨hb, hg⟩ | ⟨-, hg⟩
      · rw [hg] at hlt
        exact Nat.lt_trans hb hlt
      · rwa [hg] at hlt
  · obtain ⟨hrun, hside⟩ := freeRun_cons.mp hrun
    rcases hside with hbefore | hbehind
    · rcases hgap with ⟨hb, hg⟩ | ⟨hb, hg⟩
      · rw [hg] at hle hfound
        refine ⟨Nat.le_trans (by omega) hle, fun heq => ?_⟩
        rcases hfound with rfl | ⟨hlt, -⟩
        · exact ha
        · have : k - lo < out.1 := hlt
          omega
      · rw [hg] at hle hfound
        refine ⟨by omega, fun heq => ?_⟩
        rcases hfound with rfl | ⟨hlt, -⟩
        · exact Nat.le_trans (hbest (by omega)) ha
        · omega
    · exact hmost a n hn (by omega) hrun

/-- The end of the search: the gap behind the last entry. -/
theorem longest_nil {lo : Nat} {best : Nat × Nat} (hlo : lo ≤ pageTotal) (hbest : 0 < best.1 → best.2 ≤ lo) :
    Longest [] lo best (gapBest lo pageTotal best) := by
  rcases gapBest_cases lo pageTotal best with ⟨hb, hg⟩ | ⟨hb, hg⟩
  · rw [hg]
    refine ⟨.inr ⟨hb, Nat.le_refl lo, by show lo + (pageTotal - lo) ≤ pageTotal; omega, by simp⟩, fun a n hn ha hrun => ?_⟩
    have := hrun.1
    exact ⟨by show n ≤ pageTotal - lo; omega, fun _ => ha⟩
  · rw [hg]
    refine ⟨.inl rfl, fun a n hn ha hrun => ?_⟩
    have := hrun.1
    exact ⟨by omega, fun heq => Nat.le_trans (hbest (by omega)) ha⟩

theorem longest_longestRunFrom (map : List (Nat × PageStanding)) (lo : Nat) (best : Nat × Nat) (hlo : lo ≤ pageTotal)
    (hmap : map.Pairwise (fun a b => a.1 < b.1)) (hge : ∀ e ∈ map, lo ≤ e.1) (hlt : ∀ e ∈ map, e.1 < pageTotal)
    (hbest : 0 < best.1 → best.2 ≤ lo) : Longest map lo best (longestRunFrom lo best map) := by
  induction map generalizing lo best with
  | nil => exact longest_nil hlo hbest
  | cons a rest ih =>
    obtain ⟨k, v⟩ := a
    obtain ⟨hrest, hpair⟩ := List.pairwise_cons.mp hmap
    have hk : lo ≤ k := hge (k, v) (List.mem_cons_self ..)
    have hkt : k < pageTotal := hlt (k, v) (List.mem_cons_self ..)
    refine longest_cons hk hkt hrest hbest ?_
    have hnext : longestRunFrom lo best ((k, v) :: rest) = longestRunFrom (k + 1) (gapBest lo k best) rest := by
      rw [longestRunFrom, Nat.max_eq_right (by omega)]
      rfl
    rw [hnext]
    refine ih (k + 1) _ (by omega) hpair (fun e he => hrest e he) (fun e he => hlt e (List.mem_cons_of_mem _ he)) fun hpos => ?_
    rcases gapBest_cases lo k best with ⟨-, hg⟩ | ⟨-, hg⟩
    · rw [hg]
      show lo ≤ k + 1
      omega
    · rw [hg] at hpos ⊢
      have := hbest hpos
      omega

/-- The run that AssetList gives is a longest one, and the lowest of those (R186). -/
theorem longest_pageMap {s : State} (h : AssetLaw s) (x : Nat) :
    Longest s.assets.pageMap 0 (0, x) (longestRunFrom 0 (0, x) s.assets.pageMap) := by
  obtain ⟨hwf, -⟩ := h
  simp only [Memory.wf, Bool.and_eq_true, List.all_eq_true, decide_eq_true_eq] at hwf
  obtain ⟨⟨-, hrising⟩, hlt⟩ := hwf
  exact longest_longestRunFrom _ 0 _ (Nat.zero_le _) ((keysRising_iff _).mp hrising) (fun _ _ => Nat.zero_le _) hlt (by simp)

/-! ### Continued answers (R194) -/

@[simp] theorem atomsSize_nil : atomsSize [] = 0 := rfl

@[simp] theorem atomsSize_cons (a : Atom) (b : List Atom) : atomsSize (a :: b) = a.size + atomsSize b := by simp [atomsSize_eq_sum]

/-- As many items as fit are no larger than the room. -/
theorem atomsSize_take_fitting (room : Nat) (l : List (List Atom)) : atomsSize (l.take (fitting room l)).flatten ≤ room := by
  induction l generalizing room with
  | nil => simp
  | cons a rest ih =>
    unfold fitting
    split_ifs with h
    · simp only [List.take_succ_cons, List.flatten_cons, atomsSize_append]
      have := ih (room - atomsSize a)
      omega
    · simp

/-- Across the lists, the items carried are the ones after those passed over. -/
theorem flatten_slices (skip take : Nat) (lists : List (List (List Atom))) :
    (slices skip take lists).flatten = (lists.flatten.drop skip).take take := by
  induction lists generalizing skip take with
  | nil => simp [slices]
  | cons l rest ih =>
    rw [slices, List.flatten_cons, ih, List.flatten_cons, List.drop_append, List.take_append, List.length_take, List.length_drop]
    congr 2
    omega

theorem length_slices (skip take : Nat) (lists : List (List (List Atom))) : (slices skip take lists).length = lists.length := by
  induction lists generalizing skip take with
  | nil => rfl
  | cons l rest ih => simp [slices, ih]

theorem slices_all {take : Nat} (lists : List (List (List Atom))) (h : lists.flatten.length ≤ take) : slices 0 take lists = lists := by
  induction lists generalizing take with
  | nil => rfl
  | cons l rest ih =>
    simp only [List.flatten_cons, List.length_append] at h
    have hl : (l.drop 0).take take = l := by rw [List.drop_zero, List.take_of_length_le (by omega)]
    simp only [slices]
    rw [hl, Nat.zero_sub, ih (by omega)]

/-- Each list has its count of two bytes before its items. -/
theorem atomsSize_lists (lists : List (List (List Atom))) :
    atomsSize (lists.flatMap (fun l => .count l.length :: l.flatten)) = 2 * lists.length + atomsSize lists.flatten.flatten := by
  induction lists with
  | nil => rfl
  | cons l rest ih =>
    simp [ih, Atom.size]
    omega

/-- An answer that fits is its head, its lists in full, and an absent continuation. -/
theorem pageAnswer_fits {head : List Atom} {lists : List (List (List Atom))} (moreSize : Nat) (more : Nat → List Atom)
    (h : atomsSize head + 2 * lists.length + atomsSize lists.flatten.flatten ≤ 1021) :
    pageAnswer head lists 0 moreSize more = head ++ lists.flatMap (fun l => .count l.length :: l.flatten) ++ [.absent] := by
  have hn : pageCount head lists 0 moreSize = lists.flatten.length := by
    simp only [pageCount, List.drop_zero]
    rw [if_pos (by omega)]
  simp only [pageAnswer, hn]
  rw [slices_all lists (Nat.le_refl _), if_neg (by omega)]

/-- The items an answer carries and its continuation fit behind the head and the counts. -/
theorem atomsSize_pageAnswer {head : List Atom} {lists : List (List (List Atom))} {start moreSize : Nat} {more : Nat → List Atom}
    (h1 : 1 ≤ moreSize) (hmore : ∀ n, atomsSize (more n) ≤ moreSize) (hroom : atomsSize head + 2 * lists.length + moreSize ≤ 1022) :
    atomsSize (pageAnswer head lists start moreSize more) ≤ 1022 := by
  simp only [pageAnswer, atomsSize_append, atomsSize_lists, length_slices, flatten_slices]
  generalize hn : pageCount head lists start moreSize = n
  simp only [pageCount] at hn
  split_ifs at hn with hfit
  · subst hn
    rw [List.take_length, if_neg (by simp only [List.length_drop]; omega)]
    simp [Atom.size]
    omega
  · subst hn
    have htake := atomsSize_take_fitting (1022 - atomsSize head - 2 * lists.length - moreSize) (lists.flatten.drop start)
    split_ifs
    · have := hmore (start + fitting (1022 - atomsSize head - 2 * lists.length - moreSize) (lists.flatten.drop start))
      omega
    · simp [Atom.size]
      omega

end Sys2Proof.Machine
end

section
/-! SUPPORT. What the reads with continued answers give (R134, R149, R166, R186). -/

namespace Sys2Proof.Machine

/-! ### ReadRotation and ReadExposure (R134, R149) -/

@[simp] theorem frameArrives_offering (p : PortId) (s : State) (e : Engine) (r : RegionId) :
    (frameArrives p s).offering e r = s.offering e r := by cases e <;> simp [State.offering]

theorem showingIn_eq (s : State) (spot : Nat) :
    showingIn s spot = allRegions.find? (fun r => decide ((s.currentSpot r).map (fun x => x.spot) = some spot)) := by
  unfold showingIn
  congr 1
  funext r
  cases s.currentSpot r <;> simp

/-- The run of a region's current spot, as R134 lists it. -/
def runAtoms (s : State) (r : RegionId) : List Atom :=
  match s.currentSpot r, s.region r with
  | some x, some g =>
    match s.rotation.spots.find? (fun t => decide (t.id = x.spot)) with
    | some t => [.present, nat x.spot, nat x.run, nat (max t.slot g.dwell)]
    | none => [.absent]
  | _, _ => [.absent]

/-- The item of a region the Rotation Engine claims, as R134 lists it. -/
def rotationItem (s : State) (r : RegionId) : List (List Atom) :=
  if (s.claims r).awaitedBy (.engine .rotation) ∨ (s.claims r).heldBy (.engine .rotation) ∨ s.offering .rotation r = true then
    [[nat r.val, .named (if (s.claims r).awaitedBy (.engine .rotation) then 0
        else if (s.claims r).heldBy (.engine .rotation) then 1 else 2)] ++ runAtoms s r]
  else []

theorem rotationRegionAtoms_eq (s : State) (r : RegionId) : rotationRegionAtoms s r = rotationItem s r := by
  unfold rotationRegionAtoms rotationItem claimStateCode
  cases (s.claims r).awaitedBy (.engine .rotation)
  · cases (s.claims r).heldBy (.engine .rotation)
    · cases s.offering .rotation r <;> rfl
    · rfl
  · rfl

theorem frameArrives_rotationItem (p : PortId) (s : State) (r : RegionId) : rotationItem (frameArrives p s) r = rotationItem s r := by
  simp [rotationItem, runAtoms]

/-- A spot of the active rotation, as R134 lists it. -/
def spotItem (s : State) (t : Spot) : List Atom :=
  [nat t.id, nat t.contract, nat t.asset, nat t.slot] ++ listAtoms (fun n => [nat n]) t.regions
    ++ optAtoms (fun (r : RegionId) => [nat r.val])
        (allRegions.find? (fun r => decide ((s.currentSpot r).map (fun x => x.spot) = some t.id)))

theorem frameArrives_spotItem (p : PortId) (s : State) (t : Spot) : spotItem (frameArrives p s) t = spotItem s t := by simp [spotItem]

/-- What ReadRotation gives outside its lists (R134). -/
def rotationHead (x : Rotation) : List Atom :=
  [nat x.pointer] ++ optAtoms (fun (t : Plan) => [nat t.contracts.length, nat t.spots.length]) x.staged
    ++ optAtoms (fun (b : Build) => [nat b.owner.val, nat b.plan.contracts.length, nat b.plan.spots.length]) x.build

/-- A contract, as R134 lists it. -/
def contractItem (c : Contract) : List Atom :=
  [nat c.terms.id] ++ textAtoms c.terms.name ++ [nat c.terms.target, nat c.terms.qmin, .flag c.suspended, nat c.cut, nat c.shown]

theorem onReadRotation_eq (start : Option Nat) (s : State) :
    onReadRotation start s = (s, .done (countedPage (rotationHead s.rotation)
      [s.rotation.contracts.map contractItem, s.rotation.spots.map (spotItem s), allRegions.flatMap (rotationItem s)] start)) := by
  simp only [onReadRotation, showingIn_eq, funext (rotationRegionAtoms_eq s)]
  rfl

theorem answers_readRotation {p : PortId} {s : State} (hT : Taken p 45 s) (q : Byte) (start : Option Nat) :
    Answers (.readRotation p q start) p q 45 (doneWith (countedPage (rotationHead s.rotation)
      [s.rotation.contracts.map contractItem, s.rotation.spots.map (spotItem s), allRegions.flatMap (rotationItem s)] start))
      [] untouched s (fun _ => True) := by
  have h := onReadRotation_eq start (frameArrives p s)
  rw [frameArrives_rotation, funext (frameArrives_spotItem p s), funext (frameArrives_rotationItem p s)] at h
  exact answers_read hT rfl h

/-- What ReadExposure gives outside its list (R149). -/
def exposureHead (s : State) : List Atom :=
  [.named (modeCode s.canvas.mode), nat (Config.fps s.ratesel), nat s.clock.length, nat s.clock.main, nat (elapsed s.clock)]
    ++ optFrame s.exposure.lastTallied

/-- A contract's account is given as the clock and the frame rate have it (R146, R149). -/
theorem frameArrives_accountAtoms (p : PortId) (s : State) : accountAtoms (frameArrives p s) = accountAtoms s := by
  funext c
  simp [accountAtoms]

/-- The contracts ReadExposure is asked for (R149). -/
theorem onReadExposure_eq {s : State} {c : Option Nat} {listed : List Contract}
    (h : c = none ∧ listed = s.rotation.contracts
      ∨ ∃ id e, c = some id ∧ 1 ≤ id ∧ id ≤ 255 ∧ s.rotation.contracts.find? (fun x => decide (x.terms.id = id)) = some e ∧ listed = [e])
    (start : Option Nat) :
    onReadExposure c start s = (s, .done (countedPage (exposureHead s) [listed.map (accountAtoms s)] start)) := by
  rcases h with ⟨rfl, rfl⟩ | ⟨id, e, rfl, h1, h255, hfind, rfl⟩
  · rfl
  · have hrange : inRange 1 255 id = true := by simp [inRange, h1, h255]
    have hcontract : s.rotation.contract id = some e := hfind
    simp only [onReadExposure, hrange, hcontract]
    rfl

theorem answers_readExposure {p : PortId} {s : State} (hT : Taken p 46 s) (q : Byte) {c start : Option Nat} {listed : List Contract}
    (hl : c = none ∧ listed = s.rotation.contracts
      ∨ ∃ id e, c = some id ∧ 1 ≤ id ∧ id ≤ 255 ∧ s.rotation.contracts.find? (fun x => decide (x.terms.id = id)) = some e ∧ listed = [e]) :
    Answers (.readExposure p q c start) p q 46 (doneWith (countedPage (exposureHead s) [listed.map (accountAtoms s)] start))
      [] untouched s (fun _ => True) := by
  have h := onReadExposure_eq (s := frameArrives p s) (by simpa using hl) start
  have hhead : exposureHead (frameArrives p s) = exposureHead s := by simp [exposureHead]
  rw [frameArrives_accountAtoms, hhead] at h
  exact answers_read hT rfl h

/-! ### AssetList (R186) -/

theorem frameArrives_recordAtoms (p : PortId) (s : State) : recordAtoms (frameArrives p s) = recordAtoms s := by
  funext e
  simp [recordAtoms, claimPins, spotPins, regionPins]

/-- A record as R186 lists its fields. -/
theorem recordAtoms_eq (s : State) (e : AssetRecord) :
    recordAtoms s e
      = [nat e.id, .named (kindCode e.kind)] ++ (if e.kind = .image then [.present, nat e.width, nat e.height] else [.absent])
          ++ [nat e.first, nat e.count, nat (s.assets.pageMap.filter (fun x => decide (x.2 = .part e.first))).length,
              .named (assetStateCode e.state), .flag (s.assets.retireList.contains e.first)]
          ++ (if e.state = .complete then [.present, nat (claimPins s e.id), nat (spotPins s e.id), nat (regionPins s e.id)]
              else [.absent]) := by
  unfold recordAtoms Assets.held
  cases e.kind <;> rfl

theorem before_eq (id page : Nat) (e : AssetRecord) :
    e.before id page = decide (e.id < id ∨ e.id = id ∧ e.first < page) := by
  rw [AssetRecord.before, ← Bool.decide_and, ← Bool.decide_or]

/-- Where AssetList continues (R186, R194). -/
def recordPlace (l : List AssetRecord) (n : Nat) : List Atom := optAtoms (fun (e : AssetRecord) => [nat e.id, nat e.first]) l[n]?

theorem onAssetList_eq (startId startPage : Option Nat) (s : State) :
    onAssetList startId startPage s = (s, .done (pageAnswer (libraryTotals s.assets) [(listOrder s.assets.records).map (recordAtoms s)]
      ((listOrder s.assets.records).filter (AssetRecord.before (startId.getD 0) (startPage.getD 0))).length 9
      (recordPlace (listOrder s.assets.records)))) := by
  have hmore (n : Nat) : (match (listOrder s.assets.records)[n]? with
      | some e => [.present, nat e.id, nat e.first]
      | none => [.absent]) = recordPlace (listOrder s.assets.records) n := by
    unfold recordPlace
    cases (listOrder s.assets.records)[n]? <;> rfl
  rw [← funext hmore]
  rfl

theorem answers_assetList {p : PortId} {s : State} (hT : Taken p 54 s) (q : Byte) (startId startPage : Option Nat) :
    Answers (.assetList p q startId startPage) p q 54
      (doneWith (pageAnswer (libraryTotals s.assets) [(listOrder s.assets.records).map (recordAtoms s)]
        ((listOrder s.assets.records).filter (AssetRecord.before (startId.getD 0) (startPage.getD 0))).length 9
        (recordPlace (listOrder s.assets.records)))) [] untouched s (fun _ => True) := by
  have h := onAssetList_eq startId startPage (frameArrives p s)
  rw [frameArrives_assets, frameArrives_recordAtoms] at h
  exact answers_read hT rfl h

/-! ### ReadMessages (R166) -/

/-- The time before a Held entry lapses, as R166 gives it. -/
theorem timeLeft_atoms (limit : Nat) (now : Ms) (e : Entry) :
    optNat (timeLeft limit now e) = if limit = 0 then [.absent] else [.present, nat (limit * 1000 - (now - e.submitted).toNat)] := by
  unfold timeLeft
  split_ifs <;> rfl

/-- The passes being shown, as R166 lists them. -/
def passItem (s : State) (r : RegionId) : List (List Atom) :=
  ((s.pass r).toList).map (fun y =>
    [nat r.val, nat y.entry.submitter.val, nat y.entry.tag, .named (if y.withdrawing then 3 else 2), nat y.entry.passesDone,
      .num y.start.toNat, nat y.length, nat y.run, nat y.speed, .flag y.abort])

/-- The engine's claim on a message region, as R166 lists it. -/
def messageItem (s : State) (r : RegionId) : List (List Atom) :=
  if (s.region r).any (fun g => g.message) then
    [nat r.val ::
      (if (s.claims r).awaitedBy (.engine .message) then [.present, .named 1]
       else if (s.claims r).heldBy (.engine .message) then [.present, .named 2]
       else if s.offering .message r then [.present, .named 3] else [.absent])]
  else []

/-- The queue's settings and its length, as R166 lists them. -/
def messageHead (s : State) : List Atom :=
  [nat s.messages.settings.maxLength, nat s.messages.settings.continuation, nat s.messages.settings.substitute,
    nat s.messages.settings.speed, nat s.messages.settings.holdLimit, nat s.entries.length]

theorem entries_length (s : State) : s.queueLength = s.entries.length := by
  simp [State.queueLength, State.entries, Nat.add_assoc]

/-- A Held entry, as R166 lists it. -/
def heldItem (s : State) (e : Entry) : List Atom :=
  entryAtoms e ++ (if s.messages.settings.holdLimit = 0 then [.absent]
    else [.present, nat (s.messages.settings.holdLimit * 1000 - (s.clock.now - e.submitted).toNat)])

/-- An Approved entry, as R166 lists it. -/
def approvedItem (s : State) (e : Entry) : List Atom :=
  entryAtoms e ++ [nat e.passesDone, .flag (decide (e.style = .normal ∨ s.clock.state ≠ .running))]

theorem eligible_eq (s : State) (e : Entry) : e.eligible s.running = decide (e.style = .normal ∨ s.clock.state ≠ .running) := by
  rw [Entry.eligible, State.running, Bool.decide_or, decide_not]

theorem passItem_eq (s : State) (r : RegionId) :
    passItem s r = (match s.pass r with
      | none => []
      | some y =>
        [[nat r.val, nat y.entry.submitter.val, nat y.entry.tag, .named y.stateCode, nat y.entry.passesDone, frameAtom y.start,
          nat y.length, nat y.run, nat y.speed, .flag y.abort]]) := by
  unfold passItem
  cases s.pass r <;> rfl

theorem messageItem_eq (s : State) (r : RegionId) :
    messageItem s r = (match s.region r with
      | none => []
      | some g => if g.message then [nat r.val :: optAtoms (fun n => [.named (n + 1)]) (claimStateCode s .message r)] else []) := by
  have hclaim : optAtoms (fun n => [Atom.named (n + 1)]) (claimStateCode s .message r)
      = (if (s.claims r).awaitedBy (.engine .message) then [.present, .named 1]
         else if (s.claims r).heldBy (.engine .message) then [.present, .named 2]
         else if s.offering .message r then [.present, .named 3] else [.absent]) := by
    unfold claimStateCode
    split_ifs <;> rfl
  rw [hclaim]
  unfold messageItem
  cases s.region r <;> rfl

theorem onReadMessages_eq (start : Option Nat) (s : State) :
    onReadMessages start s = (s, .done (countedPage (messageHead s)
      [s.messages.held.map (heldItem s), s.messages.approved.map (approvedItem s), allRegions.flatMap (passItem s),
        allRegions.flatMap (messageItem s)] start)) := by
  have hheld : heldItem s = fun e => entryAtoms e ++ optNat (timeLeft s.messages.settings.holdLimit s.clock.now e) := by
    funext e
    rw [timeLeft_atoms]
    rfl
  have happroved : approvedItem s = fun e => entryAtoms e ++ [nat e.passesDone, .flag (e.eligible s.running)] := by
    funext e
    rw [eligible_eq]
    rfl
  rw [hheld, happroved, funext (passItem_eq s), funext (messageItem_eq s), messageHead, ← entries_length]
  rfl

theorem answers_readMessages {p : PortId} {s : State} (hT : Taken p 57 s) (q : Byte) (start : Option Nat) :
    Answers (.readMessages p q start) p q 57 (doneWith (countedPage (messageHead s)
      [s.messages.held.map (heldItem s), s.messages.approved.map (approvedItem s), allRegions.flatMap (passItem s),
        allRegions.flatMap (messageItem s)] start)) [] untouched s (fun _ => True) := by
  have h := onReadMessages_eq start (frameArrives p s)
  have hhead : messageHead (frameArrives p s) = messageHead s := by simp [messageHead, State.entries, State.passList]
  have hheld : heldItem (frameArrives p s) = heldItem s := by funext e; simp [heldItem]
  have happroved : approvedItem (frameArrives p s) = approvedItem s := by funext e; simp [approvedItem]
  have hpass : passItem (frameArrives p s) = passItem s := by funext r; simp [passItem]
  have hitem : messageItem (frameArrives p s) = messageItem s := by funext r; simp [messageItem]
  rw [hhead, hheld, happroved, hpass, hitem, frameArrives_messages] at h
  exact answers_read hT rfl h

end Sys2Proof.Machine
end

section
/-! PROOF. ReadStatus, and the ten reads (O12). -/

namespace Sys2Proof.Machine

/-! ### ReadStatus (R196, R201) -/

/-- A heard frame may clear a Silent condition, and does nothing else to a monitor (R59, R199). -/
theorem frameArrives_monitor (p : PortId) (s : State) (m : MonitorId) :
    (frameArrives p s).monitor m = s.monitor m ∨ m = monSilent p ∧ (frameArrives p s).monitor m = { s.monitor m with condition := false } := by
  unfold frameArrives
  simp only
  split_ifs
  · rw [lower, monitor_setMonitor]
    split_ifs with h
    · exact .inr ⟨h, by rw [h]; rfl⟩
    · exact .inl rfl
  · exact .inl rfl

theorem frameArrives_monitor_settings (p : PortId) (s : State) (m : MonitorId) :
    ((frameArrives p s).monitor m).latched = (s.monitor m).latched ∧ ((frameArrives p s).monitor m).enable = (s.monitor m).enable
      ∧ ((frameArrives p s).monitor m).latch = (s.monitor m).latch := by
  rcases frameArrives_monitor p s m with h | ⟨-, h⟩ <;> rw [h] <;> exact ⟨rfl, rfl, rfl⟩

/-- No input's Lost condition is a port's Silent condition. -/
theorem frameArrives_treatedLost (p : PortId) (s : State) (i : InputId) : (frameArrives p s).treatedLost i = s.treatedLost i := by
  have hne : monLost i ≠ monSilent p := by
    intro h
    have := congrArg Fin.val h
    cases i <;> simp only [monLost, monSilent, Fin.val_zero, Fin.val_one] at this <;> omega
  rcases frameArrives_monitor p s (monLost i) with h | ⟨h, -⟩
  · rw [State.treatedLost, h]
    rfl
  · exact absurd h hne

/-- An input, as R201 lists it. -/
def inputItem (s : State) (i : InputId) : List Atom :=
  optAtoms (fun (f : Picture) => [nat f.width, nat f.height]) (s.input i).latest ++ [nat (s.input i).limit]
    ++ (if (s.monitor (monLost i)).reported then [.present, nat (s.comp.frame - (s.input i).lostAt).toNat] else [.absent])

theorem frameArrives_inputAtoms (p : PortId) (s : State) (i : InputId) : inputAtoms (frameArrives p s) i = inputItem s i := by
  have h : optNat (if s.treatedLost i then some (framesSince s.frame (s.input i).lostAt) else none)
      = if (s.monitor (monLost i)).reported then [.present, nat (s.comp.frame - (s.input i).lostAt).toNat] else [.absent] := by
    unfold State.treatedLost
    split <;> rfl
  simp only [inputAtoms, frameArrives_treatedLost, frameArrives_input, frameArrives_frame, h]
  rfl

/-- A monitor, as R201 lists it once port `p` has been heard. -/
def monitorItem (p : PortId) (s : State) (m : MonitorId) : List Atom :=
  [.flag ((frameArrives p s).monitor m).condition, .flag (s.monitor m).latched, .flag (s.monitor m).enable, .flag (s.monitor m).latch]

theorem frameArrives_monitorAtoms (p : PortId) (s : State) (m : MonitorId) : monitorAtoms ((frameArrives p s).monitor m) = monitorItem p s m := by
  obtain ⟨hlatched, henable, hlatch⟩ := frameArrives_monitor_settings p s m
  simp only [monitorAtoms, monitorItem, hlatched, henable, hlatch]

/-- A port, as R201 lists it once port `p` has been heard. -/
def portItem (p : PortId) (s : State) (n : PortId) : List Atom :=
  [.named (roleCode (s.port n).role), .flag ((s.port n).silent && decide (n ≠ p)), nat (s.port n).timeout]

theorem frameArrives_portAtoms (p n : PortId) (s : State) : portAtoms ((frameArrives p s).port n) = portItem p s n := by
  rw [port_frameArrives]
  by_cases h : n = p
  · subst h
    simp [portAtoms, portItem]
  · simp [portAtoms, portItem, h]

/-- What ReadStatus gives (R201). -/
def statusFields (p : PortId) (s : State) : List Atom :=
  [.named (modeCode s.canvas.mode), .named (if s.assets.scanned then 1 else 0), nat s.assets.scanFailures, nat s.director.val,
      nat (if s.ratesel then 60 else 50), .num s.comp.frame.toNat, .named (if s.comp.locked then 0 else 1),
      .named (mainStateCode s.clock.state), nat s.clock.main, nat s.clock.period, .flag s.clock.unsupervised]
    ++ listAtoms (monitorItem p s) allMonitors ++ inputItem s .pa ++ inputItem s .pb ++ listAtoms (portItem p s) allPorts
    ++ [.flag (s.port p).withdrawn, nat ((s.port p).outstanding + 1), nat (s.port p).notices.length, .flag (s.port p).noticesLost]

theorem onReadStatus_eq (p : PortId) (s : State) : onReadStatus p (frameArrives p s) = (frameArrives p s, .done (statusFields p s)) := by
  obtain ⟨-, -, -, -, hlost, -, -, -, hnotices, -, -⟩ := frameArrives_port_kept p p s
  simp only [onReadStatus, frameArrives_inputAtoms, funext (frameArrives_monitorAtoms p s), funext (fun n => frameArrives_portAtoms p n s),
    frameArrives_withdrawn, frameArrives_outstanding, hlost, hnotices, frameArrives_canvas, frameArrives_assets, frameArrives_director,
    frameArrives_ratesel, frameArrives_frame, frameArrives_comp, frameArrives_clock]
  rfl

/-- The port after its status has been answered: NoticesLost is clear (R196). -/
def statusAnswered (q : Byte) (fields : List Atom) (x : Port) : Port := (answerTo q 59 true (doneWith fields) x).statusRead

/-- An answer that joins the list is the newest, on the line or waiting. -/
theorem newest_startFrame {x : Port} {l : List Answer} {a : Answer} (h : x.answers = l ++ [a]) : (startFrame x).newest = some a := by
  cases hl : x.line with
  | some y => simp [startFrame_busy x y hl, Port.newest, h]
  | none =>
    cases l with
    | nil => simp [startFrame_answer x a [] hl h, Port.newest]
    | cons b rest => simp [startFrame_answer x b (rest ++ [a]) hl h, Port.newest]

theorem leads_readStatus {p : PortId} {s : State} (hT : Taken p 59 s) (q : Byte) :
    Leads (.readStatus p q) s (frameArrives p s) [] (onPort p (statusAnswered q (statusFields p s)))
      (fun t => (t.port p).noticesLost = false ∧ ∃ a, (t.port p).newest = some a ∧ a.noticesLost = (s.port p).noticesLost) := by
  let u := sendAnswer p q 59 true (doneWith (statusFields p s)) (frameArrives p s)
  have hx : exec (.readStatus p q) s = .next (pump (u.setPort p (u.port p).statusRead)) := by
    have : exec (.readStatus p q) s = .next (pump (receive p q 59 (onReadStatus p) s)) := rfl
    rw [this, receive_of_taken hT, onReadStatus_eq]
    rfl
  have hself : u.port p = answerTo q 59 true (doneWith (statusFields p s)) ((frameArrives p s).port p) := by
    simp [u, port_sendAnswer]
  have hports : PortsBecome (onPort p (statusAnswered q (statusFields p s))) (frameArrives p s) (pump (u.setPort p (u.port p).statusRead)) := by
    intro n
    rw [port_pump, port_setPort, onPort]
    split_ifs with hn
    · rw [hself, hn]
      rfl
    · simp [u, port_sendAnswer, hn]
  refine ⟨_, hx, ?_, by simp [u], hports⟩
  have hp := hports p
  rw [onPort, if_pos rfl] at hp
  obtain ⟨-, -, -, -, hlost, -, -, -, -, -, -⟩ := frameArrives_port_kept p p s
  show ((pump _).port p).noticesLost = false ∧ ∃ a, ((pump _).port p).newest = some a ∧ a.noticesLost = _
  rw [hp]
  refine ⟨(startFrame_kept _).2.2.2.2.2.2.1, _, newest_startFrame rfl, ?_⟩
  exact hlost

/-! ### The ten reads -/

/-- Settles O12: each read is its block's answer to a part it leaves alone, and a continued answer is cut to the payload. -/
theorem readsReportWhatStands : Obligations.ReadsReportWhatStands := by
  refine ⟨fun p q r s hT => ⟨fun h => ?_, fun g h => ?_⟩, fun p q s hT => ?_, fun p q k l s hT hk => ?_, fun p q n s hT hn => ?_,
    fun p q c r s hT hc hr => ⟨fun m h => ?_, fun h => ?_⟩, fun p q start s hT => answers_readRotation hT q start,
    fun p q c start listed s hT hl => answers_readExposure hT q hl, fun p q startId startPage s hT hA => ?_,
    fun p q start s hT => answers_readMessages hT q start, fun p q s hT => leads_readStatus hT q,
    fun head lists start moreSize more => ⟨pageAnswer_fits moreSize more, atomsSize_pageAnswer⟩⟩
  · exact answers_read hT rfl (onReadRegion_undefined (by simpa using h))
  · have := onReadRegion_defined (s := frameArrives p s) (r := r) (g := g) (by simpa using h)
    rw [frameArrives_claims] at this
    exact answers_read hT rfl this
  · refine answers_read hT rfl ?_
    simp [onReadClock, scoreAtoms, arrowAtoms, frameAtom, State.frame]
  · subst hk
    have := onReadLink_eq k (frameArrives p s)
    rw [frameArrives_link, LinkSettings.over, orElse_eq_ite, orElse_eq_ite] at this
    exact answers_read hT rfl this
  · have := onReadClaims_eq (s := frameArrives p s) (p := p) (n := n) (by simpa using hn)
    rw [frameArrives_claimSet, frameArrives_withdrawn, funext standingAtoms_eq] at this
    exact ⟨_, sortBy_perm .., pairwise_sortBy .., answers_read hT rfl this⟩
  · have := onReadComposition_map (s := frameArrives p s) hc hr (by simpa using h)
    simp only [planeMark_eq] at this
    exact answers_read hT rfl this
  · have := onReadComposition_none (s := frameArrives p s) hc hr (by simpa using h)
    rw [frameArrives_frame] at this
    exact answers_read hT rfl this
  · obtain ⟨hfound, hmost⟩ := longest_pageMap hA Config.emptyRunPage
    have hanswer := answers_assetList hT q startId startPage
    rw [funext (recordAtoms_eq s), funext (before_eq (startId.getD 0) (startPage.getD 0))] at hanswer
    let run := longestRunFrom 0 (0, Config.emptyRunPage) s.assets.pageMap
    refine ⟨listOrder s.assets.records, run.1, run.2, listOrder_perm _, listOrder_sorted _, fun hpos => ?_, fun a n hn ha hfree => ?_, hanswer⟩
    · rcases hfound with h | ⟨-, -, hrun⟩
      · have hzero : run.1 = 0 := congrArg Prod.fst h
        rw [hzero] at hpos
        exact absurd hpos (Nat.lt_irrefl 0)
      · exact (freeRun_iff ..).mp hrun
    · exact hmost a n hn (Nat.zero_le a) ((freeRun_iff ..).mpr ⟨ha, hfree⟩)

end Sys2Proof.Machine
end

section
/-! SUPPORT. The law of one port (R191, R194, R196), and what notices, answers and requests that end make of it. -/

namespace Sys2Proof.Machine

/-! ### The law of one port -/

/-- The law of one port: what `PortLaw` says of it. -/
def Port.Lawful (x : Port) : Prop :=
  x.outstanding ≤ 4 ∧ x.notices.length ≤ 16 ∧ x.answers.length + x.requests.length ≤ 12 ∧ x.rx.length < 1032
    ∧ (x.timeout = 0 ∨ 250 ≤ x.timeout ∧ x.timeout ≤ 10000) ∧ x.priorityMap.length = 8 ∧ (∀ n ∈ x.priorityMap, n ≤ 7)
    ∧ (x.silent = true → x.withdrawn = false ∧ ∀ d ∈ x.requests, d.isWithdraw = false)

theorem portLaw_iff (s : State) : PortLaw s ↔ ∀ p, (s.port p).Lawful := Iff.rfl

/-- What every operation but the taking of a request and the fall into silence leaves of a port: its role and whether it is Silent, no more
requests outstanding and no more waiting, and its law. -/
structure Port.Sound (x y : Port) : Prop where
  role : y.role = x.role
  silent : y.silent = x.silent
  outstanding : y.outstanding ≤ x.outstanding
  waiting : y.answers.length + y.requests.length ≤ x.answers.length + x.requests.length
  lawful : x.Lawful → y.Lawful

theorem Port.Sound.refl (x : Port) : Port.Sound x x := ⟨rfl, rfl, Nat.le_refl _, Nat.le_refl _, id⟩

theorem Port.Sound.trans {x y z : Port} (h : Port.Sound x y) (k : Port.Sound y z) : Port.Sound x z :=
  ⟨k.role.trans h.role, k.silent.trans h.silent, k.outstanding.trans h.outstanding, k.waiting.trans h.waiting, k.lawful ∘ h.lawful⟩

/-- A port that keeps its role, its silence and its settings, and whose queues do not grow but for notices within their limit. -/
theorem Port.sound_of {x y : Port} (hrole : y.role = x.role) (hsilent : y.silent = x.silent) (htimeout : y.timeout = x.timeout)
    (hmap : y.priorityMap = x.priorityMap) (hout : y.outstanding ≤ x.outstanding)
    (hwait : y.answers.length + y.requests.length ≤ x.answers.length + x.requests.length)
    (hnotices : x.notices.length ≤ 16 → y.notices.length ≤ 16) (hrx : x.rx.length < 1032 → y.rx.length < 1032)
    (hquiet : x.silent = true → x.withdrawn = false → (∀ d ∈ x.requests, d.isWithdraw = false) →
      y.withdrawn = false ∧ ∀ d ∈ y.requests, d.isWithdraw = false) : Port.Sound x y := by
  refine ⟨hrole, hsilent, hout, hwait, fun ⟨h1, h2, h3, h4, h5, h6, h7, h8⟩ => ?_⟩
  refine ⟨hout.trans h1, hnotices h2, hwait.trans h3, hrx h4, htimeout ▸ h5, hmap ▸ h6, hmap ▸ h7, fun hs => ?_⟩
  have hx : x.silent = true := hsilent ▸ hs
  exact hquiet hx (h8 hx).1 (h8 hx).2

/-! ### Notices and the transmitter (R195, R196) -/

theorem sound_noteTo (n : Notice) (x : Port) : Port.Sound x (noteTo n x) := by
  obtain ⟨hrole, hrx, -, htimeout, hsilent, hwithdrawn, -, hrequests, hanswers, hline, hmap⟩ := noteTo_kept n x
  refine Port.sound_of hrole hsilent htimeout hmap ?_ ?_ (noteTo_length n x) (by rw [hrx]; exact id) ?_
  · rw [Port.outstanding, hrequests, hanswers, hline]
    exact Nat.le_refl _
  · rw [hrequests, hanswers]
  · rw [hwithdrawn, hrequests]
    exact fun _ h k => ⟨h, k⟩

theorem startFrame_queues (x : Port) :
    (startFrame x).answers.length ≤ x.answers.length ∧ (startFrame x).notices.length ≤ x.notices.length := by
  unfold startFrame
  split
  · simp
  · split
    · next h => simp [h]
    · next h => split <;> simp_all

theorem sound_startFrame (x : Port) : Port.Sound x (startFrame x) := by
  obtain ⟨hrole, hrx, -, htimeout, hsilent, hwithdrawn, -, hrequests, hmap⟩ := startFrame_kept x
  obtain ⟨hanswers, hnotices⟩ := startFrame_queues x
  refine Port.sound_of hrole hsilent htimeout hmap (startFrame_outstanding x).le ?_ hnotices.trans (by rw [hrx]; exact id) ?_
  · rw [hrequests]
    omega
  · rw [hwithdrawn, hrequests]
    exact fun _ h k => ⟨h, k⟩

/-! ### Deferred requests that end (R38, R175, R184, R194) -/

/-- A deferred request that ends leaves the queue, and its answer joins those that wait: as many are outstanding as before. -/
theorem sound_answered (x : Port) (requests : List OpenRequest) (answers : List Answer)
    (hlength : requests.length + answers.length = x.requests.length) (hcounted : ∀ a ∈ answers, a.counted = true)
    (hsub : (∀ d ∈ x.requests, d.isWithdraw = false) → ∀ d ∈ requests, d.isWithdraw = false) :
    Port.Sound x { x with requests := requests, answers := x.answers ++ answers } := by
  have hfilter : answers.filter (fun a => a.counted) = answers := List.filter_eq_self.mpr hcounted
  refine Port.sound_of rfl rfl rfl rfl ?_ ?_ id id fun _ h k => ⟨h, hsub k⟩
  · simp only [Port.outstanding, List.filter_append, hfilter, List.length_append]
    omega
  · simp only [List.length_append]
    omega

/-- The answer that a deferred Withdraw gets when it ends (R38), NoticesLost standing as given. -/
def OpenRequest.answer (lost : Bool) : OpenRequest → List Answer
  | .withdraw q _ removed left =>
    [{ seq := q, code := 24, outcome := .done, adjusted := false, noticesLost := lost, fields := [nat removed, nat left], counted := true,
       deferred := true }]
  | .upload _ _ => []
  | .reclaim _ => []

theorem foldl_answerWithdraw (l : List OpenRequest) (x : Port) :
    l.foldl (fun y d => answerWithdraw d y) x = { x with answers := x.answers ++ l.flatMap (OpenRequest.answer x.noticesLost) } := by
  induction l generalizing x with
  | nil => simp
  | cons d rest ih =>
    rw [List.foldl_cons, ih]
    cases d <;> simp [answerWithdraw, answerDeferred, Port.answerOf, OpenRequest.answer]

/-- What the leaving of a holder makes of its port (R38). -/
theorem holderLeft_eq (tag : Nat) (x : Port) :
    holderLeft tag x
      = { x with
          requests := (x.requests.map (OpenRequest.holderLeft tag)).filter (fun d => !d.withdrawEnded)
          answers := x.answers ++ ((x.requests.map (OpenRequest.holderLeft tag)).filter OpenRequest.withdrawEnded).flatMap
            (OpenRequest.answer x.noticesLost) } := by
  simp [holderLeft, foldl_answerWithdraw]

theorem answer_of_ended {d : OpenRequest} (h : d.withdrawEnded = true) (lost : Bool) : (d.answer lost).length = 1 := by
  cases d
  case withdraw => rfl
  all_goals cases h

theorem holderLeft_isWithdraw (tag : Nat) (d : OpenRequest) : (d.holderLeft tag).isWithdraw = d.isWithdraw := by
  cases d
  case withdraw =>
    simp only [OpenRequest.holderLeft]
    split <;> rfl
  all_goals rfl

theorem answer_counted (lost : Bool) (d : OpenRequest) : ∀ a ∈ d.answer lost, a.counted = true := by
  cases d <;> simp [OpenRequest.answer]

theorem sound_holderLeft (tag : Nat) (x : Port) : Port.Sound x (holderLeft tag x) := by
  rw [holderLeft_eq]
  refine sound_answered x _ _ ?_ (fun a ha => ?_) (fun h d hd => ?_)
  · have hsum : (((x.requests.map (OpenRequest.holderLeft tag)).filter OpenRequest.withdrawEnded).flatMap
        (OpenRequest.answer x.noticesLost)).length = ((x.requests.map (OpenRequest.holderLeft tag)).filter OpenRequest.withdrawEnded).length := by
      rw [List.length_flatMap, List.map_congr_left (g := fun _ => 1) fun d hd => answer_of_ended (List.mem_filter.mp hd).2 _]
      simp
    have hsplit := (List.filter_append_perm OpenRequest.withdrawEnded (x.requests.map (OpenRequest.holderLeft tag))).length_eq
    rw [List.length_append, List.length_map] at hsplit
    omega
  · obtain ⟨d, -, hd⟩ := List.mem_flatMap.mp ha
    exact answer_counted _ d a hd
  · obtain ⟨e, he, rfl⟩ := List.mem_map.mp (List.mem_filter.mp hd).1
    rw [holderLeft_isWithdraw]
    exact h e he

/-- A port that has heard notices and has been told of holders that left, and nothing else. -/
inductive Port.Told (x : Port) : Port → Prop
  | refl : Port.Told x x
  | note (n : Notice) {y : Port} (h : Port.Told x y) : Port.Told x (noteTo n y)
  | left (tag : Nat) {y : Port} (h : Port.Told x y) : Port.Told x (holderLeft tag y)

theorem Port.Told.trans {x y z : Port} (h : Port.Told x y) (k : Port.Told y z) : Port.Told x z := by
  induction k with
  | refl => exact h
  | note n _ ih => exact ih.note n
  | left tag _ ih => exact ih.left tag

theorem Port.Told.sound {x y : Port} (h : Port.Told x y) : Port.Sound x y := by
  induction h with
  | refl => exact Port.Sound.refl x
  | note n _ ih => exact ih.trans (sound_noteTo n _)
  | left tag _ ih => exact ih.trans (sound_holderLeft tag _)

/-- The answer of a deferred request takes its request out of the queue (R194). -/
theorem sound_answerErased (x : Port) {d : OpenRequest} (hd : d ∈ x.requests) (q : Byte) (code : Nat) (r : Reply) :
    Port.Sound x (answerDeferred q code r { x with requests := x.requests.erase d }) := by
  refine sound_answered x _ [_] ?_ ?_ fun h e he => h e (List.mem_of_mem_erase he)
  · have := List.length_erase_of_mem hd
    have := List.length_pos_of_mem hd
    simp only [List.length_singleton]
    omega
  · simp [Port.answerOf]

theorem sound_answerUpload (r : Reply) (x : Port) : Port.Sound x (answerUpload r x) := by
  unfold answerUpload
  split
  · next h => exact sound_answerErased x (List.mem_of_find?_eq_some h) ..
  · exact Port.Sound.refl x

theorem sound_answerReclaim (r : Reply) (x : Port) : Port.Sound x (answerReclaim r x) := by
  unfold answerReclaim
  split
  · next h => exact sound_answerErased x (List.mem_of_find?_eq_some h) ..
  · exact Port.Sound.refl x

/-! ### Port reset and single fields (R40, R191, R195, R198, R200, R201) -/

theorem sound_cleared (x : Port) : Port.Sound x x.cleared := by
  refine Port.sound_of rfl rfl rfl rfl ?_ (by simp [Port.cleared]) (by simp [Port.cleared]) (by simp [Port.cleared])
    fun _ _ _ => ⟨rfl, by simp [Port.cleared]⟩
  simp only [Port.outstanding, Port.cleared, List.length_nil, List.filter_nil]
  omega

theorem sound_withdrawn (x : Port) {b : Bool} (h : x.silent = false ∨ b = false) : Port.Sound x { x with withdrawn := b } := by
  refine Port.sound_of rfl rfl rfl rfl (Nat.le_refl _) (Nat.le_refl _) id id fun hs _ k => ⟨?_, k⟩
  rcases h with h | h
  · rw [h] at hs
    cases hs
  · exact h

theorem sound_rx (x : Port) {l : List Byte} (h : l.length < 1032) : Port.Sound x { x with rx := l } :=
  Port.sound_of rfl rfl rfl rfl (Nat.le_refl _) (Nat.le_refl _) id (fun _ => h) fun _ h k => ⟨h, k⟩

theorem sound_countMs (x : Port) : Port.Sound x x.countMs :=
  Port.sound_of rfl rfl rfl rfl (Nat.le_refl _) (Nat.le_refl _) id id fun _ h k => ⟨h, k⟩

theorem sound_statusRead (x : Port) : Port.Sound x x.statusRead :=
  Port.sound_of rfl rfl rfl rfl (Nat.le_refl _) (Nat.le_refl _) id id fun _ h k => ⟨h, k⟩

theorem sound_lineEnds (x : Port) : Port.Sound x { x with line := none } := by
  refine Port.sound_of rfl rfl rfl rfl ?_ (Nat.le_refl _) id id fun _ h k => ⟨h, k⟩
  simp only [Port.outstanding]
  omega

theorem sound_priorityMap (x : Port) {l : List Nat} (h8 : l.length = 8) (h7 : ∀ n ∈ l, n ≤ 7) :
    Port.Sound x { x with priorityMap := l } :=
  ⟨rfl, rfl, Nat.le_refl _, Nat.le_refl _, fun ⟨h1, h2, h3, h4, h5, _, _, h8'⟩ => ⟨h1, h2, h3, h4, h5, h8, h7, h8'⟩⟩

theorem sound_timeout (x : Port) {n : Nat} (h : n = 0 ∨ 250 ≤ n ∧ n ≤ 10000) : Port.Sound x { x with timeout := n } :=
  ⟨rfl, rfl, Nat.le_refl _, Nat.le_refl _, fun ⟨h1, h2, h3, h4, _, h6, h7, h8⟩ => ⟨h1, h2, h3, h4, h, h6, h7, h8⟩⟩

/-! ### A request taken (R191, R194) -/

/-- An answer to a request that is taken joins the port: it may be counted where fewer than four are outstanding. -/
theorem lawful_answerTo {x : Port} (h : x.Lawful) (hroom : x.answers.length + x.requests.length < 12) {counted : Bool}
    (hcount : counted = true → x.outstanding < 4) (q : Byte) (code : Nat) (r : Reply) : (answerTo q code counted r x).Lawful := by
  obtain ⟨h1, h2, h3, h4, h5, h6, h7, h8⟩ := h
  refine ⟨?_, h2, ?_, h4, h5, h6, h7, h8⟩
  · have hout : (answerTo q code counted r x).outstanding = x.outstanding + if counted then 1 else 0 := by
      cases counted <;> simp [answerTo, Port.outstanding, Port.answerOf]
      omega
    rw [hout]
    split
    · next h => exact hcount h
    · exact h1
  · simp only [answerTo, List.length_append, List.length_singleton]
    omega

/-- A deferred request joins the port, which is not Silent where it is a Withdraw. -/
theorem lawful_deferTo {x : Port} (h : x.Lawful) (hroom : x.answers.length + x.requests.length < 12) (hcount : x.outstanding < 4)
    {d : OpenRequest} (hd : d.isWithdraw = false ∨ x.silent = false) : (deferTo d x).Lawful := by
  obtain ⟨-, h2, -, h4, h5, h6, h7, h8⟩ := h
  refine ⟨?_, h2, ?_, h4, h5, h6, h7, fun hs => ⟨(h8 hs).1, fun e he => ?_⟩⟩
  · simp only [deferTo, Port.outstanding, List.length_append, List.length_singleton] at hcount ⊢
    omega
  · simp only [deferTo, List.length_append, List.length_singleton]
    omega
  · rcases List.mem_append.mp he with he | he
    · exact (h8 hs).2 e he
    · obtain rfl : e = d := by simpa using he
      refine hd.resolve_right fun hx => ?_
      rw [show (deferTo e x).silent = x.silent from rfl, hx] at hs
      cases hs

end Sys2Proof.Machine
end

section
/-! SUPPORT. The ports after each shared operation: claims, evaluations, engines and messages keep the law of every port. -/

namespace Sys2Proof.Machine

/-! ### Every port -/

/-- Every port is left as `Port.Sound` says. -/
structure PortsSound (s t : State) : Prop where
  port : ∀ p, Port.Sound (s.port p) (t.port p)

theorem PortsSound.refl (s : State) : PortsSound s s := ⟨fun _ => Port.Sound.refl _⟩

theorem PortsSound.trans {s t u : State} (h : PortsSound s t) (k : PortsSound t u) : PortsSound s u :=
  ⟨fun p => (h.port p).trans (k.port p)⟩

theorem port_of_ports {s t : State} (h : t.ports = s.ports) (p : PortId) : t.port p = s.port p := by simp [State.port, h]

theorem portsSound_of_ports {s t : State} (h : t.ports = s.ports) : PortsSound s t := ⟨fun p => by
  rw [port_of_ports h]
  exact Port.Sound.refl _⟩

/-- Before what is sound the ports may have stayed as they were. -/
theorem PortsSound.after {s t u : State} (h : PortsSound t u) (ht : t.ports = s.ports) : PortsSound s u := (portsSound_of_ports ht).trans h

/-- One port is changed by what is sound for it. -/
theorem portsSound_setPort {s : State} {p : PortId} {x : Port} (h : Port.Sound (s.port p) x) : PortsSound s (s.setPort p x) := ⟨fun n => by
  rw [port_setPort]
  split_ifs with hn
  · rw [hn]
    exact h
  · exact Port.Sound.refl _⟩

theorem port_updatePort {s t : State} {p : PortId} {f : Port → Port} (ht : t.ports = updatePort s.ports p f) (n : PortId) :
    t.port n = if n = p then f (s.port n) else s.port n := by
  unfold State.port
  rw [ht]
  exact get_updatePort s.ports p n f

theorem portsSound_updatePort {s t : State} {p : PortId} {f : Port → Port} (ht : t.ports = updatePort s.ports p f)
    (hf : ∀ x, Port.Sound x (f x)) : PortsSound s t := ⟨fun n => by
  rw [port_updatePort ht]
  split_ifs
  · exact hf _
  · exact Port.Sound.refl _⟩

/-! ### Ports that hear notices and of holders that left -/

/-- Every port is left as `Port.Told` says. -/
structure PortsTold (s t : State) : Prop where
  port : ∀ p, Port.Told (s.port p) (t.port p)

theorem PortsTold.sound {s t : State} (h : PortsTold s t) : PortsSound s t := ⟨fun p => (h.port p).sound⟩

theorem PortsTold.refl (s : State) : PortsTold s s := ⟨fun _ => .refl⟩

theorem PortsTold.trans {s t u : State} (h : PortsTold s t) (k : PortsTold t u) : PortsTold s u := ⟨fun p => (h.port p).trans (k.port p)⟩

theorem portsTold_of_ports {s t : State} (h : t.ports = s.ports) : PortsTold s t := ⟨fun p => by
  rw [port_of_ports h]
  exact .refl⟩

/-- Before what tells them the ports may have stayed as they were. -/
theorem PortsTold.after {s t u : State} (h : PortsTold t u) (ht : t.ports = s.ports) : PortsTold s u := (portsTold_of_ports ht).trans h

theorem portsTold_foldl {α : Type} {f : State → α → State} (hf : ∀ u a, PortsTold u (f u a)) (l : List α) (s : State) :
    PortsTold s (l.foldl f s) := by
  induction l generalizing s with
  | nil => exact PortsTold.refl s
  | cons a rest ih => exact (hf s a).trans (ih _)

theorem portsTold_updatePort {s t : State} {p : PortId} {f : Port → Port} (ht : t.ports = updatePort s.ports p f)
    (hf : ∀ x, Port.Told x (f x)) : PortsTold s t := ⟨fun n => by
  rw [port_updatePort ht]
  split_ifs
  · exact hf _
  · exact .refl⟩

/-! ### Notices and the transmitters -/

theorem portsTold_notify (p : PortId) (n : Notice) (s : State) : PortsTold s (notify p n s) :=
  portsTold_updatePort rfl fun _ => Port.Told.refl.note n

theorem portsTold_notifyAll (ps : List PortId) (n : Notice) (s : State) : PortsTold s (notifyAll ps n s) := by
  have h : ∀ (l : List PortId) (t : State), PortsTold t { t with ports := l.foldl (fun v p => updatePort v p (noteTo n)) t.ports } := by
    intro l
    induction l with
    | nil => exact PortsTold.refl
    | cons p rest ih => exact fun t => (portsTold_notify p n t).trans (ih (notify p n t))
  exact h ps s

theorem portsSound_pump (s : State) : PortsSound s (pump s) := ⟨fun p => by
  rw [port_pump]
  exact sound_startFrame _⟩

theorem portsTold_tellClock (k : NoticeKind) (fields : List Atom) (s : State) : PortsTold s (tellClock k fields s) :=
  portsTold_notifyAll ..

theorem portsTold_tellSubmitter (k : NoticeKind) (e : Entry) (fields : List Atom) (s : State) : PortsTold s (tellSubmitter k e fields s) :=
  portsTold_notify ..

theorem portsTold_notifySponsors (ns : List Notice) (s : State) : PortsTold s (notifySponsors ns s) :=
  portsTold_foldl (fun _ _ => portsTold_notifyAll ..) ns s

/-! ### Claims (R25, R32 to R34) -/

theorem ports_setOffering (e : Engine) (r : RegionId) (b : Bool) (s : State) : (s.setOffering e r b).ports = s.ports := by
  cases e <;> rfl

theorem portsTold_setOffering (e : Engine) (r : RegionId) (b : Bool) (s : State) : PortsTold s (s.setOffering e r b) :=
  portsTold_of_ports (ports_setOffering ..)

theorem portsTold_setClaims (r : RegionId) (x : RegionClaims) (s : State) : PortsTold s (s.setClaims r x) := portsTold_of_ports rfl

theorem portsTold_claimNotice (k : NoticeKind) (r : RegionId) (c : Claim) (fields : List Atom) (s : State) :
    PortsTold s (claimNotice k r c fields s) := by
  unfold claimNotice
  split
  · exact portsTold_notify ..
  · exact PortsTold.refl s

theorem portsTold_evict (r : RegionId) (c : Claim) (rank : Nat) (s : State) : PortsTold s (evict r c rank s) := by
  unfold evict
  split
  · exact portsTold_claimNotice ..
  · exact portsTold_setOffering ..

theorem portsTold_joinWait (r : RegionId) (c : Claim) (s : State) : PortsTold s (joinWait r c s).1 := by
  unfold joinWait
  simp only
  split
  · exact portsTold_setClaims ..
  · split
    · exact PortsTold.refl s
    · split
      · exact (portsTold_setClaims ..).trans (portsTold_evict ..)
      · exact PortsTold.refl s

theorem portsTold_dropped (r : RegionId) (h : Claim) (released : Bool) (s : State) : PortsTold s (dropped r h released s) := by
  unfold dropped
  split
  · exact portsTold_updatePort rfl fun _ => Port.Told.refl.left h.tag
  · split
    · exact PortsTold.refl s
    · exact portsTold_setOffering ..

theorem portsTold_goBack (r : RegionId) (h : Claim) (reason : Atom) (k : NoticeKind) (fields : List Atom) (s : State) :
    PortsTold s (goBack r h reason k fields s) := by
  have hj := portsTold_joinWait r { h with mark := none } s
  unfold goBack
  simp only
  split
  · next u heq =>
    rw [heq] at hj
    exact hj.trans (portsTold_claimNotice ..)
  · next u heq =>
    rw [heq] at hj
    exact hj.trans ((portsTold_claimNotice ..).trans (portsTold_dropped ..))

theorem portsTold_leave (r : RegionId) (h : Claim) (cause : LeaveCause) (s : State) : PortsTold s (leave r h cause s) := by
  unfold leave
  simp only
  split
  · exact (portsTold_setClaims ..).trans (portsTold_dropped ..)
  · exact (portsTold_setClaims ..).trans ((portsTold_claimNotice ..).trans (portsTold_dropped ..))
  · exact (portsTold_setClaims ..).trans ((portsTold_claimNotice ..).trans (portsTold_dropped ..))
  · exact (portsTold_setClaims ..).trans (portsTold_goBack ..)
  · split
    · exact (portsTold_setClaims ..).trans (portsTold_goBack ..)
    · exact (portsTold_setClaims ..).trans ((portsTold_claimNotice ..).trans (portsTold_dropped ..))

theorem portsTold_promote (r : RegionId) (c : Claim) (s : State) : PortsTold s (promote r c s) := by
  unfold promote
  simp only
  split
  · exact (portsTold_claimNotice ..).after rfl
  · exact (portsTold_claimNotice ..).after rfl

theorem portsTold_displace (r : RegionId) (h c : Claim) (s : State) : PortsTold s (displace r h c s) := by
  have hj := portsTold_joinWait r { h with mark := none } (s.setClaims r { s.claims r with holder := none })
  unfold displace
  simp only
  split
  · split
    · next u heq =>
      rw [heq] at hj
      exact ((portsTold_setClaims ..).trans (hj.trans (portsTold_claimNotice ..))).trans (portsTold_promote ..)
    · next u heq =>
      rw [heq] at hj
      exact ((portsTold_setClaims ..).trans (hj.trans ((portsTold_claimNotice ..).trans (portsTold_dropped ..)))).trans
        (portsTold_promote ..)
  · exact ((portsTold_setClaims ..).trans ((portsTold_claimNotice ..).trans (portsTold_dropped ..))).trans (portsTold_promote ..)

theorem portsTold_replaceStage (r : RegionId) (g : Region) (passed : Bool) (left : Option Claim) (s : State) :
    PortsTold s (replaceStage r g passed left s).1 := by
  unfold replaceStage
  split
  · exact PortsTold.refl _
  · split
    · exact portsTold_displace ..
    · exact PortsTold.refl _
  · split
    · exact portsTold_promote ..
    · exact PortsTold.refl _

theorem portsTold_arbitrate (r : RegionId) (g : Region) (s : State) : PortsTold s (arbitrate r g s).1 := by
  have hleave : PortsTold s (leaveStage r g s).1 := by
    unfold leaveStage
    simp only
    split
    · exact portsTold_setClaims ..
    · split
      · exact portsTold_setClaims ..
      · exact (portsTold_setClaims ..).trans (portsTold_leave ..)
  refine hleave.trans ?_
  exact portsTold_replaceStage ..

/-! ### Engines (R35, R126 to R130, R160 to R164) -/

theorem portsTold_settle (e : Engine) (r : RegionId) (s : State) : PortsTold s (settle e r s) := by
  unfold settle
  split
  · split
    · exact PortsTold.refl s
    · exact (portsTold_joinWait r (engineClaim s e r) s).trans (portsTold_setOffering ..)
  · exact (portsTold_setClaims ..).trans (portsTold_setOffering ..)

theorem portsTold_settleAll (e : Engine) (s : State) : PortsTold s (settleAll e s) := portsTold_foldl (fun _ _ => portsTold_settle ..) _ s

theorem portsTold_reoffer (due : List (Engine × RegionId)) (s : State) : PortsTold s (reoffer due s) := by
  refine portsTold_foldl (fun u d => ?_) due s
  split
  · exact portsTold_settle ..
  · exact PortsTold.refl u

theorem ports_cutSpot (r : RegionId) (s : State) : (cutSpot r s).ports = s.ports := by
  unfold cutSpot
  split
  · rfl
  · split <;> rfl

theorem ports_selectSpot (r : RegionId) (g : Region) (s : State) : (selectSpot r g s).ports = s.ports := by
  unfold selectSpot
  split <;> rfl

theorem ports_countSpot (r : RegionId) (g : Region) (s : State) : (countSpot r g s).ports = s.ports := by
  unfold countSpot
  split
  · split
    · rfl
    · split
      · rfl
      · split <;> rfl
  · rfl

theorem portsTold_rotationAct (r : RegionId) (g : Region) (v : Verdict) (s : State) : PortsTold s (rotationAct r g v s) := by
  have hcut := portsTold_of_ports (ports_cutSpot r s)
  unfold rotationAct
  extract_lets u t
  have ht : PortsTold s t := by
    unfold t u
    split
    · exact PortsTold.refl s
    · split
      · split
        · exact hcut.trans (portsTold_settle ..)
        · exact hcut
      · exact PortsTold.refl s
  split
  · exact ht.trans (portsTold_of_ports (ports_selectSpot ..))
  · exact ht

theorem portsTold_interruptPass (r : RegionId) (x : Pass) (s : State) : PortsTold s (interruptPass r x s) := by
  unfold interruptPass
  simp only
  split
  · exact (portsTold_tellSubmitter ..).after rfl
  · exact portsTold_of_ports rfl

theorem portsTold_completePass (r : RegionId) (x : Pass) (s : State) : PortsTold s (completePass r x s) := by
  unfold completePass
  simp only
  split
  · exact (portsTold_tellSubmitter ..).after rfl
  · split
    · exact (portsTold_tellSubmitter ..).after rfl
    · exact portsTold_of_ports rfl

theorem portsTold_countPass (r : RegionId) (s : State) : PortsTold s (countPass r s) := by
  unfold countPass
  split
  · split
    · exact PortsTold.refl s
    · split
      · exact portsTold_interruptPass ..
      · split
        · exact portsTold_completePass ..
        · exact portsTold_of_ports rfl
  · exact PortsTold.refl s

theorem ports_startPass (r : RegionId) (g : Region) (s : State) : (startPass r g s).ports = s.ports := by
  unfold startPass
  split <;> rfl

theorem portsTold_messageAct (r : RegionId) (g : Region) (v : Verdict) (s : State) : PortsTold s (messageAct r g v s) := by
  unfold messageAct
  extract_lets t u
  have ht : PortsTold s t := by
    unfold t
    split
    · exact PortsTold.refl s
    · split
      · split
        · exact portsTold_interruptPass ..
        · exact PortsTold.refl s
      · exact PortsTold.refl s
  have hu : PortsTold s u := by
    unfold u
    split
    · exact ht.trans (portsTold_of_ports (ports_startPass ..))
    · exact ht
  exact hu.trans (portsTold_settle ..)

theorem portsTold_evaluate (r : RegionId) (s : State) : PortsTold s (evaluate r s) := by
  unfold evaluate
  split
  · exact PortsTold.refl s
  next g _ =>
  split
  · exact PortsTold.refl s
  · have hcount : PortsTold s (countPass r (countSpot r g s)) :=
      (portsTold_of_ports (ports_countSpot ..)).trans (portsTold_countPass ..)
    exact (hcount.trans (portsTold_arbitrate r g _)).trans
      ((portsTold_rotationAct ..).trans ((portsTold_messageAct ..).trans (portsTold_setClaims ..)))

/-! ### The rotation, the messages and the clock (R125, R132, R158, R168, R95 to R98) -/

theorem portsTold_replaceRotation (plan : Plan) (cause : Nat) (s : State) : PortsTold s (replaceRotation plan cause s) := by
  unfold replaceRotation
  simp only
  exact (portsTold_notifySponsors ..).trans ((portsTold_settleAll ..).after rfl)

theorem portsTold_periodBoundary (n : Nat) (s : State) : PortsTold s (periodBoundary n s) := by
  have h := portsTold_notifySponsors (s.rotation.contracts.map (periodReport s.frame n)) s
  unfold periodBoundary
  simp only
  split
  · exact h.trans (portsTold_of_ports rfl)
  · exact h.trans ((portsTold_replaceRotation ..).after rfl)

theorem portsTold_lapseHeld (s : State) : PortsTold s (lapseHeld s) :=
  (portsTold_foldl (fun _ _ => portsTold_tellSubmitter ..) _ (setHeld _ s)).after rfl

theorem portsTold_startedPasses (s : State) : PortsTold s (startedPasses s) := (portsTold_settleAll ..).after rfl

theorem portsTold_resetMessages (s : State) : PortsTold s (resetMessages s) := (portsTold_settleAll ..).after rfl

theorem portsTold_captureEvent (source : CaptureSource) (port : Option PortId) (s : State) : PortsTold s (captureEvent source port s) := by
  unfold captureEvent
  simp only
  split
  · exact portsTold_of_ports rfl
  · exact (portsTold_notifyAll ..).after rfl

theorem portsTold_mainExpiry (s : State) : PortsTold s (mainExpiry s) :=
  ((portsTold_captureEvent ..).trans (portsTold_tellClock ..)).after rfl

theorem portsTold_possessionExpiry (s : State) : PortsTold s (possessionExpiry s) :=
  ((portsTold_captureEvent ..).trans (portsTold_tellClock ..)).after rfl

theorem portsTold_clockStep (s : State) : PortsTold s (clockStep s) := by
  unfold clockStep
  extract_lets k t u v
  have hu : PortsTold s u := by
    unfold u
    split
    · exact (portsTold_possessionExpiry t).after rfl
    · exact portsTold_of_ports rfl
  have hv : PortsTold s v := by
    unfold v
    split
    · exact hu.trans (portsTold_mainExpiry u)
    · exact hu
  exact hv.trans (portsTold_of_ports rfl)

theorem portsTold_whistleEdge (s : State) : PortsTold s (whistleEdge s) := by
  unfold whistleEdge whistleTaken
  split
  · exact PortsTold.refl s
  · extract_lets t
    split
    · exact ((portsTold_captureEvent ..).trans (portsTold_tellClock ..)).after rfl
    · exact (portsTold_captureEvent ..).after rfl

/-! ### Monitors (R59, R60) -/

theorem portsTold_raise (m : MonitorId) (r : Option RegionId) (s : State) : PortsTold s (raise m r s) := by
  unfold raise
  simp only
  split
  · exact PortsTold.refl s
  · split
    · exact (portsTold_notify ..).after rfl
    · exact portsTold_of_ports rfl

theorem portsTold_lower (m : MonitorId) (s : State) : PortsTold s (lower m s) := portsTold_of_ports rfl

theorem ports_dropHeld (i : InputId) (s : State) : (dropHeld i s).ports = s.ports := by
  unfold dropHeld
  split
  · rfl
  · cases i <;> rfl

/-! ### Asset memory (R174 to R185) -/

theorem portsSound_tellUpload (p : PortId) (r : Reply) (s : State) : PortsSound s (tellUpload p r s) :=
  portsSound_updatePort rfl (sound_answerUpload r)

theorem portsSound_reclaimOn (x : Reclaim) (s : State) : PortsSound s (reclaimOn x s) := by
  unfold reclaimOn
  split
  · exact portsSound_of_ports rfl
  · exact portsSound_updatePort rfl (sound_answerReclaim x.reply)

theorem portsSound_programEnd (ok : Bool) (s : State) : PortsSound s (programEnd ok s) := by
  unfold programEnd
  split
  · split
    · exact (portsSound_tellUpload ..).after rfl
    · exact ((portsSound_tellUpload ..).trans (portsTold_notifyAll ..).sound).after rfl
  · exact PortsSound.refl s

theorem portsSound_markEnd (ok : Bool) (s : State) : PortsSound s (markEnd ok s) := by
  unfold markEnd
  split
  · simp only
    split
    · exact portsSound_of_ports rfl
    · exact (portsTold_notify ..).sound.after rfl
  · exact PortsSound.refl s

theorem portsSound_judgeBlock (s : State) : PortsSound s (judgeBlock s) := by
  unfold judgeBlock
  split
  · exact PortsSound.refl s
  · split
    · exact PortsSound.refl s
    · split
      · exact portsSound_of_ports rfl
      · exact portsSound_reclaimOn ..

theorem portsSound_eraseEnd (ok : Bool) (s : State) : PortsSound s (eraseEnd ok s) := by
  unfold eraseEnd
  split
  · simp only
    split
    · exact (portsSound_reclaimOn ..).after rfl
    · exact ((portsTold_notifyAll ..).sound.trans (portsSound_reclaimOn ..)).after rfl
  · exact PortsSound.refl s

theorem portsSound_timeLimit (s : State) : PortsSound s (timeLimit s) := by
  unfold timeLimit opEnd
  split
  · split
    · exact PortsSound.refl s
    · split
      · exact portsSound_programEnd ..
      · exact portsSound_markEnd ..
      · exact portsSound_eraseEnd ..
  · exact PortsSound.refl s

theorem ports_uploadOwnerLost (p : PortId) (s : State) : (uploadOwnerLost p s).ports = s.ports := by
  unfold uploadOwnerLost
  split
  · rfl
  · split
    · rfl
    · split <;> rfl

theorem ports_buildOwnerLost (p : PortId) (s : State) : (buildOwnerLost p s).ports = s.ports := by
  unfold buildOwnerLost
  split
  · split <;> rfl
  · rfl

theorem ports_mapClaims (f : RegionId → RegionClaims → RegionClaims) (s : State) : (mapClaims f s).ports = s.ports := by
  unfold mapClaims
  rfl

theorem ports_portLost (p : PortId) (s : State) : (portLost p s).ports = s.ports := by
  rw [portLost, ports_buildOwnerLost, ports_uploadOwnerLost, releaseClaims, ports_mapClaims]

end Sys2Proof.Machine
end

section
/-! SUPPORT. The conditions of the monitor table that follow a state of the part (R46, R59, R79, R99, R199), and the operations that keep them. -/

namespace Sys2Proof.Machine

-- The proofs are checked one after another: side by side they ask for more threads than the memory limit leaves.
set_option Elab.async false

/-! ### The monitors that `MonitorLaw` is about -/

/-- What a monitor of `MonitorLaw` reports. -/
inductive Cause where
  | genlock
  | unsupervised
  | silent (p : PortId)
  | down (k : LinkId)

/-- The monitor that reports it (R59). -/
def Cause.monitor : Cause → MonitorId
  | .genlock => monGenlock
  | .unsupervised => monUnsupervised
  | .silent p => monSilent p
  | .down k => monDown k

/-- Whether it is present in the part. -/
def State.present (s : State) : Cause → Bool
  | .genlock => !s.comp.locked
  | .unsupervised => s.clock.unsupervised
  | .silent p => (s.port p).silent
  | .down k => (s.link k).frame.isSome && (s.link k).down

theorem monitorLaw_iff (s : State) : MonitorLaw s ↔ ∀ c : Cause, (s.monitor c.monitor).condition = s.present c := by
  constructor
  · rintro ⟨hg, hu, hs, hd⟩ c
    cases c
    · exact hg
    · exact hu
    · exact hs _
    · exact hd _
  · exact fun h => ⟨h .genlock, h .unsupervised, fun p => h (.silent p), fun k => h (.down k)⟩

/-- The place of a cause's monitor in the table of R59. -/
theorem cause_monitor_val (c : Cause) : c.monitor.val = (match c with
    | .genlock => 4
    | .unsupervised => 35
    | .silent p => 29 + p.val
    | .down k => 5 + k.val) := by
  cases c <;> rfl

theorem cause_monitor_injective {c d : Cause} (h : c.monitor = d.monitor) : c = d := by
  have hv := congrArg Fin.val h
  rw [cause_monitor_val, cause_monitor_val] at hv
  cases c <;> cases d <;> simp only at hv
  case silent.silent p q => rw [Fin.ext (a := p) (b := q) (by omega)]
  case down.down k l => rw [Fin.ext (a := k) (b := l) (by omega)]
  case genlock.genlock => rfl
  case unsupervised.unsupervised => rfl
  all_goals omega

theorem monLost_ne (i : InputId) (c : Cause) : c.monitor ≠ monLost i := by
  intro h
  have hv := congrArg Fin.val h
  rw [cause_monitor_val] at hv
  cases c <;> cases i <;> simp only [monLost, Fin.val_zero, Fin.val_one] at hv <;> omega

theorem monShort_ne (i : InputId) (c : Cause) : c.monitor ≠ monShort i := by
  intro h
  have hv := congrArg Fin.val h
  rw [cause_monitor_val] at hv
  cases c <;> cases i <;> simp only [monShort] at hv <;> omega

theorem monIncomplete_ne (k : LinkId) (c : Cause) : c.monitor ≠ monIncomplete k := by
  intro h
  have hv := congrArg Fin.val h
  rw [cause_monitor_val] at hv
  cases c <;> simp only [monIncomplete] at hv <;> omega

theorem monRetry_ne (k : LinkId) (c : Cause) : c.monitor ≠ monRetry k := by
  intro h
  have hv := congrArg Fin.val h
  rw [cause_monitor_val] at hv
  cases c <;> simp only [monRetry] at hv <;> omega

/-! ### One condition rises or clears (R59, R60) -/

theorem monitor_notify (p : PortId) (n : Notice) (s : State) (m : MonitorId) : (notify p n s).monitor m = s.monitor m := rfl

theorem monitor_raise (m n : MonitorId) (r : Option RegionId) (s : State) :
    (raise m r s).monitor n = if n = m ∧ (s.monitor m).condition = false then (s.monitor m).rise else s.monitor n := by
  unfold raise
  simp only
  split
  · next h => simp [h]
  · next h =>
    rw [Bool.not_eq_true] at h
    have hset : (s.setMonitor m (s.monitor m).rise).monitor n = if n = m ∧ (s.monitor m).condition = false then
      (s.monitor m).rise else s.monitor n := by
      rw [monitor_setMonitor]
      simp [h]
    split
    · rw [monitor_notify, hset]
    · exact hset

theorem condition_raise (m n : MonitorId) (r : Option RegionId) (s : State) :
    ((raise m r s).monitor n).condition = if n = m then true else (s.monitor n).condition := by
  rw [monitor_raise]
  by_cases hn : n = m
  · subst hn
    cases h : (s.monitor n).condition <;> simp [h, Monitor.rise]
  · simp [hn]

theorem condition_lower (m n : MonitorId) (s : State) :
    ((lower m s).monitor n).condition = if n = m then false else (s.monitor n).condition := by
  unfold lower
  rw [monitor_setMonitor]
  split <;> rfl

theorem latchLaw_setMonitor {s : State} {m : MonitorId} {x : Monitor} (hs : LatchLaw s)
    (hx : ((s.monitor m).latched = true → (s.monitor m).latch = true) → x.latched = true → x.latch = true) : LatchLaw (s.setMonitor m x) := by
  intro n
  rw [monitor_setMonitor]
  split
  · exact hx (hs m)
  · exact hs n

theorem latchLaw_raise {s : State} (m : MonitorId) (r : Option RegionId) (hs : LatchLaw s) : LatchLaw (raise m r s) := by
  intro n
  rw [monitor_raise]
  split
  · have := hs m
    simp only [Monitor.rise, Bool.or_eq_true]
    exact fun h => h.elim this id
  · exact hs n

theorem latchLaw_lower {s : State} (m : MonitorId) (hs : LatchLaw s) : LatchLaw (lower m s) := latchLaw_setMonitor hs id

/-! ### Conditions that follow -/

/-- Every condition of `MonitorLaw` is as it was, and so is what it reports; or it is what it reports. Latched flags keep their law. -/
structure MonitorsSound (s t : State) : Prop where
  follows : ∀ c : Cause, ((t.monitor c.monitor).condition = (s.monitor c.monitor).condition ∧ t.present c = s.present c)
    ∨ (t.monitor c.monitor).condition = t.present c
  latches : LatchLaw s → LatchLaw t

theorem MonitorsSound.refl (s : State) : MonitorsSound s s := ⟨fun _ => .inl ⟨rfl, rfl⟩, id⟩

theorem MonitorsSound.trans {s t u : State} (h : MonitorsSound s t) (k : MonitorsSound t u) : MonitorsSound s u := by
  refine ⟨fun c => ?_, k.latches ∘ h.latches⟩
  rcases k.follows c with ⟨kc, kp⟩ | k
  · rcases h.follows c with ⟨hc, hp⟩ | h
    · exact .inl ⟨kc.trans hc, kp.trans hp⟩
    · exact .inr (kc.trans (h.trans kp.symm))
  · exact .inr k

theorem MonitorsSound.law {s t : State} (h : MonitorsSound s t) (hs : MonitorLaw s) : MonitorLaw t := by
  rw [monitorLaw_iff] at hs ⊢
  intro c
  rcases h.follows c with ⟨hc, hp⟩ | h
  · rw [hc, hs c, hp]
  · exact h

/-- What the causes read: the genlock state, the clock's flag, the ports' silence and the links. -/
theorem present_congr {s t : State} (hl : t.comp.locked = s.comp.locked) (hu : t.clock.unsupervised = s.clock.unsupervised)
    (hp : ∀ p, (t.port p).silent = (s.port p).silent)
    (hk : ∀ k, ((t.link k).frame.isSome && (t.link k).down) = ((s.link k).frame.isSome && (s.link k).down)) (c : Cause) :
    t.present c = s.present c := by
  cases c
  · simp [State.present, hl]
  · simp [State.present, hu]
  · simp [State.present, hp]
  · simp [State.present, hk]

/-- Another monitor than those of `MonitorLaw` rises or clears. -/
theorem monitorsSound_raise {m : MonitorId} (hm : ∀ c : Cause, c.monitor ≠ m) (r : Option RegionId) (s : State) : MonitorsSound s (raise m r s) := by
  refine ⟨fun c => .inl ⟨by rw [condition_raise, if_neg (hm c)], ?_⟩, latchLaw_raise m r⟩
  have h : Only [.monitors] s (raise m r s) := by simp
  exact present_congr (by rw [h.comp]) (by rw [h.2 .clock (by simp)]) (fun p => ((portsTold_raise m r s).sound.port p).silent)
    (fun k => by rw [State.link, State.link, show (raise m r s).links = s.links from h.2 .links (by simp)]) c

theorem monitorsSound_lower {m : MonitorId} (hm : ∀ c : Cause, c.monitor ≠ m) (s : State) : MonitorsSound s (lower m s) :=
  ⟨fun c => .inl ⟨by rw [condition_lower, if_neg (hm c)], present_congr rfl rfl (fun _ => rfl) (fun _ => rfl) c⟩, latchLaw_lower m⟩

/-- One cause comes about or ends, and its condition with it. -/
theorem monitorsSound_turn {s t : State} (d : Cause) (hd : (t.monitor d.monitor).condition = t.present d)
    (hc : ∀ n, n ≠ d.monitor → (t.monitor n).condition = (s.monitor n).condition) (hp : ∀ c, c ≠ d → t.present c = s.present c)
    (hlatch : LatchLaw s → LatchLaw t) : MonitorsSound s t := by
  refine ⟨fun c => ?_, hlatch⟩
  by_cases h : c.monitor = d.monitor
  · rw [cause_monitor_injective h]
    exact .inr hd
  · exact .inl ⟨hc _ h, hp c fun hcd => h (by rw [hcd])⟩

/-! ### Steady operations -/

/-- What every operation leaves that neither takes a request nor changes a role or a port's silence. -/
structure Steady (s t : State) : Prop where
  straps : t.dirsel = s.dirsel
  ports : PortsSound s t
  monitors : MonitorsSound s t

theorem Steady.refl (s : State) : Steady s s := ⟨rfl, PortsSound.refl s, MonitorsSound.refl s⟩

theorem Steady.trans {s t u : State} (h : Steady s t) (k : Steady t u) : Steady s u :=
  ⟨k.straps.trans h.straps, h.ports.trans k.ports, h.monitors.trans k.monitors⟩

theorem steady_foldl {α : Type} {f : State → α → State} (hf : ∀ u a, Steady u (f u a)) (l : List α) (s : State) : Steady s (l.foldl f s) := by
  induction l generalizing s with
  | nil => exact Steady.refl s
  | cons a rest ih => exact (hf s a).trans (ih _)

/-- An operation that leaves the monitors, the genlock state, the clock's flag and the links. -/
theorem steady_of {parts : List Part} {s t : State} (h : Only parts s t) (hp : PortsSound s t) (hl : t.comp.locked = s.comp.locked)
    (hu : t.clock.unsupervised = s.clock.unsupervised) (hs : .straps ∉ parts := by simp) (hm : .monitors ∉ parts := by simp)
    (hk : .links ∉ parts := by simp) : Steady s t := by
  have hmon : t.monitors = s.monitors := h.2 .monitors hm
  have hlinks : t.links = s.links := h.2 .links hk
  refine ⟨(h.2 .straps hs).1, hp, ⟨fun c => .inl ⟨by simp [State.monitor, hmon], ?_⟩, fun hL m => by simpa [State.monitor, hmon] using hL m⟩⟩
  exact present_congr hl hu (fun p => (hp.port p).silent) (fun k => by simp [State.link, hlinks]) c

theorem Only.steady {parts : List Part} {s t : State} (h : Only parts s t) (hp : PortsSound s t) (hs : .straps ∉ parts := by simp)
    (hm : .monitors ∉ parts := by simp) (hk : .links ∉ parts := by simp) (hc : .comp ∉ parts := by simp)
    (hx : .clock ∉ parts := by simp) : Steady s t := by
  refine steady_of h hp ?_ ?_ hs hm hk
  · rw [show t.comp = s.comp from h.2 .comp hc]
  · rw [show t.clock = s.clock from h.2 .clock hx]

theorem steady_raise {m : MonitorId} (hm : ∀ c : Cause, c.monitor ≠ m) (r : Option RegionId) (s : State) : Steady s (raise m r s) :=
  ⟨(((only_raise (parts := [.monitors]) (by simp) m r).mpr only_rfl).2 .straps (by simp)).1, (portsTold_raise m r s).sound,
    monitorsSound_raise hm r s⟩

theorem steady_lower {m : MonitorId} (hm : ∀ c : Cause, c.monitor ≠ m) (s : State) : Steady s (lower m s) :=
  ⟨rfl, (portsTold_lower m s).sound, monitorsSound_lower hm s⟩

theorem steady_settleMonitor {m : MonitorId} (hm : ∀ c : Cause, c.monitor ≠ m) (b : Bool) (s : State) : Steady s (settleMonitor m b s) := by
  unfold settleMonitor
  split
  · exact steady_raise hm none s
  · exact steady_lower hm s

theorem steady_pump (s : State) : Steady s (pump s) := Only.steady (parts := []) (by simp) (portsSound_pump s)

/-! ### Inputs and the composed map (R52 to R58) -/

theorem steady_dropHeld (i : InputId) (s : State) : Steady s (dropHeld i s) :=
  Only.steady (parts := [.inputs]) (by simp) (portsSound_of_ports (ports_dropHeld i s))

theorem steady_setInput (i : InputId) (x : PictureInput) (s : State) : Steady s (s.setInput i x) :=
  Only.steady (parts := [.inputs]) (by simp) (portsSound_of_ports (by cases i <;> rfl))

theorem steady_inputArrival (i : InputId) (width height : Nat) (tiles : List Nat) (s : State) : Steady s (inputArrival i width height tiles s) := by
  unfold inputArrival
  split
  · exact Steady.refl s
  · exact (steady_setInput ..).trans ((steady_lower (monLost_ne i) _).trans (steady_dropHeld ..))

theorem steady_inputTick (i : InputId) (s : State) : Steady s (inputTick i s) := by
  unfold inputTick
  simp only
  split
  · exact (steady_setInput ..).trans (steady_raise (monLost_ne i) ..)
  · exact Steady.refl s

theorem steady_settleShort (i : InputId) (s : State) : Steady s (settleShort i s) := by
  unfold settleShort
  split
  · exact steady_raise (monShort_ne i) ..
  · exact steady_lower (monShort_ne i) ..

theorem steady_compose (s : State) : Steady s (compose s) := by
  have h : Steady s { s with comp := { s.comp with map := some (buildMap s), previous := s.comp.map }, score := s.score.useFlash } :=
    steady_of (parts := [.comp, .score]) (by simp [only_iff]) (portsSound_of_ports rfl) rfl rfl
  exact h.trans ((steady_settleShort .pa _).trans (steady_settleShort .pb _))

/-! ### Genlock (R45 to R47) -/

theorem present_other {s t : State} {d : Cause} (hl : d ≠ .genlock → t.comp.locked = s.comp.locked)
    (hu : d ≠ .unsupervised → t.clock.unsupervised = s.clock.unsupervised) (hp : ∀ p, d ≠ .silent p → (t.port p).silent = (s.port p).silent)
    (hk : ∀ k, d ≠ .down k → ((t.link k).frame.isSome && (t.link k).down) = ((s.link k).frame.isSome && (s.link k).down)) :
    ∀ c, c ≠ d → t.present c = s.present c := by
  intro c hc
  cases c
  · simp [State.present, hl hc.symm]
  · simp [State.present, hu hc.symm]
  · simp [State.present, hp _ hc.symm]
  · simp [State.present, hk _ hc.symm]

/-- The compositor changes, and the Genlock condition with its state (R46, R47). -/
theorem steady_genlock {s t : State} (h : Only [.comp, .monitors] s t) (hp : PortsSound s t)
    (hc : ∀ n, n ≠ monGenlock → (t.monitor n).condition = (s.monitor n).condition) (hg : (t.monitor monGenlock).condition = !t.comp.locked)
    (hlatch : LatchLaw s → LatchLaw t) : Steady s t := by
  refine ⟨(h.2 .straps (by simp)).1, hp, monitorsSound_turn .genlock hg hc (present_other (absurd rfl) (fun _ => ?_)
    (fun p _ => ?_) fun k _ => ?_) hlatch⟩
  · rw [show t.clock = s.clock from h.2 .clock (by simp)]
  · exact (hp.port p).silent
  · rw [State.link, State.link, show t.links = s.links from h.2 .links (by simp)]

theorem steady_lockTo (n : Nat) (s : State) : Steady s (lockTo n s) := by
  have h : Only [.comp, .monitors] s (lockTo n s) := by simp
  unfold lockTo at h ⊢
  simp only at h ⊢
  split
  · next hl => exact steady_of (parts := [.comp]) (by simp) (portsSound_of_ports rfl) hl.symm rfl
  · next hl =>
    rw [if_neg hl] at h
    refine steady_genlock h (portsSound_of_ports rfl) (fun m hm => ?_) ?_ fun hL => latchLaw_lower _ hL
    · rw [condition_lower, if_neg hm]
      rfl
    · rw [condition_lower, if_pos rfl]
      rfl

theorem steady_genlockLoss (n : Nat) (s : State) : Steady s (genlockLoss n s) := by
  have h := only_genlockLoss (s := s) n
  unfold genlockLoss at h ⊢
  split
  · next hd =>
    rw [if_pos hd] at h
    refine steady_genlock h ((portsTold_raise ..).sound.after rfl) (fun m hm => ?_) ?_ fun hL => latchLaw_raise _ _ hL
    · rw [condition_raise, if_neg hm]
      rfl
    · have hcomp := ((only_raise (parts := [.monitors]) (by simp) monGenlock none).mpr
        (only_rfl (s := { s with comp := { s.comp with locked := false } }))).comp
      rw [condition_raise, if_pos rfl, hcomp]
      rfl
  · exact Steady.refl s

/-! ### Panel links (R67 to R79) -/

/-- A link's own part changes, and its Down condition has nothing to follow. -/
theorem steady_setLinkWhere {s : State} {k : LinkId} {x : Link} (h : (x.frame.isSome && x.down) = ((s.link k).frame.isSome && (s.link k).down)) :
    Steady s (s.setLink k x) := by
  refine ⟨rfl, portsSound_of_ports rfl, ⟨fun c => .inl ⟨rfl, present_congr (s := s) (t := s.setLink k x) rfl rfl (fun _ => rfl) (fun n => ?_) c⟩,
    fun hL m => hL m⟩⟩
  rw [link_setLink]
  split
  · next hn => rw [hn, h]
  · rfl

theorem steady_setLink {s : State} {k : LinkId} {x : Link} (hf : x.frame.isSome = (s.link k).frame.isSome) (hd : x.down = (s.link k).down) :
    Steady s (s.setLink k x) := steady_setLinkWhere (by rw [hf, hd])

theorem link_endSlot (l : Link) : l.endSlot.frame = l.frame ∧ l.endSlot.down = l.down := by
  unfold Link.endSlot
  split <;> exact ⟨rfl, rfl⟩

theorem link_openSlot (k : LinkId) (map : Option ComposedMap) (l : Link) :
    (l.openSlot k map).frame = l.frame ∧ (l.openSlot k map).down = l.down := by
  unfold Link.openSlot
  simp only
  split
  · exact ⟨rfl, rfl⟩
  · split
    · exact ⟨rfl, rfl⟩
    · split <;> exact ⟨rfl, rfl⟩

theorem link_result (ack : Bool) (l : Link) : (l.result ack).frame = l.frame ∧ (l.result ack).down = l.down := by
  unfold Link.result
  split
  · exact ⟨rfl, rfl⟩
  · simp only
    split
    · split <;> exact ⟨rfl, rfl⟩
    · split
      · exact ⟨rfl, rfl⟩
      · unfold Link.nacked
        simp only
        split <;> exact ⟨rfl, rfl⟩

theorem steady_changeLink {k : LinkId} {f : Link → Link} {s : State} (h : (f (s.link k)).frame = (s.link k).frame ∧ (f (s.link k)).down =
    (s.link k).down) :
    Steady s (changeLink k f s) := by
  have hset : Steady s (s.setLink k (f (s.link k))) := steady_setLink (by rw [h.1]) h.2
  unfold changeLink
  simp only
  split
  · exact hset.trans (steady_raise (monRetry_ne k) ..)
  · exact hset

theorem steady_takeRecord (d : DeliveryRecord) (s : State) : Steady s (takeRecord d s) := by
  have h : Only [.rotation, .exposure, .comp] s (takeRecord d s) := by simp
  have hrest : (takeRecord d s).ports = s.ports ∧ (takeRecord d s).comp.locked = s.comp.locked := by
    unfold takeRecord
    simp only
    split
    · split <;> exact ⟨rfl, rfl⟩
    · exact ⟨rfl, rfl⟩
  exact steady_of h (portsSound_of_ports hrest.1) hrest.2 (by rw [show (takeRecord d s).clock = s.clock from h.2 .clock (by simp)])

theorem steady_closeFrame {k : LinkId} (f : FrameNo) {s : State} (hf : (s.link k).frame.isSome = true) : Steady s (closeFrame k f s) := by
  unfold closeFrame
  extract_lets l d t u
  have hl := link_endSlot (s.link k)
  have h1 : Steady s (s.setLink k { l with record := some d }) := steady_setLink (by rw [← hl.1]) hl.2
  have ht : Steady s t := h1.trans (steady_takeRecord ..)
  have hu : Steady s u := ht.trans ((steady_settleMonitor (monIncomplete_ne k) ..).trans (steady_settleMonitor (monRetry_ne k) ..))
  refine hu.trans (steady_setLink ?_ rfl)
  have hlink : u.link k = (s.setLink k { l with record := some d }).link k := by
    have hO : Only [.rotation, .exposure, .comp, .monitors] (s.setLink k { l with record := some d }) u := by simp [u, t]
    simp only [State.link, show u.links = _ from hO.2 .links (by simp)]
  rw [hlink, link_setLink_self]
  exact (hl.1 ▸ hf).symm

theorem steady_forceClose (k : LinkId) (s : State) : Steady s (forceClose k s) := by
  unfold forceClose
  split
  · exact Steady.refl s
  · next f hf =>
    have hsome : (s.link k).frame.isSome = true := by
      unfold Link.toClose at hf
      split at hf
      · cases hf
      · next h => simp [h]
    have hl := link_result false (s.link k)
    refine (steady_changeLink hl).trans (steady_closeFrame f ?_)
    have hO : Only [.monitors] (s.setLink k ((s.link k).result false)) (changeLink k (Link.result false) s) := by
      unfold changeLink
      simp only
      split <;> simp
    rw [State.link, show (changeLink k (Link.result false) s).links = _ from hO.2 .links (by simp)]
    rw [show (s.setLink k ((s.link k).result false)).links.get k = (s.setLink k ((s.link k).result false)).link k from rfl, link_setLink_self, hl.1]
    exact hsome

theorem steady_forceCloseAll (s : State) : Steady s (forceCloseAll s) := steady_foldl (fun u k => steady_forceClose k u) _ s

theorem steady_slotStart (k : LinkId) (s : State) : Steady s (slotStart k s) := by
  unfold slotStart
  extract_lets t
  have ht : Steady s t := steady_forceClose k s
  split
  · exact ht
  · refine ht.trans (steady_changeLink ?_)
    obtain ⟨h1, h2⟩ := link_openSlot k t.comp.map (((t.link k).result false).endSlot)
    obtain ⟨h3, h4⟩ := link_endSlot ((t.link k).result false)
    obtain ⟨h5, h6⟩ := link_result false (t.link k)
    exact ⟨h1.trans (h3.trans h5), h2.trans (h4.trans h6)⟩

theorem steady_slotEnd (k : LinkId) (s : State) : Steady s (slotEnd k s) := by
  unfold slotEnd
  split
  · obtain ⟨h3, h4⟩ := link_endSlot ((s.link k).result false)
    obtain ⟨h5, h6⟩ := link_result false (s.link k)
    exact steady_changeLink ⟨h3.trans h5, h4.trans h6⟩
  · exact Steady.refl s

theorem steady_frameClose (k : LinkId) (s : State) : Steady s (frameClose k s) := by
  unfold frameClose
  split
  · exact Steady.refl s
  · exact steady_forceClose k s

/-- A link changes, and its Down condition with it (R75, R76, R79). -/
theorem steady_down {k : LinkId} {s t : State} (h : Only [.links, .monitors] s t) (hp : PortsSound s t)
    (hk : ∀ n, n ≠ k → t.link n = s.link n) (hc : ∀ n, n ≠ monDown k → (t.monitor n).condition = (s.monitor n).condition)
    (hd : (t.monitor (monDown k)).condition = ((t.link k).frame.isSome && (t.link k).down)) (hlatch : LatchLaw s → LatchLaw t) :
    Steady s t := by
  refine ⟨(h.2 .straps (by simp)).1, hp, monitorsSound_turn (.down k) hd hc (present_other (fun _ => ?_) (fun _ => ?_) (fun p _ => ?_)
    fun n hn => ?_) hlatch⟩
  · rw [show t.comp = s.comp from h.2 .comp (by simp)]
  · rw [show t.clock = s.clock from h.2 .clock (by simp)]
  · exact (hp.port p).silent
  · rw [hk n fun hnk => hn (by rw [hnk])]

/-- From its first tick on a link sends frames, and a link that is not Down after a tick was not Down before it. -/
theorem link_tick (f : FrameNo) (l : Link) : (l.tick f).frame.isSome = true ∧ ((l.tick f).down = false → l.down = false) := by
  have hframe : ∀ x : Link, (if x.frame.isNone then x.begin f else x).frame.isSome = true := by
    intro x
    cases h : x.frame <;> simp [h, Link.begin]
  have hdown : ∀ x : Link, (if x.frame.isNone then x.begin f else x).down = x.down := by
    intro x
    split <;> rfl
  unfold Link.tick
  refine ⟨hframe _, fun h => ?_⟩
  have hd := (hdown _).symm.trans h
  by_cases hg : l.goesDown f = true
  · simp [hg] at hd
  · simpa [hg] using hd

theorem steady_linkTick (k : LinkId) (s : State) : Steady s (linkTick k s) := by
  obtain ⟨hframe, hstay⟩ := link_tick s.frame (s.link k)
  have hO : Only [.links, .monitors] s (linkTick k s) := by
    simp only [linkTick]
    split <;> simp
  unfold linkTick at hO ⊢
  simp only [link_setLink_self] at hO ⊢
  split
  · next hd =>
    rw [if_pos hd] at hO
    have hlink : ∀ n, (raise (monDown k) none (s.setLink k ((s.link k).tick s.frame))).link n = (s.setLink k ((s.link k).tick s.frame)).link n :=
      fun n => by
        exact congrArg (fun v => v.get n) (((only_raise (parts := [.monitors]) (by simp) (monDown k) none).mpr only_rfl).2 .links (by simp))
    refine steady_down (k := k) hO ((portsTold_raise ..).sound.after rfl) (fun n hn => ?_) (fun m hm => ?_) ?_ fun hL => latchLaw_raise _ _ hL
    · rw [hlink, link_setLink, if_neg hn]
    · rw [condition_raise, if_neg hm]
      rfl
    · rw [condition_raise, if_pos rfl, hlink, link_setLink_self, hframe, hd]
      rfl
  · next hd =>
    rw [Bool.not_eq_true] at hd
    exact steady_setLinkWhere (by rw [hd, hstay hd, Bool.and_false, Bool.and_false])

theorem steady_linksTick (s : State) : Steady s (linksTick s) := steady_foldl (fun u k => steady_linkTick k u) _ s

/-- A status that meets a Down link brings it Up, and its condition clears (R76, R79). -/
theorem steady_comesUp {k : LinkId} {s : State} {f : Link → Link} (hf : (f (s.link k)).down = false) :
    Steady s (changeLink k f (lower (monDown k) s)) := by
  have hset : Steady s ((lower (monDown k) s).setLink k (f (s.link k))) := by
    refine steady_down (k := k) (by simp) (portsSound_of_ports rfl) (fun n hn => ?_) (fun m hm => ?_) ?_ fun hL => latchLaw_lower _ hL
    · rw [link_setLink, if_neg hn]
      rfl
    · exact (condition_lower ..).trans (if_neg hm)
    · rw [link_setLink_self, hf, Bool.and_false]
      exact (condition_lower ..).trans (if_pos rfl)
  unfold changeLink
  simp only
  split
  · exact hset.trans (steady_raise (monRetry_ne k) ..)
  · exact hset

theorem steady_statusTaken (k : LinkId) (ack room : Bool) (group : Fin 8) (hold : Byte) (afterLast : Bool) (s : State) :
    Steady s (statusTaken k ack room group hold afterLast s) := by
  have hkept : ∀ l : Link, ((if afterLast then l.comeUp.result ack else l.comeUp).applyStatus room group.val hold.toNat s.frame).frame = l.frame
      ∧ ((if afterLast then l.comeUp.result ack else l.comeUp).applyStatus room group.val hold.toNat s.frame).down = false := by
    intro l
    obtain ⟨hf, hd⟩ := link_result ack l.comeUp
    have hup : l.comeUp.frame = l.frame ∧ l.comeUp.down = false := by
      unfold Link.comeUp
      split
      · exact ⟨rfl, rfl⟩
      · next h => exact ⟨rfl, by simpa using h⟩
    unfold Link.applyStatus
    cases afterLast
    · exact hup
    · exact ⟨hf.trans hup.1, hd.trans hup.2⟩
  unfold statusTaken
  simp only
  by_cases h : (s.link k).down = true
  · rw [if_pos h]
    exact steady_comesUp (hkept (s.link k)).2
  · rw [if_neg h]
    rw [Bool.not_eq_true] at h
    exact steady_changeLink ⟨(hkept (s.link k)).1, (hkept (s.link k)).2.trans h.symm⟩

/-! ### The tick (R45 to R48) -/

theorem steady_advance (n : Nat) (s : State) : Steady s (advance n s) :=
  steady_of (parts := [.comp]) (by simp) (portsSound_of_ports rfl) rfl rfl

theorem steady_evaluate (r : RegionId) (s : State) : Steady s (evaluate r s) := by
  have hO : Only [.canvas, .arbiter, .rotation, .messages] s (evaluate r s) := by
    unfold evaluate
    split
    · exact only_rfl
    next g _ =>
    split
    · exact only_rfl
    · have hcount : Only [.canvas, .arbiter, .rotation, .messages] s (countPass r (countSpot r g s)) := by simp
      have hact (v : Verdict) (u : State) : Only [.arbiter, .rotation, .messages] u (messageAct r g v (rotationAct r g v u)) :=
        (only_rotationAct r g v).trans (only_messageAct r g v)
      have hnote (u : State) : Only [.canvas, .arbiter, .rotation, .messages] u (noteWaiting r u) := by simp [noteWaiting]
      exact (hcount.trans (only_arbitrate r g)).trans (((hact _ _).mono (by simp)).trans (hnote _))
  exact hO.steady (portsTold_evaluate r s).sound

theorem steady_evaluateAll (s : State) : Steady s (evaluateAll s) := steady_foldl (fun u r => steady_evaluate r u) _ s

theorem steady_reoffer (due : List (Engine × RegionId)) (s : State) : Steady s (reoffer due s) :=
  (only_reoffer due).steady (portsTold_reoffer due s).sound

theorem steady_frameTick (n : Nat) (s : State) : Steady s (frameTick n s) := by
  unfold frameTick
  have hin := (steady_forceCloseAll s).trans ((steady_advance n _).trans ((steady_inputTick .pa _).trans (steady_inputTick .pb _)))
  exact (hin.trans (steady_linksTick _)).trans ((steady_evaluateAll _).trans ((steady_reoffer ..).trans (steady_compose _)))

theorem steady_timerTick (s : State) : Steady s (timerTick s) := steady_frameTick ..

theorem steady_tickIf (due : Bool) (s : State) : Steady s (tickIf due s) := by
  unfold tickIf
  split
  · exact steady_timerTick s
  · exact Steady.refl s

theorem steady_timerExpiry (n : Nat) (s : State) : Steady s (timerExpiry n s) := by
  unfold timerExpiry
  split
  · exact steady_timerTick s
  · exact Steady.refl s

theorem steady_genlockEdge (n : Nat) (s : State) : Steady s (genlockEdge n s) := by
  unfold genlockEdge
  split
  · exact Steady.refl s
  · split
    · exact (steady_lockTo ..).trans (steady_frameTick ..)
    · exact (steady_of (parts := [.comp]) (s := s) (t := { s with comp := { s.comp with timerStart := n } }) (by simp)
        (portsSound_of_ports rfl) rfl rfl).trans (steady_lockTo ..)

end Sys2Proof.Machine
end

section
/-! SUPPORT. Steady operations of the clock, the memory and the requests. -/

namespace Sys2Proof.Machine

-- The proofs are checked one after another: side by side they ask for more threads than the memory limit leaves.
set_option Elab.async false

/-! ### The game clock (R84 to R99) -/

/-- An operation on the clock that leaves its Unsupervised flag. -/
theorem Only.steadyClock {parts : List Part} {s t : State} (h : Only parts s t) (hp : PortsSound s t)
    (hu : t.clock.unsupervised = s.clock.unsupervised) (hs : .straps ∉ parts := by simp)
    (hm : .monitors ∉ parts := by simp) (hk : .links ∉ parts := by simp) (hc : .comp ∉ parts := by simp) : Steady s t :=
  steady_of h hp (by rw [show t.comp = s.comp from h.2 .comp hc]) hu hs hm hk

theorem clock_captureEvent (source : CaptureSource) (port : Option PortId) (s : State) : (captureEvent source port s).clock = s.clock :=
  ((only_captureEvent (parts := [.captures]) (by simp) source port).mpr only_rfl).2 .clock (by simp)

theorem unsupervised_mainExpiry (s : State) : (mainExpiry s).clock.unsupervised = s.clock.unsupervised := by
  simp [mainExpiry, clock_captureEvent, setClock, Clock.sound]

theorem unsupervised_possessionExpiry (s : State) : (possessionExpiry s).clock.unsupervised = s.clock.unsupervised := by
  simp [possessionExpiry, clock_captureEvent, setClock, Clock.sound]

theorem unsupervised_lowerMain (k : Clock) : k.lowerMain.unsupervised = k.unsupervised := by
  unfold Clock.lowerMain
  split
  · rfl
  · split <;> rfl

theorem unsupervised_count (k : Clock) : k.count.unsupervised = k.unsupervised := by
  unfold Clock.count
  simp only
  split
  · exact unsupervised_lowerMain _
  · rfl

theorem unsupervised_testHorn (k : Clock) : k.testHorn.unsupervised = k.unsupervised := by
  unfold Clock.testHorn
  split
  · rfl
  · split <;> rfl

theorem unsupervised_revive (k : Clock) : k.revive.unsupervised = k.unsupervised := by
  unfold Clock.revive
  split <;> rfl

theorem unsupervised_clockStep (s : State) : (clockStep s).clock.unsupervised = s.clock.unsupervised := by
  unfold clockStep
  extract_lets k t u v
  have hu : u.clock.unsupervised = s.clock.unsupervised := by
    unfold u
    split
    · exact (unsupervised_possessionExpiry t).trans (unsupervised_count _)
    · exact unsupervised_count _
  have hv : v.clock.unsupervised = s.clock.unsupervised := by
    unfold v
    split
    · exact (unsupervised_mainExpiry u).trans hu
    · exact hu
  exact (unsupervised_testHorn _).trans hv

theorem steady_mainExpiry (s : State) : Steady s (mainExpiry s) :=
  Only.steadyClock (parts := [.clock, .captures]) (by simp) (portsTold_mainExpiry s).sound (unsupervised_mainExpiry s)

theorem steady_clockStep (s : State) : Steady s (clockStep s) :=
  Only.steadyClock (parts := [.clock, .captures]) (by simp) (portsTold_clockStep s).sound (unsupervised_clockStep s)

theorem steady_setClock {k : Clock} {s : State} (h : k.unsupervised = s.clock.unsupervised) : Steady s (setClock k s) :=
  Only.steadyClock (parts := [.clock]) (by simp) (portsSound_of_ports rfl) h

theorem steady_tellClock (k : NoticeKind) (fields : List Atom) (s : State) : Steady s (tellClock k fields s) :=
  Only.steady (parts := []) (by simp) (portsTold_tellClock ..).sound

theorem steady_whistleEdge (s : State) : Steady s (whistleEdge s) := by
  refine only_whistleEdge.steadyClock (portsTold_whistleEdge s).sound ?_
  unfold whistleEdge whistleTaken
  split
  · rfl
  · simp only
    split <;> simp [stopClock, clock_captureEvent, setClock]

/-- The clock's flag changes, and the Unsupervised condition with it (R99). -/
theorem steady_unsupervised {s t : State} (h : Only [.clock, .monitors] s t) (hp : PortsSound s t)
    (hc : ∀ n, n ≠ monUnsupervised → (t.monitor n).condition = (s.monitor n).condition)
    (hu : (t.monitor monUnsupervised).condition = t.clock.unsupervised) (hlatch : LatchLaw s → LatchLaw t) : Steady s t := by
  refine ⟨(h.2 .straps (by simp)).1, hp, monitorsSound_turn .unsupervised hu hc (present_other (fun _ => ?_) (absurd rfl) (fun p _ => ?_)
    fun k _ => ?_) hlatch⟩
  · rw [show t.comp = s.comp from h.2 .comp (by simp)]
  · exact (hp.port p).silent
  · rw [State.link, State.link, show t.links = s.links from h.2 .links (by simp)]

theorem steady_superviseClock (s : State) : Steady s (superviseClock s) := by
  refine steady_unsupervised (by simp [superviseClock]) (portsSound_of_ports rfl) (fun n hn => ?_) ?_ fun hL => latchLaw_lower _ hL
  · exact (condition_lower ..).trans (if_neg hn)
  · exact (condition_lower ..).trans (if_pos rfl)

theorem steady_setUnsupervised (s : State) : Steady s (setUnsupervised s) := by
  have hclock : (raise monUnsupervised none (setClock { s.clock with unsupervised := true } s)).clock = { s.clock with unsupervised := true } :=
    ((only_raise (parts := [.monitors]) (by simp) monUnsupervised none).mpr only_rfl).2 .clock (by simp)
  have h : Steady s (raise monUnsupervised none (setClock { s.clock with unsupervised := true } s)) := by
    refine steady_unsupervised (by simp) ((portsTold_raise ..).sound.after rfl) (fun n hn => ?_) ?_ fun hL => latchLaw_raise _ _ hL
    · exact (condition_raise ..).trans (if_neg hn)
    · rw [hclock]
      exact (condition_raise ..).trans (if_pos rfl)
  exact h.trans (steady_tellClock ..)

theorem steady_onClockStart (s : State) : Steady s (onClockStart s).1 := by
  unfold onClockStart
  split
  · exact Steady.refl s
  · exact Steady.refl s
  · split
    · exact Steady.refl s
    · have hrun : Steady s (setClock { s.clock with state := .running } s) := steady_setClock rfl
      have hclaims (u : State) : Steady u (startedClaims u) :=
        Only.steady (parts := [.arbiter]) (by simp) (portsSound_of_ports (by rw [startedClaims, ports_mapClaims]))
      have hpasses (u : State) : Steady u (startedPasses u) :=
        Only.steady (parts := [.arbiter, .rotation, .messages]) (by simp) (portsTold_startedPasses u).sound
      exact hrun.trans ((hclaims _).trans ((hpasses _).trans (steady_tellClock ..)))

theorem steady_onClockStop (s : State) : Steady s (onClockStop s).1 := by
  have hp : PortsSound s (tellClock .stopped [stopRequest] (stopClock s)) := (portsTold_tellClock ..).sound.after rfl
  have hO := only_onClockStop (s := s)
  unfold onClockStop at hO ⊢
  split
  · next h =>
    rw [if_pos h] at hO
    exact hO.steadyClock hp (by simp [stopClock, setClock])
  · exact Steady.refl s

theorem steady_onClockSet (main possession : Option Nat) (s : State) : Steady s (onClockSet main possession s).1 := by
  unfold onClockSet
  split
  · exact Steady.refl s
  · split
    · exact Steady.refl s
    · exact steady_setClock (unsupervised_revive _)

theorem steady_onClockAdjust (delta : Int) (s : State) : Steady s (onClockAdjust delta s).1 := by
  unfold onClockAdjust
  simp only
  split
  · refine Steady.trans ?_ (steady_mainExpiry _)
    exact steady_setClock (unsupervised_revive _)
  · exact steady_setClock (unsupervised_revive _)

theorem steady_onPossessionReset (value : Option Nat) (s : State) : Steady s (onPossessionReset value s).1 := steady_setClock rfl

theorem steady_periodBoundary (n : Nat) (s : State) : Steady s (periodBoundary n s) :=
  Only.steady (parts := [.arbiter, .rotation, .messages]) (by simp) (portsTold_periodBoundary n s).sound

theorem steady_onNextPeriod (s : State) : Steady s (onNextPeriod s).1 := by
  unfold onNextPeriod
  split
  · exact Steady.refl s
  · split
    · exact Steady.refl s
    · simp only
      refine Steady.trans ?_ (steady_tellClock ..)
      refine Steady.trans ?_ (steady_periodBoundary ..)
      exact steady_setClock rfl

theorem steady_onScoreSet (f : ScoreFields) (s : State) : Steady s (onScoreSet f s).1 := by
  refine (only_onScoreSet f).steady (portsSound_of_ports ?_)
  unfold onScoreSet
  split
  · rfl
  · split <;> rfl

theorem steady_onClockConfig (f : ClockFields) (s : State) : Steady s (onClockConfig f s).1 := by
  unfold onClockConfig
  split
  · exact Steady.refl s
  · exact Only.steadyClock (parts := [.clock, .score]) (by simp [only_iff]) (portsSound_of_ports rfl) rfl

theorem steady_onClockMark (mark : Nat) (s : State) : Steady s (onClockMark mark s).1 := by
  unfold onClockMark
  extract_lets m e hit t k
  have ht : Steady s t := steady_superviseClock s
  split
  · split
    · exact ht.trans (steady_setClock rfl)
    · have hu : Steady s (tellClock .resync [.num e] (setClock { k with main := m, correction := 0 } t)) :=
        Steady.trans (ht.trans (steady_setClock (k := { k with main := m, correction := 0 }) rfl)) (steady_tellClock ..)
      simp only
      split
      · exact hu.trans (steady_mainExpiry _)
      · exact hu
  · split
    · exact ht
    · exact ht.trans (steady_setClock (unsupervised_revive _))

/-- The clock starts a new match, and Unsupervised with its condition clears (R108). -/
theorem steady_clockReset (s : State) : Steady s (lower monUnsupervised (setClock s.clock.matchReset s)) := by
  refine steady_unsupervised (by simp) (portsSound_of_ports rfl) (fun n hn => ?_) ?_ fun hL => latchLaw_lower _ hL
  · exact (condition_lower ..).trans (if_neg hn)
  · exact (condition_lower ..).trans (if_pos rfl)

theorem steady_onMatchReset (s : State) : Steady s (onMatchReset s).1 := by
  have hrest (x : Score) (y : Captures) (z : Rotation) : Steady s { s with score := x, captures := y, rotation := z } :=
    Only.steady (parts := [.score, .captures, .rotation]) (by simp [only_iff]) (portsSound_of_ports rfl)
  have hreset (u : State) : Steady u (resetMessages u) :=
    Only.steady (parts := [.arbiter, .rotation, .messages]) (by simp) (portsTold_resetMessages u).sound
  unfold onMatchReset
  split
  · exact Steady.refl s
  · dsimp only
    refine Steady.trans ?_ (hreset _)
    refine Steady.trans ?_ (steady_clockReset { s with
      score := s.score.matchReset, captures := Captures.reset,
      rotation := { s.rotation with pointer := 0, contracts := s.rotation.contracts.map Contract.matchReset } })
    exact hrest _ _ _

/-! ### Monitor settings (R60, R61) -/

theorem steady_setMonitor {m : MonitorId} {x : Monitor} {s : State} (hc : x.condition = (s.monitor m).condition)
    (hx : ((s.monitor m).latched = true → (s.monitor m).latch = true) → x.latched = true → x.latch = true) : Steady s (s.setMonitor m x) := by
  refine ⟨rfl, portsSound_of_ports rfl, ⟨fun c => .inl ⟨?_, ?_⟩, fun hL => latchLaw_setMonitor hL hx⟩⟩
  · rw [monitor_setMonitor]
    split
    · next h => rw [hc, h]
    · rfl
  · exact present_congr (s := s) (t := s.setMonitor m x) rfl rfl (fun _ => rfl) (fun _ => rfl) c

theorem steady_dropHeldAll (s : State) : Steady s (dropHeldAll s) := (steady_dropHeld .pa s).trans (steady_dropHeld .pb _)

theorem steady_clearLatches (ms : List MonitorId) (s : State) : Steady s { s with monitors := clearLatches ms s.monitors } := by
  induction ms generalizing s with
  | nil => exact Steady.refl s
  | cons m rest ih =>
    have h : Steady s (s.setMonitor m (s.monitor m).cleared) :=
      steady_setMonitor rfl fun _ h => (Bool.and_eq_true_iff.mp h).2
    exact h.trans (ih (s.setMonitor m (s.monitor m).cleared))

theorem steady_onSetMonitor (monitor : Named MonitorId) (enable latch : Option Bool) (s : State) : Steady s
    (onSetMonitor monitor enable latch s).1 := by
  unfold onSetMonitor
  split
  · exact Steady.refl s
  · next m =>
    refine (steady_setMonitor ?_ ?_).trans (steady_dropHeldAll _)
    · rcases latch with _ | _ | _ <;> rfl
    · rcases latch with _ | _ | _
      · exact id
      · exact fun _ h => h
      · exact fun _ _ => rfl

theorem steady_onClearFaults (monitor : Option (Named MonitorId)) (s : State) : Steady s (onClearFaults monitor s).1 := by
  unfold onClearFaults
  split
  · exact Steady.refl s
  · next m =>
    refine Steady.trans ?_ (steady_dropHeldAll _)
    exact steady_clearLatches [m] s
  · dsimp only
    refine Steady.trans ?_ (steady_dropHeldAll _)
    exact steady_clearLatches allMonitors s

/-! ### The asset memory (R174 to R187) -/

theorem steady_scanEnd (failed : List Nat) (s : State) : Steady s (scanEnd failed s) := by
  refine (only_scanEnd failed).steady (portsSound_of_ports ?_)
  unfold scanEnd
  split <;> rfl

theorem steady_programStart (s : State) : Steady s (programStart s) := by
  refine only_programStart.steady (portsSound_of_ports ?_)
  unfold programStart
  split
  · rfl
  · split
    · rfl
    · split <;> rfl

theorem steady_markStart (s : State) : Steady s (markStart s) := by
  refine only_markStart.steady (portsSound_of_ports ?_)
  unfold markStart
  split <;> rfl

theorem steady_timeLimit (s : State) : Steady s (timeLimit s) := Only.steady (parts := [.assets, .free]) (by simp) (portsSound_timeLimit s)

theorem steady_onUploadBegin (p : PortId) (q : Byte) (f : UploadFields) (s : State) : Steady s (onUploadBegin p q f s).1 := by
  refine (only_onUploadBegin p q f).steady (portsSound_of_ports ?_)
  unfold onUploadBegin
  split
  · rfl
  · simp only
    split
    · rfl
    · split
      · rfl
      · split <;> rfl

theorem steady_onUploadLoad (p : PortId) (offset : Nat) (data : List Byte) (s : State) : Steady s (onUploadLoad p offset data s).1 := by
  refine (only_onUploadLoad p offset data).steady (portsSound_of_ports ?_)
  unfold onUploadLoad
  split
  · rfl
  · split_ifs <;> rfl

theorem steady_onUploadCommit (p : PortId) (q : Byte) (s : State) : Steady s (onUploadCommit p q s).1 := by
  refine (only_onUploadCommit p q).steady (portsSound_of_ports ?_)
  unfold onUploadCommit
  split
  · rfl
  · simp only
    split_ifs <;> rfl

theorem steady_onUploadFinish (p : PortId) (q : Byte) (s : State) : Steady s (onUploadFinish p q s).1 := by
  refine (only_onUploadFinish p q).steady (portsSound_of_ports ?_)
  unfold onUploadFinish
  split
  · rfl
  · split_ifs <;> rfl

theorem steady_onUploadAbort (p : PortId) (s : State) : Steady s (onUploadAbort p s).1 := by
  refine (only_onUploadAbort p).steady (portsSound_of_ports ?_)
  unfold onUploadAbort
  split
  · rfl
  · split_ifs <;> rfl

theorem steady_onAssetRetire (id : Nat) (s : State) : Steady s (onAssetRetire id s).1 := by
  refine (only_onAssetRetire id).steady (portsSound_of_ports ?_)
  unfold onAssetRetire
  split
  · rfl
  · split
    · rfl
    · split
      · rfl
      · rfl
      · split <;> rfl

theorem steady_onAssetReclaim (p : PortId) (q : Byte) (s : State) : Steady s (onAssetReclaim p q s).1 := by
  refine (only_onAssetReclaim p q).steady (portsSound_of_ports ?_)
  unfold onAssetReclaim
  simp only
  split <;> (split_ifs <;> rfl)

end Sys2Proof.Machine
end

section
/-! SUPPORT. The requests of the canvas, the arbiter, the rotation and the messages are steady. -/

namespace Sys2Proof.Machine

-- The proofs are checked one after another: side by side they ask for more threads than the memory limit leaves.
set_option Elab.async false

/-! ### The canvas (R6 to R16) -/

theorem steady_regionChanged (r : RegionId) (g : Option Region) (s : State) : Steady s (regionChanged r g s) :=
  (only_regionChanged r g).steady (((portsTold_settle ..).sound.trans (portsTold_settle ..).sound).after rfl)

theorem steady_defineChecked (d : DefineFields) (r : RegionId) (g : Region) (s : State) : Steady s (defineChecked d r g s).1 := by
  unfold defineChecked
  split
  · exact Steady.refl s
  split
  · exact Steady.refl s
  split
  · split
    · exact Steady.refl s
    · split
      · exact Steady.refl s
      · split
        · exact Steady.refl s
        · exact steady_regionChanged ..
  · split
    · exact Steady.refl s
    · split
      · exact Steady.refl s
      · split
        · exact Steady.refl s
        · exact steady_regionChanged ..

theorem steady_onDefineRegion (d : DefineFields) (s : State) : Steady s (onDefineRegion d s).1 := by
  unfold onDefineRegion
  split
  · exact Steady.refl s
  split
  · exact Steady.refl s
  split
  · exact Steady.refl s
  split
  · exact Steady.refl s
  split
  · exact Steady.refl s
  split
  · exact Steady.refl s
  · exact Steady.refl s
  · exact steady_defineChecked ..

theorem steady_onDeleteRegion (id : Nat) (s : State) : Steady s (onDeleteRegion id s).1 := by
  unfold onDeleteRegion
  split
  · exact Steady.refl s
  split
  · exact Steady.refl s
  split
  · exact Steady.refl s
  split
  · exact Steady.refl s
  split
  · exact Steady.refl s
  · exact steady_regionChanged ..

theorem steady_onSetBase (fill dwell : Option Nat) (s : State) : Steady s (onSetBase fill dwell s).1 := by
  unfold onSetBase
  split
  · exact Steady.refl s
  split
  · exact Steady.refl s
  · exact Only.steady (parts := [.canvas]) (by simp) (portsSound_of_ports rfl)

theorem steady_onSetFill (pattern red green blue : Nat) (s : State) : Steady s (onSetFill pattern red green blue s).1 := by
  unfold onSetFill
  split
  · exact Only.steady (parts := [.canvas]) (by simp) (portsSound_of_ports rfl)
  · exact Steady.refl s

theorem steady_onGoLive (s : State) : Steady s (onGoLive s).1 := Only.steady (parts := [.canvas]) (by simp [onGoLive]) (portsSound_of_ports rfl)

theorem steady_onEndLive (s : State) : Steady s (onEndLive s).1 := by
  unfold onEndLive
  split
  · split
    · exact Steady.refl s
    · have h : Steady s { s with canvas := { s.canvas with mode := .setup } } :=
        Only.steady (parts := [.canvas]) (by simp) (portsSound_of_ports rfl)
      exact h.trans (steady_periodBoundary ..)
  · exact Steady.refl s

/-! ### The arbiter (R21, R22, R26, R28, R38, R39) -/

theorem steady_setClaims (r : RegionId) (x : RegionClaims) (s : State) : Steady s (s.setClaims r x) :=
  Only.steady (parts := [.arbiter]) (by simp) (portsTold_setClaims ..).sound

theorem steady_mapClaims (f : RegionId → RegionClaims → RegionClaims) (s : State) : Steady s (mapClaims f s) :=
  Only.steady (parts := [.arbiter]) (by simp) (portsSound_of_ports (ports_mapClaims f s))

theorem steady_joinWait (r : RegionId) (c : Claim) (s : State) : Steady s (joinWait r c s).1 :=
  Only.steady (parts := [.arbiter, .rotation, .messages]) (by simp) (portsTold_joinWait r c s).sound

theorem steady_onClaim (p : PortId) (region tag priority : Nat) (content : ContentField) (duration : Nat) (resume : Bool) (s : State) :
    Steady s (onClaim p region tag priority content duration resume s).1 := by
  unfold onClaim
  split
  · exact Steady.refl s
  split
  · exact Steady.refl s
  split
  · exact Steady.refl s
  split
  · exact Steady.refl s
  split
  · exact Steady.refl s
  split
  · exact Steady.refl s
  split
  · exact Steady.refl s
  · extract_lets rank
    split
    · exact Steady.refl s
    split
    · exact Steady.refl s
    split
    · exact Steady.refl s
    · exact steady_joinWait ..

theorem steady_onRelease (p : PortId) (tag : Nat) (s : State) : Steady s (onRelease p tag s).1 := by
  unfold onRelease
  split
  · exact Steady.refl s
  · simp only
    split
    · exact steady_setClaims ..
    · exact steady_setClaims ..

theorem steady_setPort {s : State} {p : PortId} {x : Port} (h : Port.Sound (s.port p) x) : Steady s (s.setPort p x) :=
  Only.steady (parts := []) (by simp) (portsSound_setPort h)

/-- A port that is not Silent withdraws (R38). -/
theorem steady_onWithdraw {p : PortId} {s : State} (hs : (s.port p).silent = false) (q : Byte) : Steady s (onWithdraw p q s).1 := by
  have h : Steady s (releaseClaims p (s.setPort p { s.port p with withdrawn := true })) :=
    (steady_setPort (sound_withdrawn _ (.inl hs))).trans (steady_mapClaims ..)
  unfold onWithdraw
  simp only
  split
  · exact h
  · exact h

theorem steady_onResume (p : PortId) (s : State) : Steady s (onResume p s).1 := steady_setPort (sound_withdrawn _ (.inr rfl))

theorem steady_onSetEngineRank (engine : Named Engine) (rank : Nat) (s : State) : Steady s (onSetEngineRank engine rank s).1 := by
  have hrank (x : Arbiter) : Steady s { s with arbiter := x } := Only.steady (parts := [.arbiter]) (by simp) (portsSound_of_ports rfl)
  unfold onSetEngineRank
  split
  · exact Steady.refl s
  · next e => cases e <;> exact (hrank _).trans (steady_mapClaims ..)

theorem clamp_le_seven (n : Nat) : clamp 0 7 n ≤ 7 := by
  simp only [clamp_eq_min]
  omega

theorem steady_onSetPriorityMap (port : Nat) (ranks : List Nat) (s : State) : Steady s (onSetPriorityMap port ranks s).1 := by
  unfold onSetPriorityMap
  split
  · exact Steady.refl s
  · next h =>
    split
    · exact Steady.refl s
    · refine steady_setPort (sound_priorityMap _ ?_ fun n hn => ?_)
      · rw [List.length_map]
        exact not_not.mp h
      · obtain ⟨m, -, rfl⟩ := List.mem_map.mp hn
        exact clamp_le_seven m

theorem steady_portLost (p : PortId) (s : State) : Steady s (portLost p s) :=
  Only.steady (parts := [.arbiter, .rotation, .assets]) (by simp) (portsSound_of_ports (ports_portLost p s))

theorem steady_onPortReset (p : PortId) (port : Option Nat) (s : State) : Steady s (onPortReset p port s).1 := by
  unfold onPortReset
  split
  · exact Steady.refl s
  split
  · exact Steady.refl s
  · exact (steady_setPort (sound_cleared _)).trans (steady_portLost ..)

/-! ### Inputs, links and captures (R55, R77, R112, R113) -/

theorem steady_onSetInput (input : Named InputId) (limit : Nat) (s : State) : Steady s (onSetInput input limit s).1 := by
  unfold onSetInput
  split
  · exact Steady.refl s
  · exact steady_setInput ..

theorem steady_onSetLinkMode (link : Named LinkSel) (mode : Option (Named FlowMode)) (pattern : Option (List (Named Bool))) (s : State) :
    Steady s (onSetLinkMode link mode pattern s).1 := by
  unfold onSetLinkMode
  simp only
  split
  · exact Steady.refl s
  split
  · exact Steady.refl s
  split
  · exact steady_setLink rfl rfl
  · dsimp only
    refine steady_foldl (fun u k => ?_) allLinks s
    exact steady_setLink rfl rfl

theorem steady_onCapture (p : PortId) (s : State) : Steady s (onCapture p s).1 := (only_onCapture p).steady (portsTold_captureEvent ..).sound

theorem steady_onTakeCapture (s : State) : Steady s (onTakeCapture s).1 := by
  refine only_onTakeCapture.steady (portsSound_of_ports ?_)
  unfold onTakeCapture
  simp only
  split <;> rfl

/-! ### The rotation (R121 to R125) -/

theorem steady_onRotationBegin (p : PortId) (s : State) : Steady s (onRotationBegin p s).1 := by
  refine (only_onRotationBegin p).steady (portsSound_of_ports ?_)
  unfold onRotationBegin
  split <;> rfl

theorem steady_onRotationContract (p : PortId) (id : Nat) (name : Option (List Nat)) (target qmin : Option Nat) (s : State) :
    Steady s (onRotationContract p id name target qmin s).1 := by
  refine (only_onRotationContract p id name target qmin).steady (portsSound_of_ports ?_)
  unfold onRotationContract
  split
  · rfl
  · split_ifs <;> rfl

theorem steady_onRotationSpot (p : PortId) (spot contract asset slot : Nat) (regions : List Nat) (s : State) :
    Steady s (onRotationSpot p spot contract asset slot regions s).1 := by
  refine (only_onRotationSpot p spot contract asset slot regions).steady (portsSound_of_ports ?_)
  unfold onRotationSpot
  split
  · rfl
  · split_ifs <;> rfl

theorem steady_onRotationCommit (p : PortId) (s : State) : Steady s (onRotationCommit p s).1 := by
  refine (only_onRotationCommit p).steady ?_
  unfold onRotationCommit
  split
  · exact PortsSound.refl s
  split
  · exact PortsSound.refl s
  · simp only
    split
    · exact portsSound_of_ports rfl
    · dsimp only
      exact (portsTold_replaceRotation ..).sound.after rfl

theorem steady_onRotationDiscard (p : PortId) (s : State) : Steady s (onRotationDiscard p s).1 := by
  refine (only_onRotationDiscard p).steady (portsSound_of_ports ?_)
  unfold onRotationDiscard
  split <;> rfl

theorem steady_onContractSuspend (id : Nat) (on : Bool) (s : State) : Steady s (onContractSuspend id on s).1 := by
  refine (only_onContractSuspend id on).steady (portsSound_of_ports ?_)
  unfold onContractSuspend
  split <;> rfl

/-! ### The messages (R152 to R159) -/

theorem steady_onMessageSubmit (p : PortId) (tag : Nat) (text : List Nat) (style : Named Style) (repeats : Option Nat) (s : State) :
    Steady s (onMessageSubmit p tag text style repeats s).1 := by
  refine (only_onMessageSubmit p tag text style repeats).steady ?_
  unfold onMessageSubmit
  split
  · exact PortsSound.refl s
  split
  · exact PortsSound.refl s
  split
  · exact PortsSound.refl s
  split
  · exact PortsSound.refl s
  split
  · exact PortsSound.refl s
  split
  · exact PortsSound.refl s
  · simp only
    split
    · dsimp only
      exact (portsTold_settleAll ..).sound.after rfl
    · exact (portsTold_notify ..).sound.after rfl

theorem steady_onMessageConfig (f : MessageFields) (s : State) : Steady s (onMessageConfig f s).1 :=
  (only_onMessageConfig f).steady (portsSound_of_ports rfl)

theorem steady_onMessageApprove (port tag : Nat) (s : State) : Steady s (onMessageApprove port tag s).1 := by
  refine (only_onMessageApprove port tag).steady ?_
  unfold onMessageApprove
  split
  · exact PortsSound.refl s
  split
  · dsimp only
    exact ((portsTold_tellSubmitter ..).sound.trans (portsTold_settleAll ..).sound).after rfl
  split
  · exact PortsSound.refl s
  split
  · exact PortsSound.refl s
  · exact PortsSound.refl s

theorem steady_onMessageReject (port tag : Nat) (s : State) : Steady s (onMessageReject port tag s).1 := by
  refine (only_onMessageReject port tag).steady ?_
  unfold onMessageReject
  split
  · exact PortsSound.refl s
  split
  · exact (portsTold_tellSubmitter ..).sound.after rfl
  split
  · exact PortsSound.refl s
  · exact PortsSound.refl s

theorem steady_onMessageWithdraw (p : PortId) (tag : Nat) (port : Option Nat) (s : State) : Steady s (onMessageWithdraw p tag port s).1 := by
  refine (only_onMessageWithdraw p tag port).steady ?_
  unfold onMessageWithdraw
  simp only
  split
  · exact PortsSound.refl s
  split
  · exact PortsSound.refl s
  split
  · exact portsSound_of_ports rfl
  split
  · dsimp only
    exact (portsTold_settleAll ..).sound.after rfl
  split
  · exact PortsSound.refl s
  split
  · exact PortsSound.refl s
  · exact portsSound_of_ports rfl

end Sys2Proof.Machine
end

section
/-! PROOF. Every step keeps the laws of ports, roles, monitors and latches (O56). -/

namespace Sys2Proof.Machine

/-! ### The laws kept -/

/-- The laws of ports, roles, monitors and latches survive. -/
def LawsKept (s t : State) : Prop :=
  (PortLaw s → RoleLaw s → PortLaw t ∧ RoleLaw t) ∧ (MonitorLaw s → LatchLaw s → MonitorLaw t ∧ LatchLaw t)

theorem LawsKept.refl (s : State) : LawsKept s s := ⟨fun h k => ⟨h, k⟩, fun h k => ⟨h, k⟩⟩

theorem LawsKept.trans {s t u : State} (h : LawsKept s t) (k : LawsKept t u) : LawsKept s u :=
  ⟨fun hp hr => k.1 (h.1 hp hr).1 (h.1 hp hr).2, fun hm hl => k.2 (h.2 hm hl).1 (h.2 hm hl).2⟩

theorem lawsKept_foldl {α : Type} {f : State → α → State} (hf : ∀ u a, LawsKept u (f u a)) (l : List α) (s : State) : LawsKept s (l.foldl f s) := by
  induction l generalizing s with
  | nil => exact LawsKept.refl s
  | cons a rest ih => exact (hf s a).trans (ih _)

/-- Ports that keep their roles keep the law of roles (R192). -/
theorem roleLaw_congr {s t : State} (hd : t.dirsel = s.dirsel) (hr : ∀ p, (t.port p).role = (s.port p).role) (h : RoleLaw s) : RoleLaw t := by
  have hdir : t.director = s.director := by simp [State.director, hd]
  exact ⟨fun p => by rw [hr, hdir]; exact h.1 p, fun p q => by rw [hr, hr]; exact h.2 p q⟩

theorem Steady.laws {s t : State} (h : Steady s t) : LawsKept s t :=
  ⟨fun hp hr => ⟨fun p => (h.ports.port p).lawful (hp p), roleLaw_congr h.straps (fun p => (h.ports.port p).role) hr⟩,
    fun hm hl => ⟨h.monitors.law hm, h.monitors.latches hl⟩⟩

/-- The laws survive, and no port has more requests outstanding or more waiting. -/
structure Tidy (s t : State) : Prop where
  laws : LawsKept s t
  outstanding : ∀ p, (t.port p).outstanding ≤ (s.port p).outstanding
  waiting : ∀ p, (t.port p).answers.length + (t.port p).requests.length ≤ (s.port p).answers.length + (s.port p).requests.length

theorem Tidy.refl (s : State) : Tidy s s := ⟨LawsKept.refl s, fun _ => Nat.le_refl _, fun _ => Nat.le_refl _⟩

theorem Tidy.trans {s t u : State} (h : Tidy s t) (k : Tidy t u) : Tidy s u :=
  ⟨h.laws.trans k.laws, fun p => (k.outstanding p).trans (h.outstanding p), fun p => (k.waiting p).trans (h.waiting p)⟩

theorem Steady.tidy {s t : State} (h : Steady s t) : Tidy s t :=
  ⟨h.laws, fun p => (h.ports.port p).outstanding, fun p => (h.ports.port p).waiting⟩

/-! ### One port changes (R191, R194) -/

/-- A port takes another value of the same role and the same silence, lawful where the ports are. -/
theorem lawsKept_setPort {s : State} {p : PortId} {x : Port} (hrole : x.role = (s.port p).role) (hsilent : x.silent = (s.port p).silent)
    (hlaw : (s.port p).Lawful → x.Lawful) : LawsKept s (s.setPort p x) := by
  have hport (f : Port → Prop) (hf : f (s.port p) → f x) (n : PortId) : f (s.port n) → f ((s.setPort p x).port n) := by
    rw [port_setPort]
    split
    · next h => exact h ▸ hf
    · exact id
  have same {β : Type} (f : Port → β) (hf : f x = f (s.port p)) (n : PortId) : f ((s.setPort p x).port n) = f (s.port n) :=
    hport (fun y => f y = f (s.port n)) (fun h => hf.trans h) n rfl
  refine ⟨fun hp hr => ⟨fun n => hport Port.Lawful hlaw n (hp n), roleLaw_congr (s := s) rfl (same Port.role hrole) hr⟩, fun hm hl => ⟨?_, hl⟩⟩
  rw [monitorLaw_iff] at hm ⊢
  intro c
  rw [present_congr (s := s) (t := s.setPort p x) rfl rfl (same Port.silent hsilent) (fun _ => rfl) c]
  exact hm c

/-! ### Silence (R191, R198, R199) -/

theorem port_setPort_other {s : State} {p n : PortId} {x : Port} (h : n ≠ p) : (s.setPort p x).port n = s.port n := by
  rw [port_setPort, if_neg h]

/-- A port falls silent or is heard again, and its Silent condition with it (R199). -/
theorem monitorsSound_silent {p : PortId} {s t : State} (h : Only [.monitors] s t)
    (hp : ∀ n, n ≠ p → (t.port n).silent = (s.port n).silent)
    (hc : ∀ n, n ≠ monSilent p → (t.monitor n).condition = (s.monitor n).condition)
    (hs : (t.monitor (monSilent p)).condition = (t.port p).silent) (hlatch : LatchLaw s → LatchLaw t) : MonitorsSound s t := by
  refine monitorsSound_turn (.silent p) hs hc (present_other (fun _ => ?_) (fun _ => ?_) (fun n hn => ?_) fun k _ => ?_) hlatch
  · rw [show t.comp = s.comp from h.2 .comp (by simp)]
  · rw [show t.clock = s.clock from h.2 .clock (by simp)]
  · exact hp n fun hnp => hn (by rw [hnp])
  · rw [State.link, State.link, show t.links = s.links from h.2 .links (by simp)]

theorem lawful_heard (x : Port) (h : x.Lawful) : Port.Lawful { x with silentTimer := 0, silent := false } := by
  obtain ⟨h1, h2, h3, h4, h5, h6, h7, -⟩ := h
  exact ⟨h1, h2, h3, h4, h5, h6, h7, nofun⟩

/-- A frame that is not of a Silent port changes its timer alone. -/
theorem steady_heard {s : State} {p : PortId} (h : (s.port p).silent = false) :
    Steady s (s.setPort p { s.port p with silentTimer := 0, silent := false }) :=
  steady_setPort (Port.sound_of rfl h.symm rfl rfl (Nat.le_refl _) (Nat.le_refl _) id id fun _ hw hd => ⟨hw, hd⟩)

theorem lawsKept_frameArrives (p : PortId) (s : State) : LawsKept s (frameArrives p s) := by
  unfold frameArrives
  simp only
  split
  · refine ⟨fun hp hr => ⟨fun n => ?_, roleLaw_congr (s := s) rfl (fun n => ?_) hr⟩, fun hm hl => ?_⟩
    · show ((s.setPort p { s.port p with silentTimer := 0, silent := false }).port n).Lawful
      rw [port_setPort]
      split
      · exact lawful_heard _ (hp p)
      · exact hp n
    · show ((s.setPort p { s.port p with silentTimer := 0, silent := false }).port n).role = _
      rw [port_setPort]
      split
      · next h => rw [h]
      · rfl
    · have hms : MonitorsSound s (lower (monSilent p) (s.setPort p { s.port p with silentTimer := 0, silent := false })) := by
        refine monitorsSound_silent (p := p) (by simp) (fun n hn => ?_) (fun n hn => ?_) ?_ fun h => latchLaw_lower _ h
        · exact congrArg Port.silent (port_setPort_other hn)
        · exact (condition_lower ..).trans (if_neg hn)
        · refine ((condition_lower ..).trans (if_pos rfl)).trans ?_
          show _ = ((s.setPort p _).port p).silent
          rw [port_setPort, if_pos rfl]
      exact ⟨hms.law hm, hms.latches hl⟩
  · next h =>
    rw [Bool.not_eq_true] at h
    exact (steady_heard h).laws

/-- The port falls silent, and its SourceFault goes out (R199). -/
theorem tidy_fallSilent (p : PortId) (s : State) : Tidy s (raise (monSilent p) none (s.setPort p (s.port p).fallSilent)) := by
  have hraise := (portsTold_raise (monSilent p) none (s.setPort p (s.port p).fallSilent)).sound
  have hO : Only [.monitors] s (raise (monSilent p) none (s.setPort p (s.port p).fallSilent)) := by simp
  have hfall : ∀ f : Port → Prop, (f (s.port p) → f (s.port p).fallSilent) → ∀ n, f (s.port n) → f ((s.setPort p (s.port p).fallSilent).port n) := by
    intro f hf n
    rw [port_setPort]
    split
    · next h => exact h ▸ hf
    · exact id
  have hlength : (s.port p).fallSilent.requests.length ≤ (s.port p).requests.length := List.length_filter_le ..
  have hout : (s.port p).fallSilent.outstanding ≤ (s.port p).outstanding := by
    simp only [Port.outstanding]
    exact Nat.add_le_add_right (Nat.add_le_add_right hlength _) _
  have hlawful : (s.port p).Lawful → (s.port p).fallSilent.Lawful := by
    rintro ⟨h1, h2, h3, h4, h5, h6, h7, -⟩
    refine ⟨hout.trans h1, h2, (Nat.add_le_add_left hlength _).trans h3, h4, h5, h6, h7, fun _ => ⟨rfl, fun d hd => ?_⟩⟩
    simpa using (List.mem_filter.mp hd).2
  refine ⟨⟨fun hp hr => ⟨fun n => ?_, ?_⟩, fun hm hl => ?_⟩, fun n => ?_, fun n => ?_⟩
  · exact (hraise.port n).lawful (hfall Port.Lawful hlawful n (hp n))
  · refine roleLaw_congr (hO.2 .straps (by simp)).1 (fun n => ?_) hr
    exact (hraise.port n).role.trans (hfall (fun x => x.role = (s.port n).role) id n rfl)
  · have hms : MonitorsSound s (raise (monSilent p) none (s.setPort p (s.port p).fallSilent)) := by
      refine monitorsSound_silent (p := p) hO (fun n hn => ?_) (fun n hn => ?_) ?_ fun h => latchLaw_raise _ _ h
      · exact (hraise.port n).silent.trans (congrArg Port.silent (port_setPort_other hn))
      · exact (condition_raise ..).trans (if_neg hn)
      · rw [(hraise.port p).silent, port_setPort, if_pos rfl]
        exact (condition_raise ..).trans (if_pos rfl)
    exact ⟨hms.law hm, hms.latches hl⟩
  · exact (hraise.port n).outstanding.trans (hfall (fun x => x.outstanding ≤ (s.port n).outstanding) (fun h => hout.trans h) n (Nat.le_refl _))
  · refine (hraise.port n).waiting.trans (hfall (fun x => x.answers.length + x.requests.length ≤ (s.port n).answers.length +
      (s.port n).requests.length)
      (fun h => (Nat.add_le_add_left hlength _).trans h) n (Nat.le_refl _))

theorem tidy_becomeSilent (p : PortId) (s : State) : Tidy s (becomeSilent p s) := by
  have ht := (tidy_fallSilent p s).trans (steady_portLost p _).tidy
  unfold becomeSilent
  simp only
  split
  · exact ht.trans (steady_setUnsupervised _).tidy
  · exact ht

theorem tidy_silenceExpiry (p : PortId) (s : State) : Tidy s (silenceExpiry p s) := by
  unfold silenceExpiry
  split
  · exact tidy_becomeSilent p s
  · exact Tidy.refl s

/-! ### The ms step (R82, R158, R198) -/

theorem steady_countSilence (s : State) : Steady s (countSilence s) := by
  have h : ∀ (l : List PortId) (t : State), PortsSound t { t with ports := l.foldl (fun v p => updatePort v p Port.countMs) t.ports } := by
    intro l
    induction l with
    | nil => exact PortsSound.refl
    | cons p rest ih =>
      intro t
      have hp : PortsSound t { t with ports := updatePort t.ports p Port.countMs } := portsSound_updatePort rfl sound_countMs
      exact hp.trans (ih { t with ports := updatePort t.ports p Port.countMs })
  exact Only.steady (parts := []) (by simp) (h allPorts s)

theorem lawsKept_msStep (s : State) : LawsKept s (msStep s) := by
  have hdue : LawsKept s (settleOverdue s) :=
    (lawsKept_foldl (fun u p => (tidy_silenceExpiry p u).laws) allPorts s).trans (steady_timeLimit _).laws
  have hlapse (u : State) : Steady u (lapseHeld u) := Only.steady (parts := [.messages]) (by simp) (portsTold_lapseHeld u).sound
  exact hdue.trans ((steady_clockStep _).trans ((hlapse _).trans (steady_countSilence _))).laws

theorem lawsKept_msIf (due : Bool) (s : State) : LawsKept s (msIf due s) := by
  unfold msIf
  split
  · exact lawsKept_msStep s
  · exact LawsKept.refl s

end Sys2Proof.Machine
end

section
/-! PROOF. Requests, received bytes and events keep the laws of ports, roles, monitors and latches (O56). -/

namespace Sys2Proof.Machine

/-! ### Requests at their blocks -/

/-- What the block that a request of port `p` reaches makes of the part: it keeps the laws, and a request it defers is none of those that
are answered uncounted. -/
structure Handled (p : PortId) (code : Nat) (s : State) (r : State × Ans) : Prop where
  tidy : Tidy s r.1
  defers : ∀ d, r.2 = .deferred d → code ≠ 58 ∧ (r.1.port p).silent = (s.port p).silent

theorem Steady.handled {p : PortId} {code : Nat} {s : State} {r : State × Ans} (h : Steady s r.1) (hcode : code ≠ 58) : Handled p code s r :=
  ⟨h.tidy, fun _ _ => ⟨hcode, (h.ports.port p).silent⟩⟩

/-- A block that answers at once. -/
theorem handled_reply {p : PortId} {code : Nat} {s : State} {r : State × Ans} (h : Tidy s r.1) (hr : ∀ d, r.2 ≠ .deferred d) :
    Handled p code s r := ⟨h, fun d hd => absurd hd (hr d)⟩

theorem tidy_setRole {s : State} {n : PortId} {r : Role} (hn : n ≠ s.director) (hr : r ≠ .director)
    (hone : r = .scoring → ∀ m, m ≠ n → (s.port m).role ≠ .scoring) : Tidy s (s.setPort n { s.port n with role := r }) := by
  have hport (f : Port → Prop) (hf : f (s.port n) → f { s.port n with role := r }) (m : PortId) (h : f (s.port m)) :
      f ((s.setPort n { s.port n with role := r }).port m) := by
    rw [port_setPort]
    split
    · next hm => exact hf (hm ▸ h)
    · exact h
  have hrole (m : PortId) : ((s.setPort n { s.port n with role := r }).port m).role = if m = n then r else (s.port m).role := by
    rw [port_setPort]
    split <;> rfl
  refine ⟨⟨fun hp hl => ⟨fun m => hport Port.Lawful id m (hp m), fun m => ?_, fun a b => ?_⟩, fun hm hl => ⟨?_, hl⟩⟩, fun m => ?_, fun m => ?_⟩
  · show _ ↔ m = s.director
    rw [hrole]
    split
    · next h => exact iff_of_false hr (h ▸ hn)
    · exact hl.1 m
  · rw [hrole, hrole]
    split
    · next ha =>
      split
      · next hb => exact fun _ _ => ha.trans hb.symm
      · next hb => exact fun h hs => absurd hs (hone h b hb)
    · next ha =>
      split
      · exact fun hs h => absurd hs (hone h a ha)
      · exact hl.2 a b
  · rw [monitorLaw_iff] at hm ⊢
    intro c
    rw [present_congr (s := s) (t := s.setPort n { s.port n with role := r }) rfl rfl
      (fun m => hport (fun x => x.silent = (s.port m).silent) id m rfl) (fun _ => rfl) c]
    exact hm c
  · exact hport (fun x => x.outstanding ≤ (s.port m).outstanding) id m (Nat.le_refl _)
  · exact hport (fun x => x.answers.length + x.requests.length ≤ (s.port m).answers.length + (s.port m).requests.length) id m (Nat.le_refl _)

theorem roleTarget_ne {s : State} {port : Nat} {n : PortId} (h : roleTarget s port = some n) : n ≠ s.director := by
  unfold roleTarget at h
  split at h
  · cases h
  · split at h
    · cases h
    · next hn =>
      cases h
      exact hn

theorem handled_onSetPortRole (p : PortId) (port : Nat) (role : Named Role) (s : State) : Handled p 9 s (onSetPortRole port role s) := by
  have stays (a : Ans) (ha : ∀ d, a ≠ .deferred d) : Handled p 9 s (s, a) := handled_reply (Tidy.refl s) ha
  unfold onSetPortRole
  split
  · exact stays _ nofun
  split
  · exact stays _ nofun
  next n hn =>
  split
  · exact stays _ nofun
  · exact stays _ nofun
  next r hr =>
  split
  · exact stays _ nofun
  next hone =>
  split
  · exact stays _ nofun
  · refine handled_reply (tidy_setRole (roleTarget_ne hn) (by simpa using hr) fun hs m hm hrole => hone ⟨hs, ?_⟩) nofun
    exact List.any_eq_true.mpr ⟨m, mem_allPorts m, by simp [hm, hrole]⟩

theorem storedTimeout_range (ms : Nat) : storedTimeout ms = 0 ∨ 250 ≤ storedTimeout ms ∧ storedTimeout ms ≤ 10000 := by
  unfold storedTimeout
  split
  · exact .inl rfl
  · simp only [clamp]
    omega

theorem handled_onSetPortTimeout (p : PortId) (port ms : Nat) (s : State) : Handled p 10 s (onSetPortTimeout port ms s) := by
  unfold onSetPortTimeout
  split
  · exact handled_reply (Tidy.refl s) nofun
  · exact handled_reply ((steady_setPort (sound_timeout _ (storedTimeout_range ms))).tidy.trans (tidy_silenceExpiry ..)) nofun

theorem handled_onPortReset (p : PortId) (port : Option Nat) (s : State) : Handled p 58 s (onPortReset p port s) := by
  refine handled_reply (steady_onPortReset p port s).tidy fun d => ?_
  unfold onPortReset
  split
  · exact nofun
  · split <;> exact nofun

theorem handled_of_fst {p : PortId} {code : Nat} {s : State} {r : State × Ans} (h : r.1 = s) (hcode : code ≠ 58) : Handled p code s r :=
  Steady.handled (h ▸ Steady.refl s) hcode

/-- The block of each request, given that the port that sent it is not Silent. -/
theorem handled_handOn {i : Instr} {p : PortId} {q : Byte} {code : Nat} {fields : List Atom} (h : wireOf i = some (p, q, code, fields))
    {s : State} (hs : (s.port p).silent = false) : Handled p code s (handOn i s) := by
  cases i <;> cases h
  case setPortRole => exact handled_onSetPortRole ..
  case setPortTimeout => exact handled_onSetPortTimeout ..
  case portReset => exact handled_onPortReset ..
  case defineRegion => exact (steady_onDefineRegion ..).handled (by decide)
  case deleteRegion => exact (steady_onDeleteRegion ..).handled (by decide)
  case setBase => exact (steady_onSetBase ..).handled (by decide)
  case setFill => exact (steady_onSetFill ..).handled (by decide)
  case goLive => exact (steady_onGoLive s).handled (by decide)
  case endLive => exact (steady_onEndLive s).handled (by decide)
  case matchReset => exact (steady_onMatchReset s).handled (by decide)
  case setPriorityMap => exact (steady_onSetPriorityMap ..).handled (by decide)
  case setEngineRank => exact (steady_onSetEngineRank ..).handled (by decide)
  case setInput => exact (steady_onSetInput ..).handled (by decide)
  case setMonitor => exact (steady_onSetMonitor ..).handled (by decide)
  case clearFaults => exact (steady_onClearFaults ..).handled (by decide)
  case setLinkMode => exact (steady_onSetLinkMode ..).handled (by decide)
  case messageApprove => exact (steady_onMessageApprove ..).handled (by decide)
  case messageReject => exact (steady_onMessageReject ..).handled (by decide)
  case messageConfig => exact (steady_onMessageConfig ..).handled (by decide)
  case claim => exact (steady_onClaim ..).handled (by decide)
  case release => exact (steady_onRelease ..).handled (by decide)
  case withdraw => exact (steady_onWithdraw hs _).handled (by decide)
  case resume => exact (steady_onResume ..).handled (by decide)
  case clockStart => exact (steady_onClockStart s).handled (by decide)
  case clockStop => exact (steady_onClockStop s).handled (by decide)
  case clockSet => exact (steady_onClockSet ..).handled (by decide)
  case clockAdjust => exact (steady_onClockAdjust ..).handled (by decide)
  case possessionReset => exact (steady_onPossessionReset ..).handled (by decide)
  case nextPeriod => exact (steady_onNextPeriod s).handled (by decide)
  case scoreSet => exact (steady_onScoreSet ..).handled (by decide)
  case clockConfig => exact (steady_onClockConfig ..).handled (by decide)
  case clockMark => exact (steady_onClockMark ..).handled (by decide)
  case capture => exact (steady_onCapture ..).handled (by decide)
  case takeCapture => exact (steady_onTakeCapture s).handled (by decide)
  case rotationBegin => exact (steady_onRotationBegin ..).handled (by decide)
  case rotationContract => exact (steady_onRotationContract ..).handled (by decide)
  case rotationSpot => exact (steady_onRotationSpot ..).handled (by decide)
  case rotationCommit => exact (steady_onRotationCommit ..).handled (by decide)
  case rotationDiscard => exact (steady_onRotationDiscard ..).handled (by decide)
  case contractSuspend => exact (steady_onContractSuspend ..).handled (by decide)
  case uploadBegin => exact (steady_onUploadBegin ..).handled (by decide)
  case uploadLoad => exact (steady_onUploadLoad ..).handled (by decide)
  case uploadCommit => exact (steady_onUploadCommit ..).handled (by decide)
  case uploadFinish => exact (steady_onUploadFinish ..).handled (by decide)
  case uploadAbort => exact (steady_onUploadAbort ..).handled (by decide)
  case assetRetire => exact (steady_onAssetRetire ..).handled (by decide)
  case assetReclaim => exact (steady_onAssetReclaim ..).handled (by decide)
  case messageSubmit => exact (steady_onMessageSubmit ..).handled (by decide)
  case messageWithdraw => exact (steady_onMessageWithdraw ..).handled (by decide)
  case readRegion => exact handled_of_fst (onReadRegion_fst ..) (by decide)
  case readLink => exact handled_of_fst (onReadLink_fst ..) (by decide)
  case readClaims => exact handled_of_fst (onReadClaims_fst ..) (by decide)
  case readComposition => exact handled_of_fst (onReadComposition_fst ..) (by decide)
  case readExposure => exact handled_of_fst (onReadExposure_fst ..) (by decide)
  all_goals exact handled_of_fst rfl (by decide)

/-! ### The request is taken and answered (R191, R193, R194) -/

/-- Where fewer than eight answers wait, the port has room for one more answer or request (R191). -/
theorem room_of_uncongested {x : Port} (hc : x.congested = false) (hl : x.Lawful) : x.answers.length + x.requests.length < 12 := by
  obtain ⟨hout, -⟩ := hl
  simp only [Port.congested, decide_eq_false_iff_not] at hc
  simp only [Port.outstanding] at hout
  omega

/-- A request is answered or deferred: no port's silence changes, and nothing but ports. -/
theorem monitorsSound_ports {s t : State} (h : Only [] s t) (hs : ∀ n, (t.port n).silent = (s.port n).silent) : MonitorsSound s t := by
  refine ⟨fun c => .inl ⟨?_, ?_⟩, fun hL m => ?_⟩
  · simp [State.monitor, show t.monitors = s.monitors from h.2 .monitors (by decide)]
  · refine present_congr ?_ ?_ hs (fun k => ?_) c
    · rw [show t.comp = s.comp from h.2 .comp (by decide)]
    · rw [show t.clock = s.clock from h.2 .clock (by decide)]
    · rw [State.link, State.link, show t.links = s.links from h.2 .links (by decide)]
  · rw [State.monitor, show t.monitors = s.monitors from h.2 .monitors (by decide)]
    exact hL m

theorem silent_setPort {s : State} {p : PortId} {x : Port} (h : x.silent = (s.port p).silent) (n : PortId) :
    ((s.setPort p x).port n).silent = (s.port n).silent := by
  rw [port_setPort]
  split
  · next hn => rw [h, hn]
  · rfl

theorem monitorsSound_conclude (p : PortId) (q : Byte) (code : Nat) (r : State × Ans) : MonitorsSound r.1 (conclude p q code r) := by
  have hO : Only [] r.1 (conclude p q code r) := (only_conclude p q code r).mpr only_rfl
  refine monitorsSound_ports hO fun n => ?_
  unfold conclude
  split
  · next d _ => exact silent_setPort (x := deferTo d (r.1.port p)) rfl n
  · next a _ =>
    have hsend : ((sendAnswer p q code (decide (code ≠ 58)) a r.1).port n).silent = (r.1.port n).silent :=
      silent_setPort (x := answerTo q code (decide (code ≠ 58)) a (r.1.port p)) rfl n
    simp only
    split
    · exact (silent_setPort (x := ((sendAnswer p q code (decide (code ≠ 58)) a r.1).port p).statusRead) rfl n).trans hsend
    · exact hsend

/-- An answer that is not counted joins a port with room for it. -/
theorem lawsKept_refused {p : PortId} {s : State} (hc : (s.port p).congested = false) (q : Byte) (code : Nat) (r : Reply) :
    LawsKept s (sendAnswer p q code false r s) :=
  lawsKept_setPort rfl rfl fun h => lawful_answerTo (counted := false) h (room_of_uncongested hc h) nofun q code r

/-- What a block said becomes the answer or the deferred request of a port that had room for it. -/
theorem lawsKept_conclude {p : PortId} {q : Byte} {code : Nat} {s : State} {r : State × Ans} (h : Handled p code s r)
    (hs : (s.port p).silent = false) (hc : (s.port p).congested = false) (hcount : code ≠ 58 → (s.port p).outstanding < 4) :
    LawsKept s (conclude p q code r) := by
  have hm := monitorsSound_conclude p q code r
  refine ⟨fun hp hr => ?_, fun hmon hlatch => ?_⟩
  · obtain ⟨hp', hr'⟩ := h.tidy.laws.1 hp hr
    have hroom := (h.tidy.waiting p).trans_lt (room_of_uncongested hc (hp p))
    have hfew (hcode : code ≠ 58) := (h.tidy.outstanding p).trans_lt (hcount hcode)
    suffices LawsKept r.1 (conclude p q code r) from this.1 hp' hr'
    unfold conclude
    split
    · next d hd =>
      obtain ⟨hcode, hsilent⟩ := h.defers d hd
      exact lawsKept_setPort rfl rfl fun hl => lawful_deferTo hl hroom (hfew hcode) (.inr (hsilent.trans hs))
    · next a _ =>
      have hsend : LawsKept r.1 (sendAnswer p q code (decide (code ≠ 58)) a r.1) :=
        lawsKept_setPort rfl rfl fun hl => lawful_answerTo hl hroom (fun hd => hfew (of_decide_eq_true hd)) q code a
      simp only
      split
      · exact hsend.trans (steady_setPort (sound_statusRead _)).laws
      · exact hsend
  · obtain ⟨hmon', hlatch'⟩ := h.tidy.laws.2 hmon hlatch
    exact ⟨hm.law hmon', hm.latches hlatch'⟩

/-- The second check of R193: where it passes, fewer than four requests are outstanding, PortReset aside. -/
theorem outstanding_of_gate {p : PortId} {code : Nat} {s : State} (h : gate p code s = none) (hcode : code ≠ 58) : (s.port p).outstanding < 4 := by
  unfold gate at h
  split at h
  · cases h
  · next h4 => exact Nat.lt_of_not_le fun h => h4 ⟨h, hcode⟩

theorem silent_frameArrives (p : PortId) (s : State) : ((frameArrives p s).port p).silent = false := by
  rw [port_frameArrives, if_pos rfl]

theorem lawsKept_receive {i : Instr} {p : PortId} {q : Byte} {code : Nat} {fields : List Atom} (h : wireOf i = some (p, q, code, fields))
    (s : State) : LawsKept s (receive p q code (handOn i) s) := by
  unfold receive taken
  simp only
  refine (lawsKept_frameArrives p s).trans ?_
  split
  · exact LawsKept.refl _
  · next hc =>
    rw [Bool.not_eq_true] at hc
    split
    · exact lawsKept_refused hc ..
    · next hg =>
      exact lawsKept_conclude (handled_handOn h (silent_frameArrives p s)) (silent_frameArrives p s) hc (outstanding_of_gate hg)

/-! ### Received bytes (R189, R191, R193) -/

/-- What a reader of fields yields meets a condition. -/
def Take.Yields {α : Type} (P : α → Prop) (x : Take α) : Prop := ∀ l a rest, x l = some (a, rest) → P a

theorem Take.yields_value {α : Type} {P : α → Prop} {a : α} (h : P a) : Take.Yields P (Take.value a) := by
  intro l b rest hb
  cases hb
  exact h

theorem Take.yields_andThen {α β : Type} {P : β → Prop} {x : Take α} {f : α → Take β} (h : ∀ a, Take.Yields P (f a)) :
    Take.Yields P (Take.andThen x f) := by
  intro l b rest hb
  unfold Take.andThen at hb
  split at hb
  · cases hb
  · exact h _ _ _ _ hb

/-- A payload is read as a request of the port, the sequence number and the code it came under. -/
def ComesFrom (p : PortId) (q : Byte) (code : Nat) (i : Instr) : Prop := ∃ fields, wireOf i = some (p, q, code, fields)

theorem yields_takeRequest (p : PortId) (q : Byte) (code : Nat) : Take.Yields (ComesFrom p q code) (takeRequest p q code) := by
  unfold takeRequest
  split
  case h_60 =>
    intro _ _ _ h
    cases h
  all_goals
    repeat refine Take.yields_andThen fun _ => ?_
    exact Take.yields_value ⟨_, rfl⟩

theorem comesFrom_readPayload {p : PortId} {q : Byte} {code : Nat} {payload : List Byte} {i : Instr}
    (h : readPayload p q code payload = some i) : ComesFrom p q code i := by
  unfold readPayload at h
  split at h
  · next hr =>
    cases h
    exact yields_takeRequest p q code _ _ _ hr
  · cases h
  · cases h

theorem lawsKept_validFrame (p : PortId) (f : RxFrame) (s : State) : LawsKept s (validFrame p f s) := by
  unfold validFrame takenFrame
  simp only
  refine (lawsKept_frameArrives p s).trans ?_
  split
  · exact LawsKept.refl _
  · next hc =>
    rw [Bool.not_eq_true] at hc
    split
    · split
      · exact lawsKept_refused hc ..
      · exact lawsKept_refused hc ..
      · next i hg hi =>
        obtain ⟨fields, hw⟩ := comesFrom_readPayload hi
        exact lawsKept_conclude (handled_handOn hw (silent_frameArrives p s)) (silent_frameArrives p s) hc (outstanding_of_gate hg)
    · exact lawsKept_refused hc ..

/-- The receiver goes on filling a frame that is shorter than the longest. -/
theorem length_of_more {rx : List Byte} (h : judgeBytes rx = .more) : rx.length < 1032 := by
  unfold judgeBytes at h
  split at h
  · omega
  · split at h
    · cases h
    · split at h
      · omega
      · unfold wholeFrame at h
        simp only at h
        split at h <;> cases h

theorem lawsKept_setRx (p : PortId) {rx : List Byte} (h : rx.length < 1032) (s : State) : LawsKept s (setRx p rx s) :=
  (steady_setPort (sound_rx _ h)).laws

theorem lawsKept_rxByte (p : PortId) (s : State) (b : Byte) : LawsKept s (rxByte p s b) := by
  unfold rxByte
  simp only
  split
  · split
    · exact lawsKept_setRx p (by simp) s
    · exact LawsKept.refl s
  · split
    · next h => exact lawsKept_setRx p (length_of_more h) s
    · exact lawsKept_setRx p (by simp) s
    · exact (lawsKept_setRx p (by simp) s).trans ((lawsKept_validFrame ..).trans (steady_pump _).laws)

/-! ### Every step -/

theorem lawsKept_deviceReset (dirsel : Fin 8) (ratesel : Bool) (s : State) :
    LawsKept s (State.resetWith s.pending (s.free + 16) (norAtReset s) dirsel ratesel) :=
  ⟨fun _ _ => ⟨portLaw_resetWith _ _ _ _ _, roleLaw_resetWith ..⟩, fun _ _ => ⟨monitorLaw_resetWith .., latchLaw_resetWith _ _ _ _ _⟩⟩

theorem steady_holdEnd (k : LinkId) (s : State) : Steady s (if (s.link k).holdEnds then slotStart k s else s) := by
  split
  · exact steady_slotStart k s
  · exact Steady.refl s

/-- A step that ends by starting the free transmitters. -/
theorem lawsKept_next {o : Host.Outcome State Fault Refusal} {s t u : State} (h : LawsKept s u) (ho : o = .next (pump u)) (ht : o = .next t) :
    LawsKept s t := by
  obtain rfl : pump u = t := Host.Outcome.next.inj (ho.symm.trans ht)
  exact h.trans (steady_pump u).laws

theorem lawsKept_event {i : Instr} (hi : wireOf i = none) {s t : State} (h : exec i s = .next t) : LawsKept s t := by
  cases i
  case deviceReset => exact lawsKept_next (lawsKept_deviceReset ..) rfl h
  case startupScanEnd => exact lawsKept_next (steady_scanEnd ..).laws rfl h
  case genlockEdge => exact lawsKept_next (steady_genlockEdge ..).laws rfl h
  case frameTimerExpiry => exact lawsKept_next (steady_timerExpiry ..).laws rfl h
  case genlockLost => exact lawsKept_next (steady_genlockLoss ..).laws rfl h
  case claimDurationEnd => exact lawsKept_next (steady_tickIf ..).laws rfl h
  case spotComplete => exact lawsKept_next (steady_tickIf ..).laws rfl h
  case passComplete => exact lawsKept_next (steady_tickIf ..).laws rfl h
  case scoreFlashEnd => exact lawsKept_next (steady_tickIf ..).laws rfl h
  case inputFrameArrival => exact lawsKept_next (steady_inputArrival ..).laws rfl h
  case inputFrameDiscarded => exact lawsKept_next (LawsKept.refl s) rfl h
  case inputLost => exact lawsKept_next (steady_tickIf ..).laws rfl h
  case holdLimitFallback => exact lawsKept_next (steady_tickIf ..).laws rfl h
  case slotStart => exact lawsKept_next (steady_slotStart ..).laws rfl h
  case receiverStatus => exact lawsKept_next (steady_statusTaken ..).laws rfl h
  case slotEndNoStatus => exact lawsKept_next (steady_slotEnd ..).laws rfl h
  case linkHoldEnd k => exact lawsKept_next (steady_holdEnd k s).laws rfl h
  case frameClose => exact lawsKept_next (steady_frameClose ..).laws rfl h
  case linkDown => exact lawsKept_next (steady_tickIf ..).laws rfl h
  case msStep => exact lawsKept_next (lawsKept_msStep s) rfl h
  case mainExpiry => exact lawsKept_next (lawsKept_msIf ..) rfl h
  case possessionExpiry => exact lawsKept_next (lawsKept_msIf ..) rfl h
  case hornEnd => exact lawsKept_next (lawsKept_msIf ..) rfl h
  case whistle => exact lawsKept_next (steady_whistleEdge s).laws rfl h
  case heldEntryLapse => exact lawsKept_next (lawsKept_msIf ..) rfl h
  case pageProgramStart => exact lawsKept_next (steady_programStart s).laws rfl h
  case pageProgramEnd ok => exact lawsKept_next ((only_programEnd ok).steady (portsSound_programEnd ok s)).laws rfl h
  case markProgramStart => exact lawsKept_next (steady_markStart s).laws rfl h
  case markProgramEnd ok => exact lawsKept_next ((only_markEnd ok).steady (portsSound_markEnd ok s)).laws rfl h
  case reclaimBlockJudge => exact lawsKept_next (only_judgeBlock.steady (portsSound_judgeBlock s)).laws rfl h
  case blockEraseEnd ok => exact lawsKept_next ((only_eraseEnd ok).steady (portsSound_eraseEnd ok s)).laws rfl h
  case operationTimeLimit => exact lawsKept_next (steady_timeLimit s).laws rfl h
  case rxFrame p bytes => exact lawsKept_next (lawsKept_foldl (lawsKept_rxByte p) bytes s) rfl h
  case rxByteGap => exact lawsKept_next (steady_setPort (sound_rx _ (by simp))).laws rfl h
  case silenceTimeout => exact lawsKept_next (tidy_silenceExpiry ..).laws rfl h
  case txFrameEnd => exact lawsKept_next (steady_setPort (sound_lineEnds _)).laws rfl h
  all_goals cases hi

theorem lawsKept_exec {i : Instr} {s t : State} (h : exec i s = .next t) : LawsKept s t := by
  cases hi : wireOf i with
  | none => exact lawsKept_event hi h
  | some x =>
    rw [exec_of_wireOf hi] at h
    exact lawsKept_next (lawsKept_receive hi s) rfl h

/-- Settles O56: each step keeps the laws, a request by what its block and its answer make of the port that sent it. -/
theorem portsAndMonitorsKeepTheirLaws : Obligations.PortsAndMonitorsKeepTheirLaws := by
  intro s t h
  unfold step at h
  split at h
  · cases h
    exact LawsKept.refl s
  · next i rest _ => exact lawsKept_exec (s := s.withPending rest) h

end Sys2Proof.Machine
end

section
/-! PROOF. An engine's rank reaches its live claims (O9), and an accepted claim joins its wait list (O13). -/

namespace Sys2Proof.Machine

-- The proofs are checked one after another: side by side they ask for more threads than the memory limit leaves.
set_option Elab.async false

/-! ### The place of a joining claim (R23) -/

/-- A claim joins after every entry of equal or higher rank. -/
theorem insertClaim_between {c : Claim} {front back : List Claim} (hf : ∀ w ∈ front, c.rank ≤ w.rank) (hb : ∀ w ∈ back, w.rank < c.rank) :
    insertClaim c (front ++ back) = front ++ c :: back := by
  induction front with
  | nil =>
    cases back with
    | nil => rfl
    | cons w rest =>
      have hw := hb w List.mem_cons_self
      simp only [List.nil_append, insertClaim, if_neg (Nat.not_le.mpr hw)]
  | cons w rest ih =>
    have hw := hf w List.mem_cons_self
    simp only [List.cons_append, insertClaim, if_pos hw, ih fun x hx => hf x (List.mem_cons_of_mem w hx)]

/-- A ranked list is its entries of at least a rank, then its entries below it. -/
theorem ranked_split {l : List Claim} (h : Ranked l) (n : Nat) :
    l.filter (fun x => decide (n ≤ x.rank)) ++ l.filter (fun x => decide (x.rank < n)) = l := by
  induction l with
  | nil => rfl
  | cons w rest ih =>
    obtain ⟨hw, hrest⟩ := List.pairwise_cons.mp h
    by_cases hn : n ≤ w.rank
    · simp [hn, ih hrest]
    · have hlow : ∀ x ∈ rest, x.rank < n := fun x hx => by
        have := hw x hx
        omega
      have hnone : rest.filter (fun x => decide (n ≤ x.rank)) = [] := by
        simpa using fun x hx => hlow x hx
      have hall : rest.filter (fun x => decide (x.rank < n)) = rest := by
        simpa using fun x hx => hlow x hx
      simp [hn, hnone, hall, Nat.lt_of_not_le hn]

theorem insertClaim_ranked {c : Claim} {l : List Claim} (h : Ranked l) :
    insertClaim c l = l.filter (fun x => decide (c.rank ≤ x.rank)) ++ c :: l.filter (fun x => decide (x.rank < c.rank)) := by
  conv_lhs => rw [← ranked_split h c.rank]
  exact insertClaim_between (by simp) (by simp)

/-! ### SetEngineRank (R22) -/

/-- The claim with its rank changed where an engine's. -/
def Claim.reranked (e : Engine) (n : Nat) (w : Claim) : Claim := if w.claimant = .engine e then { w with rank := n } else w

theorem rerank_perm (e : Engine) (n : Nat) (x : RegionClaims) : (rerank e n x).waiting.Perm (x.waiting.map (Claim.reranked e n)) := by
  have hsplit := List.filter_append_perm (fun w : Claim => decide (w.claimant = .engine e)) x.waiting
  have hmine : (x.waiting.filter (fun w => decide (w.claimant = .engine e))).map (fun w : Claim => { w with rank := n })
      = (x.waiting.filter (fun w => decide (w.claimant = .engine e))).map (Claim.reranked e n) :=
    List.map_congr_left fun w hw => by simp [Claim.reranked, of_decide_eq_true (List.mem_filter.mp hw).2]
  have hothers : x.waiting.filter (fun w => !decide (w.claimant = .engine e))
      = (x.waiting.filter (fun w => !decide (w.claimant = .engine e))).map (Claim.reranked e n) := by
    conv_lhs => rw [← List.map_id (x.waiting.filter _)]
    exact List.map_congr_left fun w hw => by
      have hw : w.claimant ≠ .engine e := by simpa using (List.mem_filter.mp hw).2
      simp [Claim.reranked, hw]
  refine (foldl_insertClaim_perm (fun w => { w with rank := n }) _ _).trans ?_
  rw [hmine, hothers, ← List.map_append]
  exact hsplit.map _

/-- The one claim of an engine that waits is put back after every entry of equal or higher rank. -/
theorem rerank_one {e : Engine} {n : Nat} {x : RegionClaims} {front back : List Claim} {w : Claim} (hr : Ranked x.waiting)
    (hx : x.waiting = front ++ w :: back) (hw : w.claimant = .engine e) (hothers : ∀ y ∈ front ++ back, y.claimant ≠ .engine e) :
    (rerank e n x).waiting = (front ++ back).filter (fun y => decide (n ≤ y.rank))
      ++ { w with rank := n } :: (front ++ back).filter (fun y => decide (y.rank < n)) := by
  have hfront : ∀ y ∈ front, y.claimant ≠ .engine e := fun y hy => hothers y (List.mem_append_left _ hy)
  have hback : ∀ y ∈ back, y.claimant ≠ .engine e := fun y hy => hothers y (List.mem_append_right _ hy)
  have hmine : x.waiting.filter (fun y => decide (y.claimant = .engine e)) = [w] := by
    have h1 : front.filter (fun y => decide (y.claimant = .engine e)) = [] := by simpa using hfront
    have h2 : back.filter (fun y => decide (y.claimant = .engine e)) = [] := by simpa using hback
    simp [hx, hw, h1, h2]
  have hrest : x.waiting.filter (fun y => !decide (y.claimant = .engine e)) = front ++ back := by
    have h1 : front.filter (fun y => !decide (y.claimant = .engine e)) = front := by simpa using hfront
    have h2 : back.filter (fun y => !decide (y.claimant = .engine e)) = back := by simpa using hback
    simp [hx, hw, h1, h2]
  have hranked : Ranked (front ++ back) := by
    rw [hx] at hr
    exact hr.sublist (List.sublist_cons_self w back |>.append_left front)
  unfold rerank
  simp only [hmine, hrest, List.foldl_cons, List.foldl_nil]
  exact insertClaim_ranked hranked

theorem waitLaw_rerank {s t : State} {e : Engine} {n : Nat} (h : ∀ r, t.claims r = rerank e n (s.claims r)) (hw : WaitLaw s) : WaitLaw t :=
  fun r => by
    rw [h]
    exact (kept_rerank e n (s.claims r)).toLawful.ordered (hw r)

theorem only_onSetEngineRank (engine : Named Engine) (rank : Nat) (s : State) : Only [.arbiter] s (onSetEngineRank engine rank s).1 := by
  unfold onSetEngineRank
  split
  · exact only_rfl
  · next e => cases e <;> simp

/-- Settles O9: every region's claims are re-ranked in place. -/
theorem engineRankAppliesToLiveClaims : Obligations.EngineRankAppliesToLiveClaims := by
  intro p q e rank s hT hw
  have hact : onSetEngineRank (.known e) rank (frameArrives p s)
      = ((onSetEngineRank (.known e) rank (frameArrives p s)).1, .reply (doneIf (decide (7 < rank)) [nat (min 7 rank)])) := by
    simp [onSetEngineRank, Ans.doneAdjusted, doneIf, clampHits_zero, clamp_eq_min]
  have hport (n : PortId) : (onSetEngineRank (.known e) rank (frameArrives p s)).1.port n = (frameArrives p s).port n := by
    refine port_of_ports ?_ n
    simp only [onSetEngineRank, ports_mapClaims]
    cases e <;> rfl
  have hclaims (r : RegionId) : (onSetEngineRank (.known e) rank (frameArrives p s)).1.claims r = rerank e (min 7 rank) (s.claims r) := by
    simp only [onSetEngineRank, claims_mapClaims, clamp_eq_min]
    cases e <;> exact congrArg _ (frameArrives_claims p s r)
  have hrank (d : Engine) : (onSetEngineRank (.known e) rank (frameArrives p s)).1.engineRank d = if d = e then min 7 rank else s.engineRank d := by
    cases e <;> cases d <;> simp [onSetEngineRank, State.engineRank, mapClaims, clamp_eq_min]
  refine answers_of hT (by simp) (by simp) rfl hact (only_onSetEngineRank ..) (f := untouched) hport ?_
  generalize (onSetEngineRank (.known e) rank (frameArrives p s)).1 = u at hclaims hrank
  generalize ht : pump (sendAnswer p q 12 true (doneIf (decide (7 < rank)) [nat (min 7 rank)]) u) = t
  have harb : t.arbiter = u.arbiter := by simp [← ht]
  have hc (r : RegionId) : t.claims r = rerank e (min 7 rank) (s.claims r) := (claims_of_arbiter harb r).trans (hclaims r)
  have hr (d : Engine) : t.engineRank d = if d = e then min 7 rank else s.engineRank d := by
    rw [← hrank d]
    cases d <;> simp [State.engineRank, harb]
  refine ⟨by simp [hr], fun d hd => by simp [hr, hd], waitLaw_rerank hc hw, fun r => ?_⟩
  rw [hc r]
  exact ⟨rfl, rerank_perm e _ _, fun front w back hx hwe hothers => rerank_one (hw r).2 hx hwe hothers⟩

/-! ### Claim (R21, R25 to R27) -/

theorem mem_standings_waiting {r : RegionId} {x : RegionClaims} {w : Claim} (h : w ∈ x.waiting) : ∃ e ∈ standings r x, e.claim = w :=
  ⟨_, List.mem_append_right _ (List.mem_map_of_mem h), rfl⟩

/-- A waiting claim of a port stands in its claim set (R20). -/
theorem mem_claimSet_waiting {s : State} {r : RegionId} {p : PortId} {w : Claim} (h : w ∈ (s.claims r).waiting) (hw : w.claimant = .port p) :
    ∃ e ∈ s.claimSet p, e.claim = w := by
  obtain ⟨e, he, rfl⟩ := mem_standings_waiting (r := r) h
  exact ⟨e, List.mem_filter.mpr ⟨List.mem_flatMap.mpr ⟨r, mem_allRegions r, he⟩, by simp [hw]⟩, rfl⟩

/-- A tag that no claim of the port carries belongs to none that waits. -/
theorem not_same_of_fresh {s : State} {r : RegionId} {p : PortId} {tag : Nat} (hfresh : ∀ e ∈ s.claimSet p, e.claim.tag ≠ tag) {k w : Claim}
    (hk : k.claimant = .port p) (htag : k.tag = tag) (hw : w ∈ (s.claims r).waiting) : w.same k = false := by
  rw [Bool.eq_false_iff]
  intro hsame
  obtain ⟨hc, ht⟩ := (claim_same_iff w k).mp hsame
  obtain ⟨e, he, rfl⟩ := mem_claimSet_waiting hw (hc.trans hk)
  exact hfresh e he (ht.trans htag)

theorem positionOf_fresh {c : Claim} {front back : List Claim} (h : ∀ w ∈ front, w.same c = false) :
    positionOf c (front ++ c :: back) = front.length + 1 := by
  induction front with
  | nil => simp [positionOf, claim_same_refl]
  | cons w rest ih => simp [positionOf, h w List.mem_cons_self, ih fun x hx => h x (List.mem_cons_of_mem w hx)]

theorem checkContent_of_supplies {s : State} {g : Region} {content : ContentField} {c : ClaimContent} (h : Supplies s g content c) :
    checkContent s g content = .ok c := by
  unfold Supplies at h
  split at h
  · rw [h]
    rfl
  · exact h.elim
  · obtain ⟨hn, rfl⟩ := h
    exact dif_pos hn
  · obtain ⟨rfl, e, hnamed, hcomplete, hkind, hwidth, hheight⟩ := h
    simp [checkContent, hnamed, hcomplete, hkind, hwidth, hheight]
  · exact h.elim
  · exact h.elim
  · exact h.elim

/-- The clamps of Claim's fields (R197). -/
theorem claimHits (priority duration : Nat) :
    (clampHits 0 7 priority || clampHits 0 65535 duration) = decide (7 < priority ∨ 65535 < duration) := by
  simp [clampHits_zero]

/-- The claim a Claim makes (R26). -/
theorem newClaim_eq (p : PortId) (tag rank duration : Nat) (c : ClaimContent) (resume : Bool) :
    ({ claimant := .port p, tag := tag, rank := rank, content := c, duration := clamp 0 65535 duration,
       remaining := if clamp 0 65535 duration = 0 then none else some (clamp 0 65535 duration), resume := resume, mark := none } : Claim)
      = newClaim p tag rank duration c resume := by
  have h : min 65535 duration = 0 ↔ duration = 0 := by omega
  simp [newClaim, clamp_eq_min, h]

/-- What Claim says once its checks but the last have passed (R26, R27). -/
theorem onClaim_checked {p : PortId} {r : RegionId} {tag priority duration rank : Nat} {content : ContentField} {c : ClaimContent} {resume : Bool}
    {g : Region} {s : State} (hwithdrawn : (s.port p).withdrawn = false) (hallowed : contentAllowed (s.port p).role content = true)
    (hg : s.region r = some g) (hview : g.view = .none) (h1 : 1 ≤ tag) (h2 : tag ≤ 65535) (hc : Supplies s g content c)
    (hfresh : ∀ e ∈ s.claimSet p, e.claim.tag ≠ tag) (hroom : (s.claimSet p).length < 16)
    (hrank : rank = (s.port p).priorityMap.getD (min 7 priority) 0) :
    onClaim p r.val tag priority content duration resume s
      = if waitFull (s.claims r) rank then (s, .refuse .full)
        else
          ((joinWait r (newClaim p tag rank duration c resume) s).1,
            .reply (doneIf (decide (7 < priority ∨ 65535 < duration))
              [nat rank, nat (positionOf (newClaim p tag rank duration c resume)
                ((joinWait r (newClaim p tag rank duration c resume) s).1.claims r).waiting), nat (min 65535 duration)])) := by
  have hnone : s.claimOf p tag = none := List.find?_eq_none.mpr fun e he => by simpa using hfresh e he
  have hrange : inRange 1 65535 tag = true := by simp [inRange, h1, h2]
  have hrk : (s.port p).rankOf priority = rank := by rw [hrank, Port.rankOf, clamp_eq_min]
  unfold onClaim
  simp only [hwithdrawn, hallowed, toRegion_val, hg, Region.fixed, hview, hrange, checkContent_of_supplies hc, hnone, hrk, newClaim_eq, claimHits]
  simp [Nat.not_le.mpr hroom, Ans.doneAdjusted, doneIf, clamp_eq_min]

theorem waitFull_room {x : RegionClaims} (h : x.waiting.length < 4) (rank : Nat) : waitFull x rank = false := by
  unfold waitFull
  split
  · rfl
  · simp [Nat.not_le.mpr h]

/-- A full list whose last entry has a lower rank lets a claim in, in its place (R25). -/
theorem joinWait_evicts {r : RegionId} {s : State} {k last : Claim} {rest : List Claim} (hlen : (s.claims r).waiting.length = 4)
    (hwait : (s.claims r).waiting = rest ++ [last]) (hlow : last.rank < k.rank) :
    joinWait r k s = (evict r last k.rank (s.setClaims r { s.claims r with waiting := insertClaim k rest }), true) := by
  have hfull : ¬ (s.claims r).waiting.length < 4 := by omega
  unfold joinWait
  simp only [if_neg hfull]
  simp [hwait, hlow]

theorem supplies_of_assets {s u : State} (h : u.assets = s.assets) {g : Region} {content : ContentField} {c : ClaimContent}
    (hc : Supplies s g content c) : Supplies u g content c := by
  unfold Supplies at hc ⊢
  simpa only [h] using hc

/-- Settles O13: a claim that passes the checks takes the place of its rank, and the last of a full list of lower rank goes. -/
theorem claimJoinsTheWaitList : Obligations.ClaimJoinsTheWaitList := by
  intro p q r tag priority duration content c resume g rank front back s hT hwithdrawn hallowed hg hview h1 h2 hc hfresh hroom hrank hfront hback
  have hclaims (n : RegionId) : (frameArrives p s).claims n = s.claims n := frameArrives_claims p s n
  have hsays := onClaim_checked (duration := duration) (resume := resume) (s := frameArrives p s) (by simpa using hwithdrawn)
    (by simpa using hallowed) (by simpa using hg) hview h1 h2 (supplies_of_assets (frameArrives_assets p s) hc) (by simpa using hfresh)
    (by simpa using hroom) (by simpa using hrank)
  rw [hclaims] at hsays
  have hinsert := insertClaim_between (c := newClaim p tag rank duration c resume) hfront hback
  have hposition (hw : ∀ w ∈ front, w ∈ (s.claims r).waiting) :
      positionOf (newClaim p tag rank duration c resume) (front ++ newClaim p tag rank duration c resume :: back) = front.length + 1 :=
    positionOf_fresh fun w hmem => not_same_of_fresh hfresh rfl rfl (hw w hmem)
  have hjoined {u : State} (hu : ClaimsBecome r { s.claims r with waiting := front ++ newClaim p tag rank duration c resume :: back }
      (frameArrives p s) u) (a : Reply) : (pump (sendAnswer p q 22 true a u)).claims r
        = { s.claims r with waiting := front ++ newClaim p tag rank duration c resume :: back }
      ∧ ∀ n, n ≠ r → (pump (sendAnswer p q 22 true a u)).claims n = s.claims n := by
    have harb : (pump (sendAnswer p q 22 true a u)).arbiter = u.arbiter := by simp
    exact ⟨(claims_of_arbiter harb r).trans hu.self, fun n hn => (claims_of_arbiter harb n).trans ((hu.other hn).trans (hclaims n))⟩
  refine ⟨fun hwait hlen => ?_, fun last v hwait hlen hlast hlow => ?_, fun last hlast hlen hlow => ?_⟩
  · have hjoin := joinWait_room (s := frameArrives p s) (by rw [hclaims]; exact hlen) (newClaim p tag rank duration c resume)
    rw [hclaims, hwait, hinsert] at hjoin
    rw [waitFull_room hlen, hjoin] at hsays
    simp only [claims_setClaims_self, hposition fun w hw => hwait ▸ List.mem_append_left _ hw] at hsays
    exact answers_of hT (by simp) (by simp) rfl hsays (by simp) (fun _ => rfl) (hjoined (claimsBecome_setClaims ..) _)
  · have hfull : waitFull (s.claims r) rank = false := by simp [waitFull, hwait, hlow]
    have hjoin := joinWait_evicts (s := frameArrives p s) (k := newClaim p tag rank duration c resume) (by rw [hclaims]; exact hlen)
      (by rw [hclaims]; exact hwait) hlow
    rw [hclaims, hinsert] at hjoin
    have hevict {u : State} (hu : u.comp = s.comp) : evict r last (newClaim p tag rank duration c resume).rank u
        = notify v (claimNoticeOf .evicted r last.tag s.comp.frame [nat rank]) u := by
      simp only [evict, hlast, claimNotice, State.frame, hu]
      rfl
    rw [hevict (by simp)] at hjoin
    rw [hfull, hjoin] at hsays
    have hbecome : ClaimsBecome r { s.claims r with waiting := front ++ newClaim p tag rank duration c resume :: back } (frameArrives p s)
        (notify v (claimNoticeOf .evicted r last.tag s.comp.frame [nat rank]) ((frameArrives p s).setClaims r
          { s.claims r with waiting := front ++ newClaim p tag rank duration c resume :: back })) :=
      (claimsBecome_setClaims ..).congr (notify_arbiter ..)
    simp only [hbecome.self, hposition fun w hw => by simp [hwait, hw]] at hsays
    refine answers_of hT (by simp) (by simp) rfl hsays (by simp) (fun n => ?_) (hjoined hbecome _)
    rw [port_notify]
    simp only [noted, List.mem_singleton]
    rfl
  · have hfull : waitFull (s.claims r) rank = true := by simp [waitFull, hlast, hlen, hlow]
    rw [hfull] at hsays
    exact answers_unmoved hT (by simp) (by simp) rfl hsays

end Sys2Proof.Machine
end

section
/-! PROOF. A port is lost, reset or falls silent (R40, R41, R199, R200), and the port settings (O8). -/

namespace Sys2Proof.Machine

-- The proofs are checked one after another: side by side they ask for more threads than the memory limit leaves.
set_option Elab.async false

/-! ### A port's claims go (R40, R41) -/

theorem releasePort_waiting (p : PortId) (x : RegionClaims) :
    (releasePort p x).waiting = x.waiting.filter (fun w => !decide (w.claimant = .port p)) := by
  unfold releasePort
  simp only
  split
  · rw [markDrop_eq]
  · rfl

theorem releasePort_holder (p : PortId) (x : RegionClaims) :
    (releasePort p x).holder = x.holder.map (fun h => if h.claimant = .port p then { h with mark := some .dropRelease } else h) := by
  obtain ⟨_ | h, w, n⟩ := x
  · rfl
  · by_cases hp : h.claimant = .port p <;> simp [releasePort, RegionClaims.heldBy, markDrop, hp]

/-- What the loss of a port makes of every region's claims. -/
def ClaimsReleased (p : PortId) (s t : State) : Prop :=
  ∀ r, (t.claims r).waiting = (s.claims r).waiting.filter (fun w => !decide (w.claimant = .port p))
    ∧ (t.claims r).holder = (s.claims r).holder.map (fun h => if h.claimant = .port p then { h with mark := some .dropRelease } else h)

theorem claimsReleased_of {p : PortId} {s t : State} (h : ∀ r, t.claims r = releasePort p (s.claims r)) : ClaimsReleased p s t := fun r => by
  rw [h]
  exact ⟨releasePort_waiting .., releasePort_holder ..⟩

theorem arbiter_uploadOwnerLost (p : PortId) (s : State) : (uploadOwnerLost p s).arbiter = s.arbiter := by
  unfold uploadOwnerLost
  split
  · rfl
  · split
    · rfl
    · split <;> rfl

theorem arbiter_buildOwnerLost (p : PortId) (s : State) : (buildOwnerLost p s).arbiter = s.arbiter := by
  unfold buildOwnerLost
  split
  · split <;> rfl
  · rfl

theorem claims_portLost (p : PortId) (s : State) (r : RegionId) : (portLost p s).claims r = releasePort p (s.claims r) := by
  have h : (portLost p s).arbiter = (releaseClaims p s).arbiter := (arbiter_buildOwnerLost ..).trans (arbiter_uploadOwnerLost ..)
  rw [claims_of_arbiter h, releaseClaims, claims_mapClaims]

/-- The rotation after a port's build is discarded (R135). -/
def Rotation.withoutBuildOf (p : PortId) (x : Rotation) : Rotation :=
  { x with build := (match x.build with
                     | some b => if b.owner = p then none else some b
                     | none => none) }

theorem rotation_buildOwnerLost (p : PortId) (s : State) : (buildOwnerLost p s).rotation = s.rotation.withoutBuildOf p := by
  unfold buildOwnerLost Rotation.withoutBuildOf
  cases hb : s.rotation.build with
  | none =>
    show s.rotation = { s.rotation with build := none }
    rw [← hb]
  | some b =>
    show (if b.owner = p then setBuild none s else s).rotation = { s.rotation with build := if b.owner = p then none else some b }
    by_cases ho : b.owner = p
    · rw [if_pos ho, if_pos ho]
      rfl
    · rw [if_neg ho, if_neg ho, ← hb]

theorem rotation_uploadOwnerLost (p : PortId) (s : State) : (uploadOwnerLost p s).rotation = s.rotation := by
  unfold uploadOwnerLost
  split
  · rfl
  · split
    · rfl
    · split <;> rfl

theorem rotation_portLost (p : PortId) (s : State) : (portLost p s).rotation = s.rotation.withoutBuildOf p := by
  rw [portLost, rotation_buildOwnerLost, rotation_uploadOwnerLost, releaseClaims, mapClaims_rotation]

theorem assets_uploadOwnerLost_congr {s u : State} (h : u.assets = s.assets) (p : PortId) :
    (uploadOwnerLost p u).assets = (uploadOwnerLost p s).assets := by
  unfold uploadOwnerLost
  rw [h]
  split
  · exact h
  · split
    · exact h
    · split <;> rfl

theorem assets_portLost (p : PortId) (s : State) : (portLost p s).assets = (uploadOwnerLost p s).assets := by
  have hbuild (u : State) : (buildOwnerLost p u).assets = u.assets := by
    unfold buildOwnerLost
    split
    · split <;> rfl
    · rfl
  rw [portLost, hbuild]
  exact assets_uploadOwnerLost_congr (mapClaims_assets ..) p

/-- The open upload of another port stays (R180, R182). -/
theorem uploadOwnerLost_other {p : PortId} {s : State} (h : ∀ u, s.assets.upload = some u → u.owner ≠ p) : uploadOwnerLost p s = s := by
  unfold uploadOwnerLost
  split
  · rfl
  · next u hu => rw [if_pos (h u hu)]

/-! ### What a port keeps when notices reach it (R196) -/

/-- Nothing but a port's notices, their count and their loss flag differs, and the line. -/
structure Port.SameBut (x y : Port) : Prop where
  role : y.role = x.role
  timeout : y.timeout = x.timeout
  silentTimer : y.silentTimer = x.silentTimer
  silent : y.silent = x.silent
  withdrawn : y.withdrawn = x.withdrawn
  requests : y.requests = x.requests

theorem Port.SameBut.refl (x : Port) : Port.SameBut x x := ⟨rfl, rfl, rfl, rfl, rfl, rfl⟩

theorem Port.SameBut.trans {x y z : Port} (h : Port.SameBut x y) (k : Port.SameBut y z) : Port.SameBut x z :=
  ⟨k.role.trans h.role, k.timeout.trans h.timeout, k.silentTimer.trans h.silentTimer, k.silent.trans h.silent,
    k.withdrawn.trans h.withdrawn, k.requests.trans h.requests⟩

theorem sameBut_noteTo (n : Notice) (x : Port) : Port.SameBut x (noteTo n x) := by
  obtain ⟨hrole, -, htimer, htimeout, hsilent, hwithdrawn, -, hrequests, -⟩ := noteTo_kept n x
  exact ⟨hrole, htimeout, htimer, hsilent, hwithdrawn, hrequests⟩

theorem sameBut_startFrame (x : Port) : Port.SameBut x (startFrame x) := by
  obtain ⟨hrole, -, htimer, htimeout, hsilent, hwithdrawn, -, hrequests, -⟩ := startFrame_kept x
  exact ⟨hrole, htimeout, htimer, hsilent, hwithdrawn, hrequests⟩

theorem sameBut_notify (p : PortId) (n : Notice) (s : State) (m : PortId) : Port.SameBut (s.port m) ((notify p n s).port m) := by
  rw [port_notify]
  split
  · exact sameBut_noteTo ..
  · exact Port.SameBut.refl _

theorem sameBut_tellClock (k : NoticeKind) (fields : List Atom) (s : State) (m : PortId) :
    Port.SameBut (s.port m) ((tellClock k fields s).port m) := by
  rw [port_tellClock, noted]
  split
  · exact sameBut_noteTo ..
  · exact Port.SameBut.refl _

theorem sameBut_raise (m : MonitorId) (r : Option RegionId) (s : State) (n : PortId) : Port.SameBut (s.port n) ((raise m r s).port n) := by
  unfold raise
  simp only
  split
  · exact Port.SameBut.refl _
  · split
    · exact sameBut_notify s.director _ (s.setMonitor m (s.monitor m).rise) n
    · exact Port.SameBut.refl _

theorem sameBut_setUnsupervised (s : State) (n : PortId) : Port.SameBut (s.port n) ((setUnsupervised s).port n) :=
  (sameBut_raise monUnsupervised none (setClock { s.clock with unsupervised := true } s) n).trans (sameBut_tellClock ..)

/-! ### A port falls silent (R198, R199) -/

/-- What becomes of the part when a port falls silent. -/
structure Silenced (p : PortId) (s t : State) : Prop where
  port : Port.SameBut (s.port p).fallSilent (t.port p)
  others : ∀ n, n ≠ p → Port.SameBut (s.port n) (t.port n)
  monitor : (t.monitor (monSilent p)).condition = true
  claims : ∀ r, t.claims r = releasePort p (s.claims r)
  rotation : t.rotation = s.rotation.withoutBuildOf p
  clock : t.clock = if (s.port p).role = .scoring ∧ s.running = true then { s.clock with unsupervised := true } else s.clock
  rest : Only [.arbiter, .monitors, .clock, .rotation, .assets] s t

theorem only_raise' (m : MonitorId) (r : Option RegionId) (s : State) : Only [.monitors] s (raise m r s) :=
  (only_raise (parts := [.monitors]) (by simp) m r).mpr only_rfl

theorem clock_setUnsupervised (s : State) : (setUnsupervised s).clock = { s.clock with unsupervised := true } :=
  (only_raise' monUnsupervised none (setClock { s.clock with unsupervised := true } s)).2 .clock (by simp)

theorem condition_setUnsupervised (p : PortId) (s : State) :
    ((setUnsupervised s).monitor (monSilent p)).condition = (s.monitor (monSilent p)).condition := by
  have hne : monSilent p ≠ monUnsupervised := fun h => nomatch cause_monitor_injective (c := .silent p) (d := .unsupervised) h
  exact (condition_raise monUnsupervised (monSilent p) none (setClock { s.clock with unsupervised := true } s)).trans (if_neg hne)

theorem silenced_becomeSilent (p : PortId) (s : State) : Silenced p s (becomeSilent p s) := by
  have hset (n : PortId) : (s.setPort p (s.port p).fallSilent).port n = if n = p then (s.port p).fallSilent else s.port n := port_setPort ..
  have hO : Only [.monitors] s (raise (monSilent p) none (s.setPort p (s.port p).fallSilent)) := by simp
  have hraised (n : PortId) := sameBut_raise (monSilent p) none (s.setPort p (s.port p).fallSilent) n
  have hmon : ((raise (monSilent p) none (s.setPort p (s.port p).fallSilent)).monitor (monSilent p)).condition = true := by
    rw [condition_raise, if_pos rfl]
  unfold becomeSilent
  simp only
  generalize raise (monSilent p) none (s.setPort p (s.port p).fallSilent) = u at hO hraised hmon
  have hports : (portLost p u).ports = u.ports := ports_portLost p u
  have hlost : Only [.arbiter, .rotation, .assets] u (portLost p u) := by simp
  have hall : Only [.arbiter, .monitors, .clock, .rotation, .assets] s (portLost p u) := (hO.mono (by simp)).trans (hlost.mono (by simp))
  have hclaims (r : RegionId) : (portLost p u).claims r = releasePort p (s.claims r) := by
    rw [claims_portLost, claims_of_arbiter hO.arbiter]
  have hrotation : (portLost p u).rotation = s.rotation.withoutBuildOf p := by
    rw [rotation_portLost, show u.rotation = s.rotation from hO.2 .rotation (by simp)]
  have hclock : (portLost p u).clock = s.clock := (hlost.2 .clock (by simp)).trans (hO.2 .clock (by simp))
  have hself : Port.SameBut (s.port p).fallSilent ((portLost p u).port p) := by
    rw [port_of_ports hports]
    simpa [hset] using hraised p
  have hothers (n : PortId) (hn : n ≠ p) : Port.SameBut (s.port n) ((portLost p u).port n) := by
    rw [port_of_ports hports]
    simpa [hset, hn] using hraised n
  have hmonitor : ((portLost p u).monitor (monSilent p)).condition = true := by
    rw [State.monitor, show (portLost p u).monitors = u.monitors from hlost.2 .monitors (by simp)]
    exact hmon
  have hrole : ((portLost p u).port p).role = (s.port p).role := hself.role
  have hrunning : (portLost p u).running = s.running := by simp [State.running, hclock]
  rw [hrole, hrunning]
  split
  · next hs =>
    have hun : Only [.monitors, .clock] (portLost p u) (setUnsupervised (portLost p u)) := by simp [setUnsupervised]
    refine ⟨hself.trans (sameBut_setUnsupervised ..), fun n hn => (hothers n hn).trans (sameBut_setUnsupervised ..), ?_, fun r => ?_, ?_, ?_,
      hall.trans (hun.mono (by simp))⟩
    · rw [condition_setUnsupervised]
      exact hmonitor
    · rw [claims_of_arbiter hun.arbiter, hclaims]
    · rw [show (setUnsupervised (portLost p u)).rotation = (portLost p u).rotation from hun.2 .rotation (by simp), hrotation]
    · rw [clock_setUnsupervised, hclock, if_pos hs]
  · next hs => exact ⟨hself, hothers, hmonitor, hclaims, hrotation, by rw [hclock, if_neg hs], hall⟩

/-! ### SetPortRole, SetPortTimeout and SetPriorityMap (R21, R192, R198) -/

/-- A deferred request whose answer has not been sent whole (R194). -/
theorem deferredOutstanding_iff (x : Port) :
    x.deferredOutstanding = true ↔ x.requests ≠ [] ∨ ∃ a, (a ∈ x.answers ∨ x.line = some (.answer a)) ∧ a.deferred = true := by
  unfold Port.deferredOutstanding
  rcases x.line with _ | (_ | _) <;> simp [or_and_right, exists_or, or_assoc]

/-- What check 4 of SetPortRole looks for (R192). -/
theorem portInUse_iff (s : State) (n : PortId) :
    portInUse s n = true ↔ s.claimSet n ≠ [] ∨ (s.port n).requests ≠ []
      ∨ (∃ a, (a ∈ (s.port n).answers ∨ (s.port n).line = some (.answer a)) ∧ a.deferred = true)
      ∨ (∃ b, s.rotation.build = some b ∧ b.owner = n) ∨ ∃ u, s.assets.upload = some u ∧ u.owner = n ∧ u.orphan = false := by
  unfold portInUse
  rcases s.rotation.build with _ | b <;> rcases s.assets.upload with _ | u <;> simp [deferredOutstanding_iff, or_assoc]

theorem frameArrives_line (p n : PortId) (s : State) : ((frameArrives p s).port n).line = (s.port n).line := by
  rw [port_frameArrives]
  split
  · next h => rw [h]
  · rfl

theorem toPort_val (n : PortId) : toPort n.val = some n := by simp [toPort]

theorem setPortRole_asked {p : PortId} {n : PortId} {role : Role} {s : State} (hsetup : s.canvas.mode = .setup) (hn : n ≠ s.director)
    (hrole : role ≠ .director) (hone : role = .scoring → ∀ m, m ≠ n → (s.port m).role ≠ .scoring) :
    onSetPortRole n.val (.known role) (frameArrives p s)
      = if portInUse (frameArrives p s) n then (frameArrives p s, .refuse .busy)
        else ((frameArrives p s).setPort n { (frameArrives p s).port n with role := role }, .done []) := by
  have htarget : roleTarget (frameArrives p s) n.val = some n := by simp [roleTarget, toPort_val, hn]
  have hfree : ¬(role = .scoring ∧ allPorts.any (fun m => decide (m ≠ n) && decide (((frameArrives p s).port m).role = .scoring)) = true) := by
    rintro ⟨h, hany⟩
    obtain ⟨m, -, hm⟩ := List.any_eq_true.mp hany
    simp only [frameArrives_role, Bool.and_eq_true, decide_eq_true_eq] at hm
    exact hone h m hm.1 hm.2
  unfold onSetPortRole
  rw [frameArrives_live, live_of_setup hsetup, htarget]
  cases role
  case director => exact absurd rfl hrole
  all_goals exact (if_neg Bool.false_ne_true).trans (if_neg hfree)

/-- A change of one port, as the ports see it. -/
theorem port_onPort {s : State} {n : PortId} (f : Port → Port) (m : PortId) :
    (s.setPort n (f (s.port n))).port m = onPort n f m (s.port m) := by
  rw [port_setPort, onPort]
  split
  · next h => rw [h]
  · rfl

theorem storedTimeout_eq (ms : Nat) :
    storedTimeout ms = if ms = 0 then 0 else if ms < 250 then 250 else if 10000 < ms then 10000 else ms := by
  unfold storedTimeout clamp
  split
  · rfl
  · split
    · omega
    · split <;> omega

/-- The timer of a port does not reach a timeout asked for it (R198). -/
theorem silenceDue_stays {p n : PortId} {v : Nat} {s : State} (_hv : v = 0 ∨ 250 ≤ v)
    (h : n = p ∨ v = 0 ∨ (s.port n).silentTimer < v ∨ (s.port n).silent = true) :
    Port.silenceDue { (frameArrives p s).port n with timeout := v } = false := by
  have hport := port_frameArrives p n s
  simp only [Port.silenceDue, hport]
  split
  · simp only [Bool.not_false, Bool.true_and, Bool.and_eq_false_iff, decide_eq_false_iff_not]
    omega
  · next hn =>
    rcases h with h | h | h | h
    · exact absurd h hn
    · simp [h]
    · simp [Nat.not_le.mpr h]
    · simp [h]

theorem listAtoms_ranks {ranks : List Nat} (h : ranks.length = 8) :
    listAtoms (fun r => [nat r]) (ranks.map (clamp 0 7)) = .count 8 :: ranks.map (fun r => nat (min 7 r)) := by
  have hflat (l : List Nat) : l.flatMap (fun r => [nat (min 7 r)]) = l.map (fun r => nat (min 7 r)) :=
    (List.map_eq_flatMap ..).symm
  simp [listAtoms, h, clamp_eq_min, List.flatMap_map, hflat]

/-- The newest answer of a port once its answer has joined and the transmitters have looked. -/
theorem newest_answered (p : PortId) (q : Byte) (code : Nat) (r : Reply) (u : State) :
    ∃ a, ((pump (sendAnswer p q code true r u)).port p).newest = some a ∧ a.seq = q ∧ a.code = code ∧ a.outcome = r.outcome
      ∧ a.adjusted = r.adjusted ∧ a.fields = r.fields := by
  rw [port_pump, port_sendAnswer, if_pos rfl]
  exact ⟨_, newest_startFrame rfl, rfl, rfl, rfl, rfl, rfl⟩

theorem priorities_adjusted (ranks : List Nat) : ranks.any (clampHits 0 7) = decide (∃ r ∈ ranks, 7 < r) := by
  rw [Bool.eq_iff_iff, List.any_eq_true, decide_eq_true_eq]
  simp [clampHits_zero]

theorem setPortRole_stored (p : PortId) (q : Byte) (n : PortId) (role : Role) (s : State) (hT : Taken p 9 s) (hsetup : s.canvas.mode = .setup)
    (hn : n ≠ s.director) (hrole : role ≠ .director) (hone : role = .scoring → ∀ m, m ≠ n → (s.port m).role ≠ .scoring) :
    (portInUse s n = false → Answers (.setPortRole p q n.val (.known role)) p q 9 (doneWith []) [] (onPort n (fun x => { x with role := role })) s
      (fun _ => True))
    ∧ (portInUse s n = true → Answers (.setPortRole p q n.val (.known role)) p q 9 (refusal .busy) [] untouched s (fun _ => True)) := by
  have hasked := setPortRole_asked (p := p) hsetup hn hrole hone
  have hused : portInUse (frameArrives p s) n = portInUse s n := by
    rw [Bool.eq_iff_iff, portInUse_iff, portInUse_iff]
    simp [frameArrives_line]
  rw [hused] at hasked
  refine ⟨fun hfree => ?_, fun huse => ?_⟩
  · rw [hfree] at hasked
    exact answers_of hT (by simp) (by simp) rfl hasked (by simp) (fun m => port_onPort (fun x => { x with role := role }) m) trivial
  · rw [huse] at hasked
    exact answers_unmoved hT (by simp) (by simp) rfl hasked

/-- The state in which a port has its new timeout (R198). -/
theorem setPortTimeout_asked {p n : PortId} {ms v : Nat} {s : State}
    (hv : v = (if ms = 0 then 0 else if ms < 250 then 250 else if 10000 < ms then 10000 else ms)) :
    onSetPortTimeout n.val ms (frameArrives p s)
      = (silenceExpiry n ((frameArrives p s).setPort n { (frameArrives p s).port n with timeout := v }),
          .reply (doneIf (decide (v ≠ ms)) [nat v])) := by
  rw [← storedTimeout_eq] at hv
  simp [onSetPortTimeout, toPort_val, ← hv, Ans.doneAdjusted, doneIf]

/-- Settles O8: each request stores its one field, a timeout reached already making its port Silent. -/
theorem portSettingsAreStored : Obligations.PortSettingsAreStored := by
  refine ⟨fun p q n role s hT hsetup hn hrole hone => ?_, fun p q n ms v s hT hv hstay => ?_, fun p q n ms v s hT hv hn hv0 hdue hsilent => ?_,
    fun p q n ranks s hT hlen => ?_⟩
  · intro used
    obtain ⟨hfree, huse⟩ := setPortRole_stored p q n role s hT hsetup hn hrole hone
    exact ⟨fun h => hfree (Bool.eq_false_iff.mpr fun hu => h ((portInUse_iff s n).mp hu)), fun h => huse ((portInUse_iff s n).mpr h)⟩
  · have hasked := setPortTimeout_asked (p := p) (n := n) (s := s) hv
    have hrange : v = 0 ∨ 250 ≤ v := by
      rw [← storedTimeout_eq] at hv
      have := storedTimeout_range ms
      omega
    have hdue : silenceExpiry n ((frameArrives p s).setPort n { (frameArrives p s).port n with timeout := v })
        = (frameArrives p s).setPort n { (frameArrives p s).port n with timeout := v } := by
      unfold silenceExpiry
      rw [port_setPort, if_pos rfl, silenceDue_stays hrange hstay]
      rfl
    rw [hdue] at hasked
    exact answers_of hT (by simp) (by simp) rfl hasked (by simp) (fun m => port_onPort (fun x => { x with timeout := v }) m) trivial
  · have hasked := setPortTimeout_asked (p := p) (n := n) (s := s) hv
    have hport : (frameArrives p s).port n = s.port n := by rw [port_frameArrives, if_neg hn]
    have hexpire : silenceExpiry n ((frameArrives p s).setPort n { (frameArrives p s).port n with timeout := v })
        = becomeSilent n ((frameArrives p s).setPort n { (frameArrives p s).port n with timeout := v }) := by
      unfold silenceExpiry
      rw [port_setPort, if_pos rfl, if_pos]
      simp [Port.silenceDue, hport, hsilent, hv0, hdue]
    have hs := silenced_becomeSilent n ((frameArrives p s).setPort n { (frameArrives p s).port n with timeout := v })
    rw [hexpire] at hasked
    generalize becomeSilent n ((frameArrives p s).setPort n { (frameArrives p s).port n with timeout := v }) = u at hs hasked
    have hself := hs.port
    rw [port_setPort, if_pos rfl] at hself
    refine ⟨_, exec_of_reply hT (by simp) (by simp) rfl hasked, ?_⟩
    have hend : Port.SameBut (u.port n) ((pump (sendAnswer p q 10 true (doneIf (decide (v ≠ ms)) [nat v]) u)).port n) := by
      rw [port_pump, port_sendAnswer, if_neg hn]
      exact sameBut_startFrame _
    have harb : (pump (sendAnswer p q 10 true (doneIf (decide (v ≠ ms)) [nat v]) u)).arbiter = u.arbiter := by simp
    refine ⟨hend.silent.trans hself.silent, hend.timeout.trans hself.timeout, hend.withdrawn.trans hself.withdrawn, hs.monitor, ?_,
      newest_answered ..⟩
    exact claimsReleased_of fun r => (claims_of_arbiter harb r).trans (by rw [hs.claims]; exact congrArg _ (frameArrives_claims p s r))
  · have hasked : onSetPriorityMap n.val ranks (frameArrives p s)
        = ((frameArrives p s).setPort n { (frameArrives p s).port n with priorityMap := ranks.map (min 7) },
            .reply (doneIf (decide (∃ r ∈ ranks, 7 < r)) (.count 8 :: ranks.map (fun r => nat (min 7 r))))) := by
      have hmap : ranks.map (clamp 0 7) = ranks.map (min 7) := List.map_congr_left fun n _ => clamp_eq_min 7 n
      have hatoms := listAtoms_ranks hlen
      rw [hmap] at hatoms
      simp [onSetPriorityMap, toPort_val, hlen, hmap, hatoms, priorities_adjusted, Ans.doneAdjusted, doneIf]
    exact answers_of hT (by simp) (by simp) rfl hasked (by simp)
      (fun m => port_onPort (fun x => { x with priorityMap := ranks.map (min 7) }) m) trivial

end Sys2Proof.Machine
end

section
/-! PROOF. PortReset (O29), the lapse of Held entries and the fall into silence (O46). -/

namespace Sys2Proof.Machine

-- The proofs are checked one after another: side by side they ask for more threads than the memory limit leaves.
set_option Elab.async false

/-! ### PortReset (R200) -/

/-- What PortReset says of the port it may reset. -/
theorem onPortReset_named {p n : PortId} {field : Option Nat} {s : State}
    (h : field = some n.val ∧ (n = p ∨ (s.port p).role = .director) ∨ field = none ∧ n = p) :
    onPortReset p field s = (resetPort n s, .reply (doneWith [])) := by
  have hport : toPort (field.getD p.val) = some n := by
    rcases h with ⟨rfl, -⟩ | ⟨rfl, rfl⟩
    · exact toPort_val n
    · exact toPort_val n
  have hright : ¬(n ≠ p ∧ (s.port p).role ≠ .director) := by
    rcases h with ⟨-, hn | hr⟩ | ⟨-, hn⟩
    · exact fun h => h.1 hn
    · exact fun h => h.2 hr
    · exact fun h => h.1 hn
  unfold onPortReset
  rw [hport]
  simp only
  rw [if_neg hright]
  rfl

theorem exec_portReset {p : PortId} {q : Byte} {field : Option Nat} {s u : State} {r : Reply} (hT : Taken p 58 s)
    (ha : onPortReset p field (frameArrives p s) = (u, .reply r)) :
    exec (.portReset p q field) s = .next (pump (sendAnswer p q 58 false r u)) := by
  have hx : exec (.portReset p q field) s = .next (pump (receive p q 58 (onPortReset p field) s)) := rfl
  rw [hx, receive_of_taken hT, ha]
  simp [conclude]

/-- The ports after the reset of one and the answer of another. -/
theorem portsBecome_reset (p n : PortId) (q : Byte) (r : Reply) (s : State) :
    PortsBecome (thenPorts (onPort n Port.cleared) (onPort p (answerTo q 58 false r))) s (pump (sendAnswer p q 58 false r (resetPort n s))) := by
  intro m
  have hreset : (resetPort n s).port m = onPort n Port.cleared m (s.port m) :=
    (port_of_ports (ports_portLost n _) m).trans (port_onPort Port.cleared m)
  rw [port_pump, port_sendAnswer, hreset]
  rfl

/-- The reset of a port that does not own the open upload. -/
theorem only_resetPort {n : PortId} {s : State} (h : ∀ u, s.assets.upload = some u → u.owner ≠ n) : Only [.arbiter, .rotation] s (resetPort n s) := by
  have hlost : resetPort n s = buildOwnerLost n (releaseClaims n (s.setPort n (s.port n).cleared)) := by
    refine congrArg (buildOwnerLost n) (uploadOwnerLost_other fun u hu => h u ?_)
    rw [← hu, releaseClaims, mapClaims_assets]
    rfl
  rw [hlost]
  simp

theorem reset_ownUpload {n : PortId} {u : Upload} {s : State} (hu : s.assets.upload = some u) (ho : u.owner = n) :
    (resetPort n s).assets
      = if u.job.isNone then abortUpload u s.assets else { s.assets with upload := some { u with orphan := true } } := by
  have hlost : (resetPort n s).assets = (uploadOwnerLost n s).assets :=
    (assets_portLost ..).trans (assets_uploadOwnerLost_congr (by simp) n)
  rw [hlost]
  unfold uploadOwnerLost
  rw [hu]
  simp only [ho, ne_eq, not_true_eq_false, if_false]
  split <;> rfl

/-- Settles O29: the reset empties the port, releases its claims, discards its build and ends its upload. -/
theorem portResetEmptiesThePort : Obligations.PortResetEmptiesThePort := by
  refine ⟨fun p q n field s hT hfield hupload => ?_, fun p q n field u s hT hfield hu ho => ?_, fun p q n s hT hn hr => ?_⟩
  · have hnamed := onPortReset_named (s := frameArrives p s) (by simpa using hfield)
    refine ⟨_, exec_portReset hT hnamed, ⟨?_, ?_⟩, ?_, portsBecome_reset p n q (doneWith []) (frameArrives p s)⟩
    · refine claimsReleased_of fun r => ?_
      have harb : (pump (sendAnswer p q 58 false (doneWith []) (resetPort n (frameArrives p s)))).arbiter = (resetPort n
        (frameArrives p s)).arbiter := by
        simp
      rw [claims_of_arbiter harb, resetPort, claims_portLost]
      exact congrArg _ (frameArrives_claims p s r)
    · have hrot : (pump (sendAnswer p q 58 false (doneWith []) (resetPort n (frameArrives p s)))).rotation
          = (resetPort n (frameArrives p s)).rotation := by simp
      have hset : ((frameArrives p s).setPort n ((frameArrives p s).port n).cleared).rotation = s.rotation := frameArrives_rotation ..
      rw [hrot, resetPort, rotation_portLost, hset]
      rfl
    · exact only_pump_sendAnswer _ _ _ _ _ (only_resetPort (by simpa using hupload))
  · have hnamed := onPortReset_named (s := frameArrives p s) (by simpa using hfield)
    refine ⟨_, exec_portReset hT hnamed, ?_⟩
    have hassets := reset_ownUpload (n := n) (s := frameArrives p s) (by simpa using hu) ho
    rw [frameArrives_assets] at hassets
    have hsame : (pump (sendAnswer p q 58 false (doneWith []) (resetPort n (frameArrives p s)))).assets
        = (resetPort n (frameArrives p s)).assets := by simp
    rw [hsame, hassets]
    refine ⟨fun hj => ?_, fun hj => ?_⟩
    · simp [hj, abortUpload, closeUpload, retireRecord]
    · rw [if_neg]
      rw [← Option.not_isSome, hj]
      decide
  · have hasked : onPortReset p (some n.val) (frameArrives p s) = (frameArrives p s, .reply (refusal .notPermitted)) := by
      simp [onPortReset, toPort_val, hn, hr, Ans.refuse, refusal]
    refine ⟨_, exec_portReset hT hasked, trivial, only_pump_sendAnswer _ _ _ _ _ only_rfl, fun m => ?_⟩
    rw [port_pump, port_sendAnswer]
    rfl

/-! ### Held entries lapse (R158) -/

theorem now_lowerMain (k : Clock) : k.lowerMain.now = k.now := by
  unfold Clock.lowerMain
  split
  · rfl
  · split <;> rfl

theorem now_count (k : Clock) : k.count.now = k.now + 1 := by
  unfold Clock.count
  simp only
  split
  · exact now_lowerMain _
  · rfl

theorem now_testHorn (k : Clock) : k.testHorn.now = k.now := by
  unfold Clock.testHorn
  split
  · rfl
  · split <;> rfl

theorem now_mainExpiry (s : State) : (mainExpiry s).clock.now = s.clock.now := by
  simp [mainExpiry, clock_captureEvent, setClock, Clock.sound]

theorem now_possessionExpiry (s : State) : (possessionExpiry s).clock.now = s.clock.now := by
  simp [possessionExpiry, clock_captureEvent, setClock, Clock.sound]

theorem now_clockStep (s : State) : (clockStep s).clock.now = s.clock.now + 1 := by
  unfold clockStep
  extract_lets k t u v
  have hu : u.clock.now = s.clock.now + 1 := by
    unfold u
    split
    · exact (now_possessionExpiry t).trans (now_count _)
    · exact now_count _
  have hv : v.clock.now = s.clock.now + 1 := by
    unfold v
    split
    · exact (now_mainExpiry u).trans hu
    · exact hu
  exact (now_testHorn _).trans hv

theorem now_silenceExpiry (p : PortId) (s : State) : (silenceExpiry p s).clock.now = s.clock.now := by
  unfold silenceExpiry
  split
  · rw [(silenced_becomeSilent p s).clock]
    split <;> rfl
  · rfl

theorem now_settleOverdue (s : State) : (settleOverdue s).clock.now = s.clock.now := by
  have hlimit (u : State) : (timeLimit u).clock = u.clock :=
    ((only_timeLimit (parts := [.assets, .free]) (by simp)).mpr only_rfl).2 .clock (by simp)
  have hfold : ∀ (l : List PortId) (u : State), (l.foldl (fun t p => silenceExpiry p t) u).clock.now = u.clock.now := by
    intro l
    induction l with
    | nil => exact fun _ => rfl
    | cons p rest ih => exact fun u => (ih _).trans (now_silenceExpiry p u)
  rw [settleOverdue, hlimit, hfold]

theorem held_lapseHeld (s : State) :
    (lapseHeld s).messages.held = s.messages.held.filter (fun e => !e.lapses s.messages.settings.holdLimit s.clock.now) := by
  have hfold : ∀ (l : List Entry) (n : Nat) (u : State), (l.foldl (fun t e => tellSubmitter .lapsed e [nat n] t) u).messages = u.messages := by
    intro l n
    induction l with
    | nil => exact fun _ => rfl
    | cons e rest ih => exact fun u => (ih _).trans rfl
  unfold lapseHeld
  simp only
  rw [hfold]
  rfl

/-- What a ms step makes of the Held entries and the timebase (R82, R158). -/
theorem msStep_held (s : State) :
    (msStep s).messages.held = s.messages.held.filter (fun e => !e.lapses s.messages.settings.holdLimit (s.clock.now + 1))
      ∧ (msStep s).clock.now = s.clock.now + 1 := by
  have hmessages : (clockStep (settleOverdue s)).messages = s.messages :=
    (((only_clockStep (parts := [.clock, .captures]) (by simp)).mpr only_rfl).2 .messages (by simp)).trans
      (only_settleOverdue.2 .messages (by simp))
  have hnow : (clockStep (settleOverdue s)).clock.now = s.clock.now + 1 := by rw [now_clockStep, now_settleOverdue]
  have hclock (u : State) : (lapseHeld u).clock = u.clock :=
    ((only_lapseHeld (parts := [.messages]) (by simp)).mpr only_rfl).2 .clock (by simp)
  have hcount : Only [] (lapseHeld (clockStep (settleOverdue s))) (msStep s) := only_countSilence.mpr only_rfl
  refine ⟨?_, ?_⟩
  · rw [show (msStep s).messages = (lapseHeld (clockStep (settleOverdue s))).messages from hcount.2 .messages (by simp),
      held_lapseHeld, hmessages, hnow]
  · rw [show (msStep s).clock = (lapseHeld (clockStep (settleOverdue s))).clock from hcount.2 .clock (by simp), hclock, hnow]

/-! ### The timeouts (R158, R198) -/

theorem heldEntryLapses (e : Entry) (s : State) (he : e ∈ s.messages.held) (hlimit : 0 < s.messages.settings.holdLimit)
    (hdue : s.messages.settings.holdLimit * 1000 ≤ (s.clock.now + 1 - e.submitted).toNat) :
    ∃ t, exec (.heldEntryLapse e.submitter e.tag) s = .next t ∧ e ∉ t.messages.held ∧ t.clock.now = s.clock.now + 1
      ∧ ∀ x ∈ s.messages.held, (s.clock.now + 1 - x.submitted).toNat < s.messages.settings.holdLimit * 1000 → x ∈ t.messages.held := by
  have hlapses : e.lapses s.messages.settings.holdLimit (s.clock.now + 1) = true :=
    Bool.and_eq_true_iff.mpr ⟨decide_eq_true hlimit.ne', decide_eq_true hdue⟩
  have hasked : lapseDue s e.submitter e.tag = true :=
    List.any_eq_true.mpr ⟨e, he, Bool.and_eq_true_iff.mpr ⟨by simp [Entry.is], hlapses⟩⟩
  obtain ⟨hheld, hnow⟩ := msStep_held s
  refine ⟨pump (msStep s), ?_, ?_, (congrArg Clock.now (pump_clock _)).trans hnow, fun x hx hsoon => ?_⟩
  · show Host.Outcome.next (pump (msIf (lapseDue s e.submitter e.tag) s)) = _
    rw [hasked, msIf, if_pos rfl]
  · rw [pump_messages, hheld, List.mem_filter, hlapses]
    exact fun h => absurd h.2 (by decide)
  · have hstays : x.lapses s.messages.settings.holdLimit (s.clock.now + 1) = false :=
      Bool.and_eq_false_iff.mpr (.inr (decide_eq_false (Nat.not_le.mpr hsoon)))
    rw [pump_messages, hheld, List.mem_filter, hstays]
    exact ⟨hx, rfl⟩

/-- Settles O46: the entry goes with its ms step, and the port at its timeout. -/
theorem timeoutsAct : Obligations.TimeoutsAct := by
  refine ⟨heldEntryLapses, fun p s hsilent htimeout hreached => ?_, fun p s hstay => ?_⟩
  · have hdue : (s.port p).silenceDue = true := by simp [Port.silenceDue, hsilent, htimeout, hreached]
    have hs := silenced_becomeSilent p s
    refine ⟨pump (becomeSilent p s), ?_, ?_⟩
    · show Host.Outcome.next (pump (silenceExpiry p s)) = _
      rw [silenceExpiry, if_pos hdue]
    · have hself : Port.SameBut (s.port p).fallSilent ((pump (becomeSilent p s)).port p) := by
        rw [port_pump]
        exact hs.port.trans (sameBut_startFrame _)
      have hfields : (pump (becomeSilent p s)).arbiter = (becomeSilent p s).arbiter ∧ (pump (becomeSilent p s)).clock = (becomeSilent p s).clock
          ∧ (pump (becomeSilent p s)).rotation = (becomeSilent p s).rotation ∧ (pump (becomeSilent p s)).messages = (becomeSilent p s).messages := by
        simp
      obtain ⟨harb, hclock, hrotation, hmessages⟩ := hfields
      refine ⟨hself.silent, hself.withdrawn, hs.monitor, fun d hd => ?_, ?_, fun b hb ho => ?_, ?_, ?_⟩
      · rw [hself.requests] at hd
        simpa using (List.mem_filter.mp hd).2
      · exact claimsReleased_of fun r => (claims_of_arbiter harb r).trans (hs.claims r)
      · rw [hrotation, hs.rotation]
        simp [Rotation.withoutBuildOf, hb, ho]
      · have hrun : s.running = true ↔ s.clock.state = .running := by simp [State.running]
        rw [hclock, hs.clock, ← hrun]
        split
        · next h => exact iff_of_true rfl (.inr h)
        · next h => exact ⟨.inl, fun k => k.resolve_right h⟩
      · rw [hmessages]
        exact hs.rest.2 .messages (by simp)
  · have hdue : (s.port p).silenceDue = false := by
      simp only [Port.silenceDue, Bool.and_eq_false_iff, Bool.not_eq_false', decide_eq_false_iff_not]
      rcases hstay with h | h | h
      · exact .inl (.inl h)
      · exact .inl (.inr (not_not.mpr h))
      · exact .inr (Nat.not_le.mpr h)
    refine ⟨pump s, ?_, trivial, only_pump only_rfl, fun n => port_pump s n⟩
    show Host.Outcome.next (pump (silenceExpiry p s)) = _
    rw [silenceExpiry, hdue]
    rfl

end Sys2Proof.Machine
end

section
/-! SUPPORT. What an engine makes of every region when it settles its interest (R25, R126, R160). -/

namespace Sys2Proof.Machine

-- The proofs are checked one after another: side by side they ask for more threads than the memory limit leaves.
set_option Elab.async false

/-! ### One region settled -/

theorem settles_congr {e : Engine} {rank : Nat} {r : RegionId} {a b : Prop} {x y : RegionClaims} {again : Bool} (h : a ↔ b)
    (hs : Settles e rank r a x y again) : Settles e rank r b x y again := propext h ▸ hs

/-- Another engine's flags, and those of other regions. -/
theorem offering_setOffering_other {s : State} {e d : Engine} {r n : RegionId} {b : Bool} (h : d ≠ e ∨ n ≠ r) :
    (s.setOffering e r b).offering d n = s.offering d n := by
  by_cases hd : d = e
  · subst hd
    rw [offering_setOffering, if_neg (h.resolve_left (not_not.mpr rfl))]
  · cases e <;> cases d
    case rotation.rotation => exact absurd rfl hd
    case message.message => exact absurd rfl hd
    all_goals rfl

theorem offering_evict_other {r n : RegionId} (h : n ≠ r) (c : Claim) (rank : Nat) (e : Engine) (s : State) :
    (evict r c rank s).offering e n = s.offering e n := by
  unfold evict
  split
  · unfold claimNotice
    split
    · cases e <;> rfl
    · rfl
  · exact offering_setOffering_other (.inr h)

theorem arbiter_evict (r : RegionId) (c : Claim) (rank : Nat) (s : State) : (evict r c rank s).arbiter = s.arbiter :=
  ((only_evict (parts := [.rotation, .messages]) (by simp) r c rank).mpr only_rfl).arbiter

theorem offering_joinWait_other {r n : RegionId} (h : n ≠ r) (c : Claim) (e : Engine) (s : State) :
    (joinWait r c s).1.offering e n = s.offering e n := by
  have hset (x : RegionClaims) : (s.setClaims r x).offering e n = s.offering e n := by cases e <;> rfl
  unfold joinWait
  simp only
  split
  · exact hset _
  · split
    · rfl
    · split
      · rw [offering_evict_other h, hset]
      · rfl

theorem engineRank_setClaims (r : RegionId) (x : RegionClaims) (s : State) (e : Engine) : (s.setClaims r x).engineRank e = s.engineRank e := by
  cases e <;> rfl

theorem engineRank_of_arbiter {s t : State} (h : t.arbiter = s.arbiter) (e : Engine) : t.engineRank e = s.engineRank e := by
  cases e <;> simp [State.engineRank, h]

theorem engineRank_joinWait (r : RegionId) (c : Claim) (s : State) (e : Engine) : (joinWait r c s).1.engineRank e = s.engineRank e := by
  unfold joinWait
  simp only
  split
  · exact engineRank_setClaims ..
  · split
    · rfl
    · split
      · rw [engineRank_of_arbiter (arbiter_evict ..), engineRank_setClaims]
      · rfl

/-- What settling makes of the regions listed: an engine's claims there, and nothing of other regions, of interests or of ranks. -/
structure Settling (e : Engine) (rs : List RegionId) (s t : State) : Prop where
  done : ∀ r ∈ rs, Settles e (s.engineRank e) r (s.interest e r = true) (s.claims r) (t.claims r) (t.offering e r)
  others : ∀ r, r ∉ rs → t.claims r = s.claims r ∧ t.offering e r = s.offering e r
  interest : ∀ d r, t.interest d r = s.interest d r
  rank : ∀ d, t.engineRank d = s.engineRank d

theorem Settling.refl (e : Engine) (s : State) : Settling e [] s s :=
  ⟨nofun, fun _ _ => ⟨rfl, rfl⟩, fun _ _ => rfl, fun _ => rfl⟩

/-- An engine offers its claim on a region that it has none on (R25). -/
theorem settles_offer {e : Engine} {r : RegionId} {s : State} (h : s.interest e r = true) (hheld : (s.claims r).heldBy (.engine e) = false)
    (hwait : (s.claims r).awaitedBy (.engine e) = false) :
    Settles e (s.engineRank e) r (s.interest e r = true) (s.claims r) ((offer e r s).claims r) ((offer e r s).offering e r) := by
  have hoffer : (offer e r s).claims r = (joinWait r (engineClaim s e r) s).1.claims r
      ∧ (offer e r s).offering e r = !(joinWait r (engineClaim s e r) s).2 := by
    refine ⟨claims_of_arbiter (setOffering_arbiter ..) r, ?_⟩
    exact (offering_setOffering (joinWait r (engineClaim s e r) s).1 e r r (!(joinWait r (engineClaim s e r) s).2)).trans (if_pos rfl)
  rw [hoffer.1, hoffer.2, engineClaim_eq]
  refine ⟨fun _ hlive => ?_, fun _ _ _ => ⟨fun front back hf hb => ⟨fun hlen hx => ?_, fun last hlen hx hlow => ?_⟩, fun last hlen hlast hlow => ?_⟩,
    fun hn => absurd h hn⟩
  · simp [hheld, hwait] at hlive
  · rw [joinWait_room hlen, hx, insertClaim_between (c := standingClaim e (s.engineRank e) r) hf hb]
    exact ⟨claims_setClaims_self .., rfl⟩
  · rw [joinWait_evicts hlen hx hlow, insertClaim_between (c := standingClaim e (s.engineRank e) r) hf hb]
    exact ⟨(claims_of_arbiter (arbiter_evict r last _ _) r).trans (claims_setClaims_self s r _), rfl⟩
  · have hfull : ¬(s.claims r).waiting.length < 4 := by omega
    have hstays : joinWait r (standingClaim e (s.engineRank e) r) s = (s, false) := by
      unfold joinWait
      simp only [if_neg hfull, hlast]
      exact if_neg (Nat.not_lt.mpr hlow)
    rw [hstays]
    exact ⟨rfl, rfl⟩

/-- An engine with no interest left in a region releases its claims there (R126, R160). -/
theorem settles_releaseEngine {e : Engine} {r : RegionId} {s : State} (h : s.interest e r = false) :
    Settles e (s.engineRank e) r (s.interest e r = true) (s.claims r) ((releaseEngine e r s).claims r) ((releaseEngine e r s).offering e r) := by
  have hwants : ¬s.interest e r = true := by simp [h]
  refine ⟨fun hw => absurd hw hwants, fun hw => absurd hw hwants, fun _ => ⟨?_, ?_⟩⟩
  · rw [(claims_releaseEngine e r s).self]
    rcases s.claims r with ⟨_ | k, w, n⟩
    · rfl
    · by_cases hk : k.claimant = .engine e <;> simp [RegionClaims.heldBy, markDrop, hk]
  · show (State.setOffering _ e r false).offering e r = false
    rw [offering_setOffering, if_pos rfl]

theorem settles_settle (e : Engine) (r : RegionId) (s : State) :
    (s.interest e r = true ∧ ((s.claims r).heldBy (.engine e) = true ∨ (s.claims r).awaitedBy (.engine e) = true)) ∧ settle e r s = s
      ∨ Settles e (s.engineRank e) r (s.interest e r = true) (s.claims r) ((settle e r s).claims r) ((settle e r s).offering e r) := by
  unfold settle
  split
  · next h =>
    split
    · next hlive => exact .inl ⟨⟨h, by simpa using hlive⟩, rfl⟩
    · next hlive =>
      simp only [Bool.or_eq_true, not_or, Bool.not_eq_true] at hlive
      exact .inr (settles_offer h hlive.1 hlive.2)
  · next h => exact .inr (settles_releaseEngine (by simpa using h))

theorem settling_settle (e : Engine) (r : RegionId) (s : State) : Settling e [r] s (settle e r s) := by
  have hclaims (n : RegionId) (hn : n ≠ r) : (settle e r s).claims n = s.claims n := by
    obtain ⟨y, -, hy⟩ := claims_settle e r s
    exact hy.other hn
  have hO : Only [.arbiter, .rotation, .messages] s (settle e r s) := by simp
  have ho := offered_settle e r s
  refine ⟨fun n hn => ?_, fun n hn => ⟨hclaims n (by simpa using hn), ?_⟩, fun d n => ?_, fun d => ?_⟩
  · obtain rfl : n = r := by simpa using hn
    rcases settles_settle e n s with ⟨⟨hw, hlive⟩, hs⟩ | h
    · rw [hs]
      refine ⟨fun _ _ => rfl, fun _ hh hwt => ?_, fun hn => absurd hw hn⟩
      simp [hh, hwt] at hlive
    · exact h
  · have hn : n ≠ r := by simpa using hn
    unfold settle
    split
    · split
      · rfl
      · show ((joinWait r (engineClaim s e r) s).1.setOffering e r _).offering e n = _
        rw [offering_setOffering_other (.inr hn), offering_joinWait_other hn]
    · show (State.setOffering _ e r false).offering e n = _
      rw [offering_setOffering_other (.inr hn)]
      cases e <;> rfl
  · exact interest_congr (region_of_canvas hO.canvas n) (by rw [ho.rotation]) (by rw [ho.messages]) (by rw [ho.messages]) (hO.2 .clock (by simp))
  · unfold settle
    split
    · split
      · rfl
      · exact (engineRank_of_arbiter (setOffering_arbiter ..) d).trans (engineRank_joinWait ..)
    · exact (engineRank_of_arbiter (setOffering_arbiter ..) d).trans (engineRank_setClaims ..)

theorem Settling.trans {e : Engine} {r : RegionId} {rs : List RegionId} {s t u : State} (h : Settling e [r] s t) (k : Settling e rs t u)
    (hr : r ∉ rs) : Settling e (r :: rs) s u := by
  refine ⟨fun n hn => ?_, fun n hn => ?_, fun d n => (k.interest d n).trans (h.interest d n), fun d => (k.rank d).trans (h.rank d)⟩
  · rcases List.mem_cons.mp hn with rfl | hmem
    · obtain ⟨hc, ho⟩ := k.others n hr
      rw [hc, ho]
      exact h.done n List.mem_cons_self
    · have hne : n ∉ [r] := by
        rintro hmem'
        obtain rfl : n = r := by simpa using hmem'
        exact hr hmem
      obtain ⟨hc, -⟩ := h.others n hne
      have hk := k.done n hmem
      rw [h.rank, h.interest, hc] at hk
      exact hk
  · obtain ⟨hn1, hn2⟩ := not_or.mp fun h => hn (List.mem_cons.mpr h)
    obtain ⟨hc, ho⟩ := h.others n (by simpa using hn1)
    obtain ⟨hc', ho'⟩ := k.others n hn2
    exact ⟨hc'.trans hc, ho'.trans ho⟩

theorem settling_foldl (e : Engine) (rs : List RegionId) (hrs : rs.Nodup) (s : State) : Settling e rs s (rs.foldl (fun t r => settle e r t) s) := by
  induction rs generalizing s with
  | nil => exact Settling.refl e s
  | cons r rest ih =>
    obtain ⟨hr, hrest⟩ := List.nodup_cons.mp hrs
    exact (settling_settle e r s).trans (ih hrest _) hr

theorem settling_settleAll (e : Engine) (s : State) : Settling e allRegions s (settleAll e s) := settling_foldl e _ allRegions_nodup s

/-! ### Every region settled -/

/-- The engine has settled every region from claims that were as in `s`, with its interest as in `t`. -/
structure SettledFrom (e : Engine) (s t : State) : Prop where
  settles : ∀ r, Settles e (s.engineRank e) r (t.interest e r = true) (s.claims r) (t.claims r) (t.offering e r)

theorem settledFrom_settleAll (e : Engine) (s : State) : SettledFrom e s (settleAll e s) := ⟨fun r => by
  have h := settling_settleAll e s
  rw [h.interest]
  exact h.done r (mem_allRegions r)⟩

theorem SettledFrom.before {e : Engine} {s t u : State} (h : SettledFrom e t u) (ha : t.arbiter = s.arbiter) : SettledFrom e s u := ⟨fun r => by
  have := h.settles r
  rwa [engineRank_of_arbiter ha, claims_of_arbiter ha] at this⟩

theorem offering_congr {s t : State} (hr : t.rotation = s.rotation) (hm : t.messages = s.messages) (e : Engine) (r : RegionId) :
    t.offering e r = s.offering e r := by
  cases e
  · simp [State.offering, hr]
  · simp [State.offering, hm]

/-- Settling stands after what leaves regions, clock, claims and engines. -/
theorem SettledFrom.after {e : Engine} {s t u : State} (h : SettledFrom e s t) {parts : List Part} (ho : Only parts t u)
    (h1 : .canvas ∉ parts := by simp) (h2 : .arbiter ∉ parts := by simp) (h3 : .rotation ∉ parts := by simp)
    (h4 : .messages ∉ parts := by simp) (h5 : .clock ∉ parts := by simp) : SettledFrom e s u := ⟨fun r => by
  have hrot : u.rotation = t.rotation := ho.2 .rotation h3
  have hmes : u.messages = t.messages := ho.2 .messages h4
  have hi : u.interest e r = t.interest e r :=
    interest_congr (region_of_canvas (ho.2 .canvas h1) r) (by rw [hrot]) (by rw [hmes]) (by rw [hmes]) (ho.2 .clock h5)
  have hc : u.claims r = t.claims r := claims_of_arbiter (ho.2 .arbiter h2) r
  rw [hi, hc, offering_congr hrot hmes]
  exact h.settles r⟩

end Sys2Proof.Machine
end

section
/-! PROOF. The engines settle where a rotation is replaced or the show order changes (O23). -/

namespace Sys2Proof.Machine

-- The proofs are checked one after another: side by side they ask for more threads than the memory limit leaves.
set_option Elab.async false

/-! ### A request, taken or not -/

/-- A request that is received leaves every block as it was, or as the block that it reaches leaves it. -/
theorem receive_leaves (p : PortId) (q : Byte) (code : Nat) (act : State → State × Ans) (s : State) :
    Only [] (frameArrives p s) (receive p q code act s) ∨ Only [] (act (frameArrives p s)).1 (receive p q code act s) := by
  unfold receive taken
  simp only
  split
  · exact .inl only_rfl
  · split
    · exact .inl (by simp)
    · exact .inr ((only_conclude ..).mpr only_rfl)

/-! ### The Rotation Engine (R125, R126, R132) -/

theorem interest_rotation_iff (s : State) (r : RegionId) :
    s.interest .rotation r = true ↔ ∃ g, s.region r = some g ∧ g.sponsor = true ∧ ∃ x ∈ s.rotation.spots, r.val ∈ x.regions := by
  simp only [State.interest, rotationInterest]
  split
  · next g hg => simp [hg]
  · next hg => simp [hg]

theorem interest_message_iff (s : State) (r : RegionId) :
    s.interest .message r = true ↔ ∃ g, s.region r = some g ∧ g.message = true
      ∧ ((s.pass r).isSome = true ∨ ∃ e ∈ s.messages.approved, e.style = .normal ∨ s.clock.state ≠ .running) := by
  simp only [State.interest, messageInterest]
  split
  · next g hg => simp [hg, Entry.eligible, State.running]
  · next hg => simp [hg]

theorem settledFrom_replaceRotation (plan : Plan) (cause : Nat) (s : State) : SettledFrom .rotation s (replaceRotation plan cause s) := by
  have hnotes (ns : List Notice) : (notifySponsors ns s).arbiter = s.arbiter := ((only_notifySponsors (parts := []) ns).mpr only_rfl).arbiter
  unfold replaceRotation
  exact (settledFrom_settleAll ..).before (hnotes _)

/-- A period boundary that promotes a staged rotation (R132). -/
theorem settledFrom_periodBoundary {n : Nat} {s : State} (hs : s.rotation.staged.isSome = true)
    (hgone : (periodBoundary n s).rotation.staged = none) : SettledFrom .rotation s (periodBoundary n s) := by
  have hnotes := notifySponsors_rotation (s.rotation.contracts.map (periodReport s.frame n)) s
  have harb : (notifySponsors (s.rotation.contracts.map (periodReport s.frame n)) s).arbiter = s.arbiter :=
    ((only_notifySponsors (parts := []) _).mpr only_rfl).arbiter
  unfold periodBoundary at hgone ⊢
  simp only [hnotes] at hgone ⊢
  split at hgone
  · next h => simp [h] at hs
  · exact (settledFrom_replaceRotation ..).before harb

theorem settledFrom_onRotationCommit {p : PortId} {s : State} (hsetup : s.live = false) (hb : s.rotation.build.isSome = true)
    (hgone : (onRotationCommit p s).1.rotation.build = none) : SettledFrom .rotation s (onRotationCommit p s).1 := by
  have hkept : s.rotation.build ≠ none := fun h => by simp [h] at hb
  unfold onRotationCommit at hgone ⊢
  split at hgone
  · exact absurd hgone hkept
  · next b _ =>
    split at hgone
    · exact absurd hgone hkept
    · have hset : SettledFrom .rotation s (replaceRotation b.plan causeCommit (setBuild none s)) :=
        (settledFrom_replaceRotation ..).before rfl
      rw [if_neg (by simp [hsetup])]
      dsimp only
      exact hset

theorem settledFrom_onNextPeriod {s : State} (hs : s.rotation.staged.isSome = true) (hgone : (onNextPeriod s).1.rotation.staged = none) :
    SettledFrom .rotation s (onNextPeriod s).1 := by
  have hkept : s.rotation.staged ≠ none := fun h => by simp [h] at hs
  unfold onNextPeriod at hgone ⊢
  split at hgone
  · exact absurd hgone hkept
  · split at hgone
    · exact absurd hgone hkept
    · next hr hp =>
      rw [if_neg hr, if_neg hp]
      dsimp only at hgone ⊢
      generalize hu : setClock _ s = u at hgone ⊢
      have hset : SettledFrom .rotation u (periodBoundary s.clock.period u) := settledFrom_periodBoundary (hu ▸ hs) hgone
      exact (hset.after (parts := []) (by simp)).before (hu ▸ rfl)

theorem settledFrom_onEndLive {s : State} (hs : s.rotation.staged.isSome = true) (hgone : (onEndLive s).1.rotation.staged = none) :
    SettledFrom .rotation s (onEndLive s).1 := by
  have hkept : s.rotation.staged ≠ none := fun h => by simp [h] at hs
  unfold onEndLive at hgone ⊢
  split at hgone
  · next hl =>
    split at hgone
    · exact absurd hgone hkept
    · next hr =>
      rw [if_pos hl, if_neg hr]
      have hset := settledFrom_periodBoundary (s := { s with canvas := { s.canvas with mode := .setup } }) hs hgone
      exact hset.before rfl
  · exact absurd hgone hkept

/-! ### The Message Engine (R156, R159, R160, R168) -/

theorem onMessageApprove_settles (port tag : Nat) (s : State) :
    (onMessageApprove port tag s).1.messages.approved = s.messages.approved ∨ SettledFrom .message s (onMessageApprove port tag s).1 := by
  unfold onMessageApprove
  split
  · exact .inl rfl
  split
  · dsimp only
    refine .inr ((settledFrom_settleAll ..).before ?_)
    exact ((only_notify (parts := [.messages]) ..).mpr ((only_setApproved (by simp) ..).mpr ((only_setHeld (by simp) ..).mpr only_rfl))).arbiter
  split
  · exact .inl rfl
  split <;> exact .inl rfl

theorem onMessageWithdraw_settles (p : PortId) (tag : Nat) (port : Option Nat) (s : State) :
    (onMessageWithdraw p tag port s).1.messages.approved = s.messages.approved ∨ SettledFrom .message s (onMessageWithdraw p tag port s).1 := by
  unfold onMessageWithdraw
  simp only
  split
  · exact .inl rfl
  split
  · exact .inl rfl
  split
  · exact .inl rfl
  split
  · dsimp only
    exact .inr ((settledFrom_settleAll ..).before rfl)
  split
  · exact .inl rfl
  split <;> exact .inl rfl

theorem onMessageSubmit_settles (p : PortId) (tag : Nat) (text : List Nat) (style : Named Style) (repeats : Option Nat) (s : State) :
    (onMessageSubmit p tag text style repeats s).1.messages.approved = s.messages.approved
      ∨ SettledFrom .message s (onMessageSubmit p tag text style repeats s).1 := by
  unfold onMessageSubmit
  split
  · exact .inl rfl
  split
  · exact .inl rfl
  split
  · exact .inl rfl
  split
  · exact .inl rfl
  split
  · exact .inl rfl
  split
  · exact .inl rfl
  simp only
  split
  · dsimp only
    exact .inr ((settledFrom_settleAll ..).before rfl)
  · exact .inl rfl

theorem onMatchReset_settles (s : State) :
    (onMatchReset s).1.messages.approved = s.messages.approved ∨ SettledFrom .message s (onMatchReset s).1 := by
  unfold onMatchReset
  split
  · exact .inl rfl
  · dsimp only
    unfold resetMessages
    exact .inr ((settledFrom_settleAll ..).before rfl)

/-- A settling, in the words of the rotation. -/
theorem SettledFrom.rotation {s t : State} (h : SettledFrom .rotation s t) (hr : ∀ r, t.region r = s.region r) (r : RegionId) :
    Settles .rotation s.arbiter.rotationRank r (∃ g, s.region r = some g ∧ g.sponsor = true ∧ ∃ x ∈ t.rotation.spots, r.val ∈ x.regions)
      (s.claims r) (t.claims r) (t.offering .rotation r) :=
  settles_congr ((interest_rotation_iff t r).trans (by rw [hr])) (h.settles r)

/-- A settling, in the words of the show order. -/
theorem SettledFrom.message {s t : State} (h : SettledFrom .message s t) (hr : ∀ r, t.region r = s.region r) (r : RegionId) :
    Settles .message s.arbiter.messageRank r
      (∃ g, s.region r = some g ∧ g.message = true
        ∧ ((t.pass r).isSome = true ∨ ∃ e ∈ t.messages.approved, e.style = .normal ∨ t.clock.state ≠ .running))
      (s.claims r) (t.claims r) (t.offering .message r) :=
  settles_congr ((interest_message_iff t r).trans (by rw [hr])) (h.settles r)

/-- A request whose block settles an engine's regions where `P` holds of what it leaves. -/
theorem settledFrom_request {e : Engine} {i : Instr} {p : PortId} {q : Byte} {code : Nat} {act : State → State × Ans} {s : State} {P : State → Prop}
    (hx : exec i s = .next (pump (receive p q code act s))) (hidle : ∀ t, Only [] (frameArrives p s) t → ¬P t)
    (hact : ∀ t, Only [] (act (frameArrives p s)).1 t → P t → SettledFrom e (frameArrives p s) (act (frameArrives p s)).1)
    (hregion : ∀ r, (act (frameArrives p s)).1.region r = s.region r) :
    ∃ t, exec i s = .next t ∧ (P t → SettledFrom e s t ∧ ∀ r, t.region r = s.region r) := by
  refine ⟨_, hx, fun hP => ?_⟩
  rcases receive_leaves p q code act s with h | h
  · exact absurd hP (hidle _ (only_pump h))
  · have ho := only_pump h
    exact ⟨((hact _ ho hP).after ho).before (frameArrives_arbiter p s), fun r => (region_of_canvas ho.canvas r).trans (hregion r)⟩

theorem region_onEndLive (s : State) (r : RegionId) : (onEndLive s).1.region r = s.region r := by
  have hb : Only [.arbiter, .rotation, .messages] s.toSetup (periodBoundary s.clock.period s.toSetup) := by simp
  unfold onEndLive
  split
  · split
    · rfl
    · exact region_of_canvas hb.canvas r
  · rfl

/-- Where a staged rotation is promoted the Rotation Engine settles. -/
theorem promotion_settles {i : Instr} {p : PortId} {q : Byte} {code : Nat} {act : State → State × Ans} {s : State}
    (hx : exec i s = .next (pump (receive p q code act s)))
    (hact : ∀ u, u.rotation.staged.isSome = true → (act u).1.rotation.staged = none → SettledFrom .rotation u (act u).1)
    (hregion : ∀ u r, (act u).1.region r = u.region r) :
    ∃ t, exec i s = .next t ∧ (s.rotation.staged.isSome = true ∧ t.rotation.staged = none →
      SettledFrom .rotation s t ∧ ∀ r, t.region r = s.region r) := by
  have hrot {u t : State} (h : Only [] u t) : t.rotation = u.rotation := h.2 .rotation (by simp)
  refine settledFrom_request (P := fun t => s.rotation.staged.isSome = true ∧ t.rotation.staged = none) hx (fun t h hP => ?_) (fun t h hP => ?_)
    (fun r => (hregion _ r).trans (frameArrives_region p s r))
  · obtain ⟨hs, ht⟩ := hP
    rw [hrot h, frameArrives_rotation] at ht
    simp [ht] at hs
  · obtain ⟨hs, ht⟩ := hP
    refine hact _ (by simpa using hs) ?_
    rwa [hrot h] at ht

/-- Where the show order changes the Message Engine settles. -/
theorem order_settles {i : Instr} {p : PortId} {q : Byte} {code : Nat} {act : State → State × Ans} {s : State}
    (hx : exec i s = .next (pump (receive p q code act s)))
    (hact : ∀ u, (act u).1.messages.approved = u.messages.approved ∨ SettledFrom .message u (act u).1)
    (hregion : ∀ u r, (act u).1.region r = u.region r) :
    ∃ t, exec i s = .next t ∧ (t.messages.approved ≠ s.messages.approved → SettledFrom .message s t ∧ ∀ r, t.region r = s.region r) := by
  have hmes {u t : State} (h : Only [] u t) : t.messages = u.messages := h.2 .messages (by simp)
  refine settledFrom_request (P := fun t => t.messages.approved ≠ s.messages.approved) hx (fun t h hP => ?_) (fun t h hP => ?_)
    (fun r => (hregion _ r).trans (frameArrives_region p s r))
  · exact hP (by rw [hmes h, frameArrives_messages])
  · rw [hmes h] at hP
    exact (hact _).resolve_left fun heq => hP (heq.trans (by rw [frameArrives_messages]))

/-! ### The requests that settle (O23) -/

theorem rotation_requests_settle (i : Instr) (p : PortId) (q : Byte) (s : State)
    (hi : i = .rotationCommit p q ∨ i = .nextPeriod p q ∨ i = .endLive p q) :
    ∃ t, exec i s = .next t
      ∧ ((i = .rotationCommit p q ∧ s.canvas.mode = .setup ∧ s.rotation.build.isSome = true ∧ t.rotation.build = none
          ∨ i ≠ .rotationCommit p q ∧ s.rotation.staged.isSome = true ∧ t.rotation.staged = none) →
        SettledFrom .rotation s t ∧ ∀ r, t.region r = s.region r) := by
  have hother {j : Instr} (hj : j ≠ .rotationCommit p q)
      (h : ∃ t, exec j s = .next t ∧ (s.rotation.staged.isSome = true ∧ t.rotation.staged = none →
        SettledFrom .rotation s t ∧ ∀ r, t.region r = s.region r)) :
      ∃ t, exec j s = .next t
      ∧ ((j = .rotationCommit p q ∧ s.canvas.mode = .setup ∧ s.rotation.build.isSome = true ∧ t.rotation.build = none
          ∨ j ≠ .rotationCommit p q ∧ s.rotation.staged.isSome = true ∧ t.rotation.staged = none) →
        SettledFrom .rotation s t ∧ ∀ r, t.region r = s.region r) := by
    obtain ⟨t, hx, ht⟩ := h
    exact ⟨t, hx, fun hP => ht (hP.resolve_left fun hc => hj hc.1).2⟩
  rcases hi with rfl | rfl | rfl
  · have hrot {u t : State} (h : Only [] u t) : t.rotation = u.rotation := h.2 .rotation (by simp)
    have hset : ∃ t, exec (.rotationCommit p q) s = .next t ∧ (s.canvas.mode = .setup ∧ s.rotation.build.isSome = true ∧ t.rotation.build = none →
        SettledFrom .rotation s t ∧ ∀ r, t.region r = s.region r) := by
      refine settledFrom_request (act := onRotationCommit p) (P := fun t => _ ∧ _ ∧ t.rotation.build = none) rfl
        (fun t h hP => ?_) (fun t h hP => ?_) (fun r => ?_)
      · obtain ⟨-, hs, ht⟩ := hP
        rw [hrot h, frameArrives_rotation] at ht
        simp [ht] at hs
      · obtain ⟨hm, hs, ht⟩ := hP
        refine settledFrom_onRotationCommit (by simp [State.live, hm]) (by simpa using hs) ?_
        rwa [hrot h] at ht
      · exact (region_of_canvas (only_onRotationCommit p).canvas r).trans (frameArrives_region p s r)
    obtain ⟨t, hx, ht⟩ := hset
    exact ⟨t, hx, fun hP => ht (hP.resolve_right fun hc => hc.1 rfl).2⟩
  · exact hother (by simp) (promotion_settles (act := onNextPeriod) rfl (fun _ => settledFrom_onNextPeriod)
      (fun _ => region_of_canvas only_onNextPeriod.canvas))
  · exact hother (by simp) (promotion_settles (act := onEndLive) rfl (fun _ => settledFrom_onEndLive) region_onEndLive)

theorem message_requests_settle (i : Instr) (p : PortId) (q : Byte) (tag : Nat) (s : State)
    (hi : (∃ n, i = .messageApprove p q n tag) ∨ (∃ n, i = .messageWithdraw p q tag n)
      ∨ (∃ text style repeats, i = .messageSubmit p q tag text style repeats) ∨ i = .matchReset p q) :
    ∃ t, exec i s = .next t ∧ (t.messages.approved ≠ s.messages.approved → SettledFrom .message s t ∧ ∀ r, t.region r = s.region r) := by
  rcases hi with ⟨n, rfl⟩ | ⟨n, rfl⟩ | ⟨text, style, repeats, rfl⟩ | rfl
  · exact order_settles (act := onMessageApprove n tag) rfl (onMessageApprove_settles n tag)
      (fun _ => region_of_canvas (only_onMessageApprove ..).canvas)
  · exact order_settles (act := onMessageWithdraw p tag n) rfl (onMessageWithdraw_settles p tag n)
      (fun _ => region_of_canvas (only_onMessageWithdraw ..).canvas)
  · exact order_settles (act := onMessageSubmit p tag text style repeats) rfl (onMessageSubmit_settles p tag text style repeats)
      (fun _ => region_of_canvas (only_onMessageSubmit ..).canvas)
  · exact order_settles (act := onMatchReset) rfl onMatchReset_settles (fun _ => region_of_canvas only_onMatchReset.canvas)

end Sys2Proof.Machine
end

section
/-! SUPPORT. What the evaluation of a region leaves alone: other regions, and the ports that have no claim there (R30 to R35). -/

namespace Sys2Proof.Machine

-- The proofs are checked one after another: side by side they ask for more threads than the memory limit leaves.
set_option Elab.async false

/-! ### Ports without a claim on a region -/

/-- A claim of none of the ports `V`. -/
def Claim.apart (V : PortId → Prop) (c : Claim) : Prop := ∀ v, V v → c.claimant ≠ .port v

/-- None of the ports `V` has a claim among these. -/
def RegionClaims.apart (V : PortId → Prop) (x : RegionClaims) : Prop := ∀ c ∈ x.live, c.apart V

theorem mem_live {x : RegionClaims} {c : Claim} : c ∈ x.live ↔ x.holder = some c ∨ c ∈ x.waiting := by
  simp [RegionClaims.live]

theorem tagsOf_eq_nil {p : PortId} {l : List Claim} : tagsOf p l = [] ↔ ∀ c ∈ l, c.claimant ≠ .port p := by
  simp [tagsOf]

theorem RegionClaims.apart_iff {V : PortId → Prop} {x : RegionClaims} : x.apart V ↔ ∀ v, V v → tagsOf v x.live = [] := by
  simp only [tagsOf_eq_nil]
  exact ⟨fun h v hv c hc => h c hc v hv, fun h c hc v hv => h v hv c hc⟩

/-- No port gains a claim by what is lawful. -/
theorem RegionClaims.apart.lawful {V : PortId → Prop} {x y : RegionClaims} (h : x.apart V) (k : Lawful x y) : y.apart V := by
  rw [RegionClaims.apart_iff] at h ⊢
  intro v hv
  have := k.fewer v
  rw [h v hv] at this
  exact List.eq_nil_of_length_eq_zero (Nat.le_zero.mp this.length_le)

theorem RegionClaims.apart.holder {V : PortId → Prop} {x : RegionClaims} (h : x.apart V) {c : Claim} (hc : x.holder = some c) : c.apart V :=
  h c (mem_live.mpr (.inl hc))

theorem RegionClaims.apart.waiting {V : PortId → Prop} {x : RegionClaims} (h : x.apart V) : ∀ w ∈ x.waiting, w.apart V :=
  fun w hw => h w (mem_live.mpr (.inr hw))

/-- No claim of the ports `V` can be pushed off the wait list (R25). -/
def RegionClaims.safe (V : PortId → Prop) (x : RegionClaims) : Prop :=
  ∀ last, 4 ≤ x.waiting.length → x.waiting.getLast? = some last → last.apart V

theorem safe_of_waiting {V : PortId → Prop} {x : RegionClaims} (h : ∀ w ∈ x.waiting, w.apart V) : x.safe V :=
  fun last _ hlast => h last (List.mem_of_getLast? hlast)

theorem RegionClaims.apart.safe {V : PortId → Prop} {x : RegionClaims} (h : x.apart V) : x.safe V := safe_of_waiting h.waiting

/-- No pass in the region is of an entry of the ports `V`. -/
def State.passApart (V : PortId → Prop) (r : RegionId) (s : State) : Prop := ∀ x, s.pass r = some x → ¬V x.entry.submitter

/-! ### Within regions -/

/-- Regions outside those listed, and the ports `V`, are as they were. -/
structure Within (V : PortId → Prop) (rs : List RegionId) (s t : State) : Prop where
  only : Only [.canvas, .arbiter, .rotation, .messages] s t
  region : ∀ n, n ∉ rs → t.region n = s.region n
  claims : ∀ n, n ∉ rs → t.claims n = s.claims n
  pass : ∀ n, n ∉ rs → t.pass n = s.pass n
  offering : ∀ e n, n ∉ rs → t.offering e n = s.offering e n
  rank : ∀ e, t.engineRank e = s.engineRank e
  spots : t.rotation.spots = s.rotation.spots
  colours : t.canvas.colours = s.canvas.colours
  port : ∀ v, V v → t.port v = s.port v

section Within
variable {V : PortId → Prop} {r : RegionId} {rs : List RegionId} {s t u : State}

theorem Within.refl (V : PortId → Prop) (rs : List RegionId) (s : State) : Within V rs s s :=
  ⟨only_rfl, fun _ _ => rfl, fun _ _ => rfl, fun _ _ => rfl, fun _ _ _ => rfl, fun _ => rfl, rfl, rfl, fun _ _ => rfl⟩

theorem Within.trans (h : Within V rs s t) (k : Within V rs t u) : Within V rs s u :=
  ⟨h.only.trans k.only, fun n hn => (k.region n hn).trans (h.region n hn), fun n hn => (k.claims n hn).trans (h.claims n hn),
    fun n hn => (k.pass n hn).trans (h.pass n hn), fun e n hn => (k.offering e n hn).trans (h.offering e n hn),
    fun e => (k.rank e).trans (h.rank e), k.spots.trans h.spots, k.colours.trans h.colours, fun v hv => (k.port v hv).trans (h.port v hv)⟩

theorem Within.mono {qs : List RegionId} (h : Within V rs s t) (hs : rs ⊆ qs) : Within V qs s t :=
  ⟨h.only, fun n hn => h.region n fun hm => hn (hs hm), fun n hn => h.claims n fun hm => hn (hs hm), fun n hn => h.pass n fun hm => hn (hs hm),
    fun e n hn => h.offering e n fun hm => hn (hs hm), h.rank, h.spots, h.colours, h.port⟩

theorem Within.clock (h : Within V rs s t) : t.clock = s.clock := h.only.2 .clock (by simp)
theorem Within.comp (h : Within V rs s t) : t.comp = s.comp := h.only.comp
theorem Within.frame (h : Within V rs s t) : t.frame = s.frame := congrArg Compositor.frame h.comp

/-- What changes ports alone, and none of the ports `V`. -/
theorem within_of_ports (h : Only [] s t) (hp : ∀ v, V v → t.port v = s.port v) : Within V rs s t := by
  have hrot : t.rotation = s.rotation := h.2 .rotation (by simp)
  have hmes : t.messages = s.messages := h.2 .messages (by simp)
  exact ⟨h.mono (by simp), fun n _ => region_of_canvas h.canvas n, fun n _ => claims_of_arbiter h.arbiter n,
    fun n _ => by simp [State.pass, hmes], fun e n _ => offering_congr hrot hmes e n, engineRank_of_arbiter h.arbiter, by rw [hrot],
    by rw [h.canvas], hp⟩

theorem within_setClaims (hr : r ∈ rs) (x : RegionClaims) : Within V rs s (s.setClaims r x) :=
  ⟨by simp, fun _ _ => rfl, fun n hn => (claimsBecome_setClaims r x s).other fun h => hn (h ▸ hr), fun _ _ => rfl,
    fun e n _ => by cases e <;> rfl, engineRank_setClaims r x s, rfl, rfl, fun _ _ => rfl⟩

theorem within_setOffering (hr : r ∈ rs) (e : Engine) (b : Bool) : Within V rs s (s.setOffering e r b) := by
  have ho : Only [.rotation, .messages] s (s.setOffering e r b) := by simp
  refine ⟨ho.mono (by simp), fun n _ => region_of_canvas ho.canvas n, fun n _ => claims_of_arbiter ho.arbiter n, fun n _ => ?_,
    fun d n hn => offering_setOffering_other (.inr fun h => hn (h ▸ hr)), engineRank_of_arbiter ho.arbiter, ?_, by rw [ho.canvas],
    fun v _ => ?_⟩
  · cases e <;> rfl
  · cases e <;> rfl
  · exact port_of_ports (ports_setOffering ..) v

theorem within_setRegion (hr : r ∈ rs) (g : Option Region) : Within V rs s (s.setRegion r g) :=
  ⟨by simp, fun n hn => by rw [region_setRegion, if_neg fun h : n = r => hn (h ▸ hr)], fun _ _ => rfl, fun _ _ => rfl,
    fun e n _ => by cases e <;> rfl,
    fun e => by cases e <;> rfl, rfl, rfl, fun _ _ => rfl⟩

theorem port_notify_other {p v : PortId} (h : p ≠ v) (n : Notice) (s : State) : (notify p n s).port v = s.port v := by
  rw [port_updatePort (s := s) (t := notify p n s) rfl, if_neg (Ne.symm h)]

theorem within_notify {p : PortId} (h : ¬V p) (n : Notice) : Within V rs s (notify p n s) :=
  within_of_ports (by simp) fun v hv => port_notify_other (fun heq : p = v => h (heq ▸ hv)) n s

/-! ### The operations on claims (R25, R32 to R34) -/

theorem within_claimNotice {c : Claim} (hc : c.apart V) (k : NoticeKind) (fields : List Atom) : Within V rs s (claimNotice k r c fields s) := by
  unfold claimNotice
  split
  · next p hp => exact within_notify (fun hv => hc p hv hp) _
  · exact Within.refl ..

theorem within_evict (hr : r ∈ rs) {c : Claim} (hc : c.apart V) (rank : Nat) : Within V rs s (evict r c rank s) := by
  unfold evict
  split
  · exact within_claimNotice hc ..
  · exact within_setOffering hr ..

theorem within_joinWait (hr : r ∈ rs) (hw : (s.claims r).safe V) (c : Claim) : Within V rs s (joinWait r c s).1 := by
  unfold joinWait
  simp only
  split
  · exact within_setClaims hr _
  · next hfull =>
    split
    · exact Within.refl ..
    · next last hlast =>
      split
      · exact (within_setClaims hr _).trans (within_evict hr (hw last (Nat.not_lt.mp hfull) hlast) _)
      · exact Within.refl ..

theorem within_dropped (hr : r ∈ rs) {h : Claim} (hh : h.apart V) (released : Bool) : Within V rs s (dropped r h released s) := by
  unfold dropped
  split
  · next p hp =>
    refine within_of_ports (by simp [only_iff]) fun v hv => ?_
    rw [port_updatePort (s := s) rfl, if_neg]
    rintro rfl
    exact hh v hv hp
  · split
    · exact Within.refl ..
    · exact within_setOffering hr ..

theorem within_goBack (hr : r ∈ rs) {h : Claim} (hh : h.apart V) (hw : (s.claims r).safe V) (reason : Atom) (k : NoticeKind)
    (fields : List Atom) : Within V rs s (goBack r h reason k fields s) := by
  have hback : ({ h with mark := none } : Claim).apart V := hh
  have hj := within_joinWait hr hw { h with mark := none }
  unfold goBack
  simp only
  split
  · next u heq =>
    rw [heq] at hj
    exact hj.trans (within_claimNotice hback ..)
  · next u heq =>
    rw [heq] at hj
    exact hj.trans ((within_claimNotice hback ..).trans (within_dropped hr hback _))

theorem within_leave (hr : r ∈ rs) {h : Claim} (hh : h.apart V) (hw : (s.claims r).safe V) (cause : LeaveCause) :
    Within V rs s (leave r h cause s) := by
  have hgone : Within V rs s (s.setClaims r { s.claims r with holder := none }) := within_setClaims hr _
  have hwait : ((s.setClaims r { s.claims r with holder := none }).claims r).safe V := by
    rw [claims_setClaims_self]
    exact hw
  unfold leave
  simp only
  split
  · exact hgone.trans (within_dropped hr hh _)
  · exact hgone.trans ((within_claimNotice hh ..).trans (within_dropped hr hh _))
  · exact hgone.trans ((within_claimNotice hh ..).trans (within_dropped hr hh _))
  · exact hgone.trans (within_goBack hr hh hwait ..)
  · split
    · exact hgone.trans (within_goBack hr hh hwait ..)
    · exact hgone.trans ((within_claimNotice hh ..).trans (within_dropped hr hh _))

theorem within_leaveStage (hr : r ∈ rs) (hh : ∀ c, (s.claims r).holder = some c → c.apart V) (hw : (s.claims r).safe V) (g : Region) :
    Within V rs s (leaveStage r g s).1 := by
  have hcount : Within V rs s (s.setClaims r (countStage (s.claims r))) := within_setClaims hr _
  have hsafe : ((s.setClaims r (countStage (s.claims r))).claims r).safe V := by
    rw [claims_setClaims_self, countStage_eq]
    exact hw
  unfold leaveStage
  simp only
  split
  · exact hcount
  · next c hc =>
    split
    · exact hcount
    · rw [claims_setClaims_self, countStage_eq] at hc
      obtain ⟨d, hd, rfl⟩ := Option.map_eq_some_iff.mp hc
      have hd' : ({ d with remaining := d.remaining.map (fun n => n - 1) } : Claim).apart V := hh d hd
      exact hcount.trans (within_leave hr hd' hsafe _)

theorem within_promote (hr : r ∈ rs) {c : Claim} (hc : c.apart V) : Within V rs s (promote r c s) := by
  unfold promote
  simp only
  split
  · exact ((within_setClaims hr _).trans (within_setRegion hr _)).trans (within_claimNotice hc ..)
  · exact (within_setClaims hr _).trans (within_claimNotice hc ..)

theorem within_displace (hr : r ∈ rs) {h c : Claim} (hh : h.apart V) (hc : c.apart V) (hw : (s.claims r).safe V) :
    Within V rs s (displace r h c s) := by
  have hback : ({ h with mark := none } : Claim).apart V := hh
  have hgone : Within V rs s (s.setClaims r { s.claims r with holder := none }) := within_setClaims hr _
  have hwait : ((s.setClaims r { s.claims r with holder := none }).claims r).safe V := by
    rw [claims_setClaims_self]
    exact hw
  have hj := within_joinWait hr hwait { h with mark := none }
  unfold displace
  simp only
  split
  · split
    · next u heq =>
      rw [heq] at hj
      exact (hgone.trans (hj.trans (within_claimNotice hback ..))).trans (within_promote hr hc)
    · next u heq =>
      rw [heq] at hj
      exact (hgone.trans (hj.trans ((within_claimNotice hback ..).trans (within_dropped hr hback _)))).trans (within_promote hr hc)
  · exact (hgone.trans ((within_claimNotice hback ..).trans (within_dropped hr hback _))).trans (within_promote hr hc)

theorem candidate_mem {g : Region} {c : Claim} (h : candidate s r g = some c) : c ∈ (s.claims r).waiting := List.mem_of_find?_eq_some h

theorem within_replaceStage (hr : r ∈ rs) (h : (s.claims r).apart V) (g : Region) (passed : Bool) (left : Option Claim) :
    Within V rs s (replaceStage r g passed left s).1 := by
  unfold replaceStage
  split
  · exact Within.refl ..
  · next x c hx hc =>
    split
    · exact within_displace hr (h.holder hx) (h.waiting c (candidate_mem hc)) h.safe
    · exact Within.refl ..
  · next c hx hc =>
    split
    · exact within_promote hr (h.waiting c (candidate_mem hc))
    · exact Within.refl ..

theorem within_arbitrate (hr : r ∈ rs) (h : (s.claims r).apart V) (g : Region) : Within V rs s (arbitrate r g s).1 := by
  obtain ⟨y, hk, hy⟩ := claims_leaveStage r g s
  have hout : ((leaveStage r g s).1.claims r).apart V := by
    rw [hy.self]
    exact h.lawful hk.toLawful
  exact (within_leaveStage hr (fun _ => h.holder) h.safe g).trans (within_replaceStage hr hout g (dwellPassed g s.frame) (leaveStage r g s).2)

/-! ### The engines (R35, R126 to R130, R160 to R164) -/

theorem within_settle (hr : r ∈ rs) (hw : ∀ w ∈ (s.claims r).waiting, w.apart V) (e : Engine) : Within V rs s (settle e r s) := by
  unfold settle
  split
  · split
    · exact Within.refl ..
    · exact (within_joinWait hr (safe_of_waiting hw) (engineClaim s e r)).trans (within_setOffering hr ..)
  · exact (within_setClaims hr _).trans (within_setOffering hr ..)

/-- What changes the Rotation Engine's contracts, pointer and current spots alone. -/
theorem within_of_rotation (h : Only [.rotation] s t) (ho : t.rotation.offering = s.rotation.offering)
    (hs : t.rotation.spots = s.rotation.spots) (hp : t.ports = s.ports) : Within V rs s t := by
  have hmes : t.messages = s.messages := h.2 .messages (by simp)
  exact ⟨h.mono (by simp), fun n _ => region_of_canvas h.canvas n, fun n _ => claims_of_arbiter h.arbiter n,
    fun n _ => by simp [State.pass, hmes], fun e n _ => by cases e <;> simp [State.offering, ho, hmes], engineRank_of_arbiter h.arbiter, hs,
    by rw [h.canvas], fun v _ => port_of_ports hp v⟩

theorem within_cutSpot : Within V rs s (cutSpot r s) := by
  refine within_of_rotation (by simp) ?_ ?_ (ports_cutSpot r s)
  all_goals
    unfold cutSpot
    split
    · rfl
    · split <;> rfl

theorem within_selectSpot (g : Region) : Within V rs s (selectSpot r g s) := by
  refine within_of_rotation (by simp) ?_ ?_ (ports_selectSpot r g s)
  all_goals
    unfold selectSpot
    split <;> rfl

theorem within_countSpot (g : Region) : Within V rs s (countSpot r g s) := by
  refine within_of_rotation (by simp) ?_ ?_ (ports_countSpot r g s)
  all_goals
    unfold countSpot
    split
    · split
      · rfl
      · split
        · rfl
        · split <;> rfl
    · rfl

theorem within_rotationAct (hr : r ∈ rs) (hw : ∀ w ∈ (s.claims r).waiting, w.apart V) (g : Region) (v : Verdict) :
    Within V rs s (rotationAct r g v s) := by
  have hcut : Within V rs s (cutSpot r s) := within_cutSpot
  have hclaims : (cutSpot r s).claims r = s.claims r := by
    have ho : Only [.rotation] s (cutSpot r s) := by simp
    exact claims_of_arbiter ho.arbiter r
  unfold rotationAct
  extract_lets u t
  have ht : Within V rs s t := by
    unfold t u
    split
    · exact Within.refl ..
    · split
      · split
        · exact hcut.trans (within_settle hr (by rwa [hclaims]) _)
        · exact hcut
      · exact Within.refl ..
  split
  · exact ht.trans (within_selectSpot g)
  · exact ht

theorem within_setPass (hr : r ∈ rs) (x : Option Pass) : Within V rs s (s.setPass r x) :=
  ⟨by simp, fun _ _ => rfl, fun _ _ => rfl, fun n hn => by rw [pass_setPass, if_neg fun h : n = r => hn (h ▸ hr)], fun e n _ => by cases e <;> rfl,
    fun e => by cases e <;> rfl, rfl, rfl, fun _ _ => rfl⟩

theorem within_setApproved (l : List Entry) : Within V rs s (setApproved l s) :=
  ⟨by simp, fun _ _ => rfl, fun _ _ => rfl, fun _ _ => rfl, fun e n _ => by cases e <;> rfl, fun e => by cases e <;> rfl, rfl, rfl, fun _ _ => rfl⟩

theorem within_interruptPass (hr : r ∈ rs) {x : Pass} (hx : ¬V x.entry.submitter) : Within V rs s (interruptPass r x s) := by
  unfold interruptPass
  simp only
  split
  · exact (within_setPass hr _).trans (within_notify hx _)
  · exact (within_setPass hr _).trans (within_setApproved _)

theorem within_completePass (hr : r ∈ rs) {x : Pass} (hx : ¬V x.entry.submitter) : Within V rs s (completePass r x s) := by
  unfold completePass
  simp only
  split
  · exact (within_setPass hr _).trans (within_notify hx _)
  · split
    · exact (within_setPass hr _).trans (within_notify hx _)
    · exact (within_setPass hr _).trans (within_setApproved _)

theorem within_countPass (hr : r ∈ rs) (hp : s.passApart V r) : Within V rs s (countPass r s) := by
  unfold countPass
  split
  · split
    · exact Within.refl ..
    · next x hx =>
      split
      · exact within_interruptPass hr (hp x hx)
      · split
        · exact within_completePass hr (hp x hx)
        · exact within_setPass hr _
  · exact Within.refl ..

theorem within_startPass (hr : r ∈ rs) (g : Region) : Within V rs s (startPass r g s) := by
  unfold startPass
  split
  · exact Within.refl ..
  · exact (within_setApproved _).trans (within_setPass hr _)

/-- The passes of a region before its engine starts a new one are of entries that were shown there. -/
theorem passApart_countPass (hp : s.passApart V r) : (countPass r s).passApart V r := by
  have hnone (t : State) (ht : t.pass r = none) : t.passApart V r := fun x hx => by simp [ht] at hx
  unfold countPass
  split
  · split
    · exact hp
    · next x hx =>
      split
      · refine hnone _ ?_
        unfold interruptPass
        simp only
        split <;> exact (pass_setPass ..).trans (if_pos rfl)
      · split
        · refine hnone _ ?_
          unfold completePass
          simp only
          split
          · exact (pass_setPass ..).trans (if_pos rfl)
          · split <;> exact (pass_setPass ..).trans (if_pos rfl)
        · intro y hy
          rw [pass_setPass, if_pos rfl] at hy
          obtain rfl := Option.some.inj hy
          exact hp x hx
  · exact hp

theorem within_messageAct (hr : r ∈ rs) (hw : ∀ w ∈ (s.claims r).waiting, w.apart V) (hp : s.passApart V r) (g : Region) (v : Verdict) :
    Within V rs s (messageAct r g v s) := by
  unfold messageAct
  extract_lets t u
  have ht : Within V rs s t ∧ t.arbiter = s.arbiter := by
    unfold t
    split
    · exact ⟨Within.refl .., rfl⟩
    · split
      · split
        · next x hx =>
          refine ⟨within_interruptPass hr (hp x hx), ?_⟩
          have ho : Only [.messages] s (interruptPass r x s) := by simp
          exact ho.arbiter
        · exact ⟨Within.refl .., rfl⟩
      · exact ⟨Within.refl .., rfl⟩
  have hu : Within V rs s u ∧ u.arbiter = s.arbiter := by
    unfold u
    split
    · have ho : Only [.messages] t (startPass r g t) := by simp
      exact ⟨ht.1.trans (within_startPass hr g), ho.arbiter.trans ht.2⟩
    · exact ht
  exact hu.1.trans (within_settle hr (by rwa [claims_of_arbiter hu.2]) _)

end Within
end Sys2Proof.Machine
end

section
/-! SUPPORT. The frame tick seen from one region and from ports that have no claim elsewhere (R30, R35, R48). -/

namespace Sys2Proof.Machine

-- The proofs are checked one after another: side by side they ask for more threads than the memory limit leaves.
set_option Elab.async false

/-! ### Before the evaluations: links and inputs (R55, R73, R75) -/

/-- What the links do: the engines' offers and spots, the inputs' Lost monitors and every port but the director's are as they were. -/
structure Behind (s t : State) : Prop where
  only : Only [.links, .monitors, .rotation, .exposure, .comp] s t
  frame : t.comp.frame = s.comp.frame
  offering : t.rotation.offering = s.rotation.offering
  spots : t.rotation.spots = s.rotation.spots
  lost : ∀ i, t.monitor (monLost i) = s.monitor (monLost i)
  port : ∀ v, v ≠ s.director → t.port v = s.port v
  told : PortsTold s t

theorem Only.director {parts : List Part} {s t : State} (h : Only parts s t) (hp : .straps ∉ parts := by decide) : t.director = s.director :=
  congrArg directorOf (h.2 .straps hp).1

theorem Behind.refl (s : State) : Behind s s := ⟨only_rfl, rfl, rfl, rfl, fun _ => rfl, fun _ _ => rfl, PortsTold.refl s⟩

theorem Behind.trans {s t u : State} (h : Behind s t) (k : Behind t u) : Behind s u :=
  ⟨h.only.trans k.only, k.frame.trans h.frame, k.offering.trans h.offering, k.spots.trans h.spots, fun i => (k.lost i).trans (h.lost i),
    fun v hv => (k.port v (by rwa [h.only.director])).trans (h.port v hv), h.told.trans k.told⟩

theorem behind_foldl {α : Type} {f : State → α → State} (hf : ∀ u a, Behind u (f u a)) (l : List α) (s : State) : Behind s (l.foldl f s) := by
  induction l generalizing s with
  | nil => exact Behind.refl s
  | cons a rest ih => exact (hf s a).trans (ih _)

/-- A condition that rises tells nobody but the director (R60). -/
theorem port_raise {v : PortId} {s : State} (hv : v ≠ s.director) (m : MonitorId) (r : Option RegionId) : (raise m r s).port v = s.port v := by
  unfold raise
  simp only
  split
  · rfl
  · split
    · exact port_notify_other (Ne.symm hv) ..
    · rfl

theorem behind_of_links {s t : State} (h : Only [.links, .exposure] s t) (hp : t.ports = s.ports) : Behind s t := by
  have hmon : t.monitors = s.monitors := h.2 .monitors (by simp)
  have hrot : t.rotation = s.rotation := h.2 .rotation (by simp)
  exact ⟨h.mono (by simp), by rw [h.comp], by rw [hrot], by rw [hrot], fun i => by simp [State.monitor, hmon], fun v _ => port_of_ports hp v,
    portsTold_of_ports hp⟩

theorem behind_setLink (k : LinkId) (x : Link) (s : State) : Behind s (s.setLink k x) := behind_of_links (by simp) rfl

theorem behind_raise {m : MonitorId} (hm : ∀ i, monLost i ≠ m) (r : Option RegionId) (s : State) : Behind s (raise m r s) := by
  have h : Only [.monitors] s (raise m r s) := by simp
  have hrot : (raise m r s).rotation = s.rotation := h.2 .rotation (by simp)
  exact ⟨h.mono (by simp), by rw [h.comp], by rw [hrot], by rw [hrot], fun i => by rw [monitor_raise, if_neg fun hc => hm i hc.1],
    fun v hv => port_raise hv m r, portsTold_raise ..⟩

theorem behind_lower {m : MonitorId} (hm : ∀ i, monLost i ≠ m) (s : State) : Behind s (lower m s) := by
  have h : Only [.monitors] s (lower m s) := by simp
  exact ⟨h.mono (by simp), rfl, rfl, rfl, fun i => by rw [lower, monitor_setMonitor, if_neg (hm i)], fun _ _ => rfl, portsTold_lower ..⟩

theorem behind_settleMonitor {m : MonitorId} (hm : ∀ i, monLost i ≠ m) (b : Bool) (s : State) : Behind s (settleMonitor m b s) := by
  unfold settleMonitor
  split
  · exact behind_raise hm ..
  · exact behind_lower hm s

theorem monLost_val (i : InputId) : (monLost i).val < 2 := by cases i <;> decide

theorem monLost_ne_retry (k : LinkId) (i : InputId) : monLost i ≠ monRetry k := by
  intro h
  have := monLost_val i
  rw [h] at this
  simp only [monRetry] at this
  omega

theorem monLost_ne_incomplete (k : LinkId) (i : InputId) : monLost i ≠ monIncomplete k := by
  intro h
  have := monLost_val i
  rw [h] at this
  simp only [monIncomplete] at this
  omega

theorem monLost_ne_down (k : LinkId) (i : InputId) : monLost i ≠ monDown k := (monLost_ne i (.down k)).symm

theorem monLost_injective {i j : InputId} (h : monLost i = monLost j) : i = j := by
  cases i <;> cases j
  case pa.pa => rfl
  case pb.pb => rfl
  all_goals exact absurd h (by decide)

theorem behind_changeLink (k : LinkId) (f : Link → Link) (s : State) : Behind s (changeLink k f s) := by
  unfold changeLink
  simp only
  split
  · exact (behind_setLink ..).trans (behind_raise (monLost_ne_retry k) ..)
  · exact behind_setLink ..

theorem behind_takeRecord (d : DeliveryRecord) (s : State) : Behind s (takeRecord d s) := by
  have hO : Only [.rotation, .exposure, .comp] s (takeRecord d s) := by simp
  have h : (takeRecord d s).comp.frame = s.comp.frame ∧ (takeRecord d s).rotation.offering = s.rotation.offering
      ∧ (takeRecord d s).rotation.spots = s.rotation.spots ∧ (takeRecord d s).ports = s.ports := by
    unfold takeRecord
    simp only
    split
    · split <;> exact ⟨rfl, rfl, rfl, rfl⟩
    · exact ⟨rfl, rfl, rfl, rfl⟩
  obtain ⟨hframe, hoff, hspots, hports⟩ := h
  have hmon : (takeRecord d s).monitors = s.monitors := hO.2 .monitors (by simp)
  exact ⟨hO.mono (by simp), hframe, hoff, hspots, fun i => by simp [State.monitor, hmon], fun v _ => port_of_ports hports v,
    portsTold_of_ports hports⟩

theorem behind_forceClose (k : LinkId) (s : State) : Behind s (forceClose k s) := by
  unfold forceClose
  split
  · exact Behind.refl s
  · refine (behind_changeLink k (Link.result false) s).trans ?_
    unfold closeFrame
    extract_lets l d t u
    have ht : Behind _ t := (behind_setLink ..).trans (behind_takeRecord d _)
    have hu : Behind _ u := ht.trans
      ((behind_settleMonitor (monLost_ne_incomplete k) ..).trans (behind_settleMonitor (monLost_ne_retry k) ..))
    exact hu.trans (behind_setLink ..)

theorem behind_forceCloseAll (s : State) : Behind s (forceCloseAll s) := behind_foldl (fun u k => behind_forceClose k u) _ s

theorem behind_linkTick (k : LinkId) (s : State) : Behind s (linkTick k s) := by
  unfold linkTick
  simp only
  split
  · exact (behind_setLink ..).trans (behind_raise (monLost_ne_down k) ..)
  · exact behind_setLink ..

theorem behind_linksTick (s : State) : Behind s (linksTick s) := behind_foldl (fun u k => behind_linkTick k u) _ s

/-! ### The state in which the regions are evaluated -/

/-- The part when a tick at `n` has come to its links and inputs, and the evaluations begin. -/
def State.begun (n : Nat) (s : State) : State := linksTick (inputTick .pb (inputTick .pa (advance n (forceCloseAll s))))

theorem frameTick_eq (n : Nat) (s : State) :
    frameTick n s = compose (reoffer (forceCloseAll s).dueOffers (evaluateAll (s.begun n))) := rfl

/-- An input neither goes Lost nor has its monitor changed where it is Lost already, or has had a frame in time. -/
def State.unhurt (s : State) (i : InputId) : Prop :=
  (s.monitor (monLost i)).condition = true ∨ inputLate (s.input i) (s.comp.frame + 1) = false

/-- What a tick has done before it evaluates the regions. -/
structure Begun (s b : State) : Prop where
  only : Only [.links, .monitors, .rotation, .exposure, .comp, .inputs] s b
  frame : b.comp.frame = s.comp.frame + 1
  offering : b.rotation.offering = s.rotation.offering
  spots : b.rotation.spots = s.rotation.spots
  lost : ∀ i, s.unhurt i → b.monitor (monLost i) = s.monitor (monLost i) ∧ b.input i = s.input i
  port : ∀ v, v ≠ s.director → b.port v = s.port v
  told : PortsTold s b

theorem input_raise (m : MonitorId) (r : Option RegionId) (s : State) (i : InputId) : (raise m r s).input i = s.input i := by
  have h : (raise m r s).inputs = s.inputs := ((only_raise (parts := [.monitors]) (by simp) m r).mpr only_rfl).2 .inputs (by simp)
  cases i <;> simp [State.input, h]

/-- An input that is in time, or Lost already, is left as it is. -/
theorem inputTick_unhurt {b : State} {j : InputId} (h : (b.monitor (monLost j)).condition = true ∨ inputLate (b.input j) b.frame = false) :
    inputTick j b = b := by
  unfold inputTick
  rw [if_neg]
  rcases h with h | h <;> simp [h]

/-- The other input and its monitor are left as they are. -/
theorem inputTick_other {b : State} {i j : InputId} (h : i ≠ j) :
    (inputTick j b).monitor (monLost i) = b.monitor (monLost i) ∧ (inputTick j b).input i = b.input i := by
  unfold inputTick
  simp only
  split
  · refine ⟨?_, ?_⟩
    · rw [monitor_raise, if_neg fun hc => h (monLost_injective hc.1)]
      cases j <;> rfl
    · rw [input_raise, input_setInput, if_neg h]
  · exact ⟨rfl, rfl⟩

theorem port_inputTick {v : PortId} {b : State} (hv : v ≠ b.director) (j : InputId) : (inputTick j b).port v = b.port v := by
  have hset (x : PictureInput) : (b.setInput j x).director = b.director ∧ (b.setInput j x).port v = b.port v := by cases j <;> exact ⟨rfl, rfl⟩
  unfold inputTick
  simp only
  split
  · rw [port_raise (by rwa [(hset _).1]), (hset _).2]
  · rfl

theorem portsTold_inputTick (j : InputId) (s : State) : PortsTold s (inputTick j s) := by
  have hset (x : PictureInput) : (s.setInput j x).ports = s.ports := by cases j <;> rfl
  unfold inputTick
  simp only
  split
  · exact (portsTold_raise ..).after (hset _)
  · exact PortsTold.refl s

/-- One input at the tick (R55). -/
theorem Begun.inputTick {s b : State} (h : Begun s b) (j : InputId) : Begun s (inputTick j b) := by
  have hO : Only [.inputs, .monitors] b (Machine.inputTick j b) := by simp
  have hrot : (Machine.inputTick j b).rotation = b.rotation := hO.2 .rotation (by simp)
  refine ⟨h.only.trans (hO.mono (by simp)), by rw [hO.comp, h.frame], by rw [hrot, h.offering], by rw [hrot, h.spots], fun i hi => ?_, fun v hv => ?_,
    h.told.trans (portsTold_inputTick ..)⟩
  · obtain ⟨hmon, hin⟩ := h.lost i hi
    by_cases hij : i = j
    · subst hij
      have hstill : (b.monitor (monLost i)).condition = true ∨ inputLate (b.input i) b.frame = false := by
        rw [hmon, hin, State.frame, h.frame]
        exact hi
      rw [inputTick_unhurt hstill]
      exact ⟨hmon, hin⟩
    · rw [(inputTick_other hij).1, (inputTick_other hij).2]
      exact ⟨hmon, hin⟩
  · rw [port_inputTick (by rwa [h.only.director]), h.port v hv]

theorem Begun.links {s b c : State} (h : Begun s b) (k : Behind b c) : Begun s c := by
  refine ⟨h.only.trans (k.only.mono (by simp)), k.frame.trans h.frame, k.offering.trans h.offering, k.spots.trans h.spots, fun i hi => ?_,
    fun v hv => (k.port v (by rwa [h.only.director])).trans (h.port v hv), h.told.trans k.told⟩
  obtain ⟨hmon, hin⟩ := h.lost i hi
  have hinputs : c.inputs = b.inputs := k.only.2 .inputs (by simp)
  refine ⟨(k.lost i).trans hmon, Eq.trans ?_ hin⟩
  cases i <;> simp [State.input, hinputs]

theorem begun_advance {s a : State} (n : Nat) (h : Behind s a) : Begun s (advance n a) := by
  have hinputs : a.inputs = s.inputs := h.only.2 .inputs (by simp)
  refine ⟨Only.trans (h.only.mono (by simp)) (by simp), ?_, h.offering, h.spots, fun i _ => ⟨h.lost i, ?_⟩, h.port, h.told.trans
    (portsTold_of_ports rfl)⟩
  · show a.comp.frame + 1 = _
    rw [h.frame]
  · show a.input i = s.input i
    cases i <;> simp [State.input, hinputs]

theorem begun_begun (n : Nat) (s : State) : Begun s (s.begun n) := by
  exact (((begun_advance n (behind_forceCloseAll s)).inputTick .pa).inputTick .pb).links (behind_linksTick _)

/-! ### The evaluations (R30) -/

section Evaluate
variable {V : PortId → Prop} {r : RegionId} {rs : List RegionId} {s t u : State}

theorem offered_claimNotice (k : NoticeKind) (r : RegionId) (c : Claim) (fields : List Atom) (s : State) :
    Offered s (claimNotice k r c fields s) := by
  unfold claimNotice
  split <;> exact ⟨rfl, rfl⟩

theorem offered_dropped (r : RegionId) (h : Claim) (b : Bool) (s : State) : Offered s (dropped r h b s) := by
  unfold dropped
  split
  · exact ⟨rfl, rfl⟩
  · split
    · exact Offered.refl s
    · exact (quiet_setOffering ..).offered

theorem offered_goBack (r : RegionId) (h : Claim) (reason : Atom) (k : NoticeKind) (fields : List Atom) (s : State) :
    Offered s (goBack r h reason k fields s) := by
  have hj := offered_joinWait r { h with mark := none } s
  unfold goBack
  simp only
  split
  · next u heq =>
    rw [heq] at hj
    exact hj.trans (offered_claimNotice ..)
  · next u heq =>
    rw [heq] at hj
    exact hj.trans ((offered_claimNotice ..).trans (offered_dropped ..))

theorem offered_leave (r : RegionId) (h : Claim) (cause : LeaveCause) (s : State) : Offered s (leave r h cause s) := by
  have hgone : Offered s (s.setClaims r { s.claims r with holder := none }) := (quiet_setClaims ..).offered
  have hnoted (k : NoticeKind) (fields : List Atom) (t : State) : Offered t (dropped r h false (claimNotice k r h fields t)) :=
    (offered_claimNotice ..).trans (offered_dropped ..)
  unfold leave
  simp only
  split
  · exact hgone.trans (offered_dropped ..)
  · exact hgone.trans (hnoted ..)
  · exact hgone.trans (hnoted ..)
  · exact hgone.trans (offered_goBack ..)
  · split
    · exact hgone.trans (offered_goBack ..)
    · exact hgone.trans (hnoted ..)

theorem offered_setRegion (r : RegionId) (g : Option Region) (s : State) : Offered s (s.setRegion r g) := ⟨rfl, rfl⟩

theorem offered_promote (r : RegionId) (c : Claim) (s : State) : Offered s (promote r c s) := by
  unfold promote
  simp only
  split
  · exact ((quiet_setClaims ..).offered.trans (offered_setRegion ..)).trans (offered_claimNotice ..)
  · exact (quiet_setClaims ..).offered.trans (offered_claimNotice ..)

theorem offered_displace (r : RegionId) (h c : Claim) (s : State) : Offered s (displace r h c s) := by
  have hgone : Offered s (s.setClaims r { s.claims r with holder := none }) := (quiet_setClaims ..).offered
  have hj := offered_joinWait r { h with mark := none } (s.setClaims r { s.claims r with holder := none })
  unfold displace
  simp only
  split
  · split
    · next u heq =>
      rw [heq] at hj
      exact (hgone.trans (hj.trans (offered_claimNotice ..))).trans (offered_promote ..)
    · next u heq =>
      rw [heq] at hj
      exact (hgone.trans (hj.trans ((offered_claimNotice ..).trans (offered_dropped ..)))).trans (offered_promote ..)
  · exact (hgone.trans ((offered_claimNotice ..).trans (offered_dropped ..))).trans (offered_promote ..)

theorem offered_arbitrate (r : RegionId) (g : Region) (s : State) : Offered s (arbitrate r g s).1 := by
  have hleave : Offered s (leaveStage r g s).1 := by
    unfold leaveStage
    simp only
    split
    · exact (quiet_setClaims ..).offered
    · split
      · exact (quiet_setClaims ..).offered
      · exact (quiet_setClaims ..).offered.trans (offered_leave ..)
  refine hleave.trans ?_
  show Offered _ (replaceStage r g _ (leaveStage r g s).2 (leaveStage r g s).1).1
  unfold replaceStage
  split
  · exact Offered.refl _
  · split
    · exact offered_displace ..
    · exact Offered.refl _
  · split
    · exact offered_promote ..
    · exact Offered.refl _

theorem Offered.pass (h : Offered s t) (n : RegionId) : t.pass n = s.pass n := by
  unfold State.pass
  rw [h.messages]

theorem pass_rotationAct (r : RegionId) (g : Region) (v : Verdict) (n : RegionId) (s : State) : (rotationAct r g v s).pass n = s.pass n := by
  have hpass {t u : State} (h : Only [.rotation] t u) : u.pass n = t.pass n := by
    unfold State.pass
    rw [h.2 .messages (by simp)]
  have hcut : (cutSpot r s).pass n = s.pass n := hpass (by simp)
  unfold rotationAct
  extract_lets u t
  have ht : t.pass n = s.pass n := by
    unfold t u
    split
    · rfl
    · split
      · split
        · exact ((offered_settle ..).pass n).trans hcut
        · exact hcut
      · rfl
  split
  · exact (hpass (by simp)).trans ht
  · exact ht

/-- The evaluation of a region on which the ports `V` have neither a claim nor a message (R30, R35). -/
theorem within_evaluate (hr : r ∈ rs) (h : (s.claims r).apart V) (hp : s.passApart V r) : Within V rs s (evaluate r s) := by
  unfold evaluate
  split
  · exact Within.refl ..
  next g hg =>
  split
  · exact Within.refl ..
  simp only
  have hspot : Within V rs s (countSpot r g s) := within_countSpot g
  have hspotPass : (countSpot r g s).passApart V r := by
    have hO : Only [.rotation] s (countSpot r g s) := by simp
    intro x hx
    exact hp x (by rwa [State.pass, hO.2 .messages (by simp)] at hx)
  have hcountPass := passApart_countPass hspotPass
  have hO : Only [.rotation, .messages] s (countPass r (countSpot r g s)) := by simp
  have ha : (s.claims r) = (countPass r (countSpot r g s)).claims r := (claims_of_arbiter hO.arbiter r).symm
  have hga : (countPass r (countSpot r g s)).region r = some g := (region_of_canvas hO.canvas r).trans hg
  refine (hspot.trans (within_countPass hr hspotPass)).trans ?_
  generalize countPass r (countSpot r g s) = a at hcountPass ha hga ⊢
  rw [ha] at h
  refine (within_arbitrate hr h g).trans ?_
  obtain ⟨y, hy, hyb, -⟩ := arbitrate_does hga
  have hb : (((arbitrate r g a).1).claims r).apart V := by
    rw [hyb.self]
    exact h.lawful hy
  have hbPass : (arbitrate r g a).1.passApart V r := fun x hx => hcountPass x (by rwa [(offered_arbitrate r g a).pass] at hx)
  generalize arbitrate r g a = e at hb hbPass ⊢
  refine (within_rotationAct hr hb.waiting g e.2).trans ?_
  obtain ⟨z, hz, hzb⟩ := claims_rotationAct r g e.2 e.1
  have hc : ((rotationAct r g e.2 e.1).claims r).apart V := by
    rw [hzb.self]
    exact hb.lawful hz.toLawful
  have hcPass : (rotationAct r g e.2 e.1).passApart V r := fun x hx => hbPass x (by rwa [pass_rotationAct] at hx)
  exact (within_messageAct hr hc.waiting hcPass g e.2).trans (within_setClaims hr _)

/-- What does not look at ports. -/
def nobody : PortId → Prop := fun _ => False

theorem apart_nobody (x : RegionClaims) : x.apart nobody := fun _ _ _ hv => hv.elim
theorem passApart_nobody (r : RegionId) (s : State) : s.passApart nobody r := fun _ _ hv => hv

/-- The evaluations of regions on which the ports `V` have neither a claim nor a message. -/
theorem within_foldl_evaluate (qs : List RegionId) (hqs : qs.Nodup) (hsub : qs ⊆ rs)
    (h : ∀ n ∈ qs, (s.claims n).apart V ∧ s.passApart V n) : Within V rs s (qs.foldl (fun t n => evaluate n t) s) := by
  induction qs generalizing s with
  | nil => exact Within.refl ..
  | cons r rest ih =>
    obtain ⟨hr, hrest⟩ := List.nodup_cons.mp hqs
    obtain ⟨hclaims, hpass⟩ := h r List.mem_cons_self
    have hone : Within V [r] s (evaluate r s) := within_evaluate List.mem_cons_self hclaims hpass
    refine (hone.mono (by simpa using hsub List.mem_cons_self)).trans (ih hrest (fun n hn => hsub (List.mem_cons_of_mem _ hn)) fun n hn => ?_)
    have hne : n ∉ [r] := fun h => hr (by rwa [List.mem_singleton.mp h] at hn)
    obtain ⟨hc, hp⟩ := h n (List.mem_cons_of_mem _ hn)
    rw [hone.claims n hne]
    exact ⟨hc, fun x hx => hp x (by rwa [hone.pass n hne] at hx)⟩

/-- The evaluations of a tick, seen from one region: those before it, its own, and those after it. -/
theorem evaluateAll_at (r : RegionId) (h : ∀ n, n ≠ r → (s.claims n).apart V ∧ s.passApart V n) :
    ∃ pre post u, r ∉ pre ∧ r ∉ post ∧ Within V pre s u ∧ Within V post (evaluate r u) (evaluateAll s)
      ∧ PortsTold s u ∧ PortsTold (evaluate r u) (evaluateAll s) := by
  obtain ⟨pre, post, hsplit⟩ := List.append_of_mem (mem_allRegions r)
  have hnodup := allRegions_nodup
  rw [hsplit] at hnodup
  obtain ⟨hpre, hcons, hdisj⟩ := List.nodup_append.mp hnodup
  obtain ⟨hrpost, hpost⟩ := List.nodup_cons.mp hcons
  have hrpre : r ∉ pre := fun hm => hdisj r hm r List.mem_cons_self rfl
  have hw : Within V pre s (pre.foldl (fun t n => evaluate n t) s) :=
    within_foldl_evaluate pre hpre (List.Subset.refl _) fun n hn => h n fun hnr => hrpre (hnr ▸ hn)
  have htold (l : List RegionId) (t : State) : PortsTold t (l.foldl (fun t n => evaluate n t) t) :=
    portsTold_foldl (fun _ _ => portsTold_evaluate ..) l t
  unfold evaluateAll
  rw [hsplit, List.foldl_append, List.foldl_cons]
  refine ⟨pre, post, _, hrpre, hrpost, hw, ?_, htold .., htold ..⟩
  refine within_foldl_evaluate post hpost (List.Subset.refl _) fun n hn => ?_
  have hnr : n ∉ [r] := fun hm => hrpost (by rwa [List.mem_singleton.mp hm] at hn)
  have hnpre : n ∉ pre := fun hm => hdisj n hm n (List.mem_cons_of_mem _ hn) rfl
  have hone : Within nobody [r] _ (evaluate r (pre.foldl (fun t n => evaluate n t) s)) :=
    within_evaluate List.mem_cons_self (apart_nobody _) (passApart_nobody r _)
  obtain ⟨hc, hp⟩ := h n fun hm => hnr (by simp [hm])
  rw [hone.claims n hnr, hw.claims n hnpre]
  exact ⟨hc, fun x hx => hp x (by rwa [hone.pass n hnr, hw.pass n hnpre] at hx)⟩

end Evaluate

/-! ### The repeated offers and the map (R35, R49) -/

section Reoffer
variable {V : PortId → Prop} {rs : List RegionId} {s : State}

/-- Settling brings to a wait list nothing but the engine's own claim. -/
theorem waiting_settle (e : Engine) (r n : RegionId) (s : State) {w : Claim} (hw : w ∈ ((settle e r s).claims n).waiting) :
    w ∈ (s.claims n).waiting ∨ w.claimant = .engine e := by
  by_cases hn : n = r
  · subst hn
    unfold settle at hw
    split at hw
    · split at hw
      · exact .inl hw
      · obtain ⟨l, hj, hl⟩ := claims_offer e n s
        rw [hl.self] at hw
        rcases List.mem_cons.mp (hj.subperm.subset hw) with rfl | hmem
        · exact .inr rfl
        · exact .inl hmem
    · rw [(claims_releaseEngine e n s).self] at hw
      exact .inl (List.mem_of_mem_filter hw)
  · obtain ⟨y, -, hy⟩ := claims_settle e r s
    rw [hy.other hn] at hw
    exact .inl hw

/-- Repeated offers leave the regions alone that none is due on, and the ports that nothing can push off. -/
theorem within_reoffer (due : List (Engine × RegionId)) (hdue : ∀ d ∈ due, d.2 ∈ rs) (h : ∀ d ∈ due, ∀ w ∈ (s.claims d.2).waiting, w.apart V) :
    Within V rs s (reoffer due s) := by
  unfold reoffer
  induction due generalizing s with
  | nil => exact Within.refl ..
  | cons d rest ih =>
    have hd : Within V rs s (if s.offering d.1 d.2 then settle d.1 d.2 s else s) := by
      split
      · exact within_settle (hdue d List.mem_cons_self) (h d List.mem_cons_self) _
      · exact Within.refl ..
    refine hd.trans (ih (fun x hx => hdue x (List.mem_cons_of_mem _ hx)) fun x hx w hw => ?_)
    split at hw
    · rcases waiting_settle _ _ _ _ hw with hmem | he
      · exact h x (List.mem_cons_of_mem _ hx) w hmem
      · exact fun v _ hv => by simp [he] at hv
    · exact h x (List.mem_cons_of_mem _ hx) w hw

theorem mem_dueOffers {s : State} {d : Engine × RegionId} : d ∈ s.dueOffers ↔ s.offering d.1 d.2 = true := by
  obtain ⟨e, r⟩ := d
  cases e <;> simp [State.dueOffers, mem_allRegions]

theorem port_compose {v : PortId} {s : State} (hv : v ≠ s.director) : (compose s).port v = s.port v := by
  have hshort (i : InputId) (t : State) (ht : v ≠ t.director) : (settleShort i t).port v = t.port v := by
    unfold settleShort
    split
    · exact port_raise ht ..
    · rfl
  have hdir (i : InputId) (t : State) : (settleShort i t).director = t.director := Only.director (parts := [.monitors]) (by simp)
  unfold compose
  rw [hshort, hshort]
  · rfl
  · exact hv
  · rw [hdir]
    exact hv

end Reoffer

end Sys2Proof.Machine
end

section
/-! SUPPORT. One region at a frame tick: what its evaluation meets, and what the tick does after it (R30, R35, R48, R49). -/

namespace Sys2Proof.Machine

-- The proofs are checked one after another: side by side they ask for more threads than the memory limit leaves.
set_option Elab.async false

/-- Region `r` when the tick that follows `s` comes to it. -/
structure Facing (V : PortId → Prop) (r : RegionId) (s u : State) : Prop where
  only : Only [.canvas, .arbiter, .comp, .inputs, .monitors, .links, .rotation, .exposure, .messages] s u
  frame : u.frame = s.comp.frame + 1
  region : u.region r = s.region r
  claims : u.claims r = s.claims r
  pass : u.pass r = s.pass r
  offering : ∀ e, u.offering e r = s.offering e r
  rank : ∀ e, u.engineRank e = s.engineRank e
  spots : u.rotation.spots = s.rotation.spots
  colours : u.canvas.colours = s.canvas.colours
  lost : ∀ i, s.unhurt i → u.monitor (monLost i) = s.monitor (monLost i) ∧ u.input i = s.input i
  port : ∀ v, V v → u.port v = s.port v
  told : PortsTold s u

section Tick
variable {V : PortId → Prop} {r : RegionId} {s b u : State} {n : Nat}

theorem Facing.clock (h : Facing V r s u) : u.clock = s.clock := h.only.2 .clock (by simp)

theorem Begun.facing {qs : List RegionId} (h : Begun s b) (hw : Within V qs b u) (hr : r ∉ qs)
    (hdir : ∀ v, V v → v ≠ s.director) (htold : PortsTold b u) : Facing V r s u := by
  have hcanvas : b.canvas = s.canvas := h.only.canvas
  have harb : b.arbiter = s.arbiter := h.only.arbiter
  have hmes : b.messages = s.messages := h.only.2 .messages (by simp)
  have hmon : u.monitors = b.monitors := hw.only.2 .monitors (by simp)
  have hin : u.inputs = b.inputs := hw.only.2 .inputs (by simp)
  refine ⟨(h.only.mono (by simp)).trans (hw.only.mono (by simp)), hw.frame.trans h.frame, (hw.region r hr).trans (region_of_canvas hcanvas r),
    (hw.claims r hr).trans (claims_of_arbiter harb r), (hw.pass r hr).trans (by simp [State.pass, hmes]), fun e => (hw.offering e r hr).trans ?_,
    fun e => (hw.rank e).trans (engineRank_of_arbiter harb e), hw.spots.trans h.spots, hw.colours.trans (by rw [hcanvas]), fun i hi => ?_,
    fun v hv => (hw.port v hv).trans (h.port v (hdir v hv)), h.told.trans htold⟩
  · cases e
    · simp [State.offering, h.offering]
    · simp [State.offering, hmes]
  · obtain ⟨hm, hi⟩ := h.lost i hi
    refine ⟨Eq.trans (by simp [State.monitor, hmon]) hm, Eq.trans ?_ hi⟩
    cases i <;> simp [State.input, hin]

/-- The ports `V` have no claim on another region, and no message is shown there that is theirs. -/
structure Elsewhere (V : PortId → Prop) (r : RegionId) (s : State) : Prop where
  claims : ∀ n, n ≠ r → (s.claims n).apart V
  pass : ∀ n, n ≠ r → s.passApart V n
  director : ∀ v, V v → v ≠ s.director

theorem elsewhere_nobody (r : RegionId) (s : State) : Elsewhere nobody r s := ⟨fun _ _ => apart_nobody _, fun n _ => passApart_nobody n s,
    fun _ h => h.elim⟩

/-- The evaluations of a tick, from the one of region `r` on. -/
theorem evaluations_at (n : Nat) (h : Elsewhere V r s) :
    ∃ u post, Facing V r s u ∧ r ∉ post ∧ Within V post (evaluate r u) (evaluateAll (s.begun n))
      ∧ PortsTold (evaluate r u) (evaluateAll (s.begun n)) := by
  have hb := begun_begun n s
  have hmes : (s.begun n).messages = s.messages := hb.only.2 .messages (by simp)
  obtain ⟨pre, post, u, hpre, hpost, hu, ht, hbefore, hafter⟩ := evaluateAll_at (V := V) (s := s.begun n) r fun m hm =>
    ⟨by rw [claims_of_arbiter hb.only.arbiter]; exact h.claims m hm, fun x hx => h.pass m hm x (by rwa [State.pass, hmes] at hx)⟩
  exact ⟨u, post, hb.facing hu hpre h.director hbefore, hpost, ht, hafter⟩

/-- What the tick leaves of the region that its evaluation left as in `e`. -/
structure Ended (V : PortId → Prop) (r : RegionId) (s e t : State) : Prop where
  frame : t.comp.frame = s.comp.frame + 1
  region : t.region r = e.region r
  kept : Kept (e.claims r) (t.claims r)
  holder : ∀ c p, (e.claims r).holder = some c → c.claimant = .port p → (t.claims r).holder = some c
  waiting : ∀ x ∈ (t.claims r).waiting, x ∈ (e.claims r).waiting ∨ ∃ d, x.claimant = .engine d
  claims : (∀ d, s.offering d r = false) → t.claims r = e.claims r
  port : ((∀ d, s.offering d r = false) ∨ ∀ w ∈ (e.claims r).waiting, w.apart V) → ∀ v, V v → t.port v = e.port v
  map : ∃ x, t.comp.map = some (buildMap x) ∧ x.region r = t.region r ∧ x.claims r = t.claims r ∧ x.canvas.colours = s.canvas.colours
  told : PortsTold e t

theorem kept_reoffer (due : List (Engine × RegionId)) (n : RegionId) (s : State) : Kept (s.claims n) ((reoffer due s).claims n) := by
  unfold reoffer
  induction due generalizing s with
  | nil => exact Kept.refl _
  | cons d rest ih =>
    refine Kept.trans ?_ (ih _)
    dsimp only
    split
    · exact kept_settle ..
    · exact Kept.refl _

/-- An engine's settling leaves a port's holder as it is. -/
theorem holder_settle {c : Claim} {p : PortId} (hc : c.claimant = .port p) (e : Engine) (r n : RegionId) {s : State}
    (h : (s.claims n).holder = some c) : ((settle e r s).claims n).holder = some c := by
  by_cases hn : n = r
  · subst hn
    unfold settle
    split
    · split
      · exact h
      · obtain ⟨w, -, hw⟩ := claims_offer e n s
        rw [hw.self]
        exact h
    · have hheld : (s.claims n).heldBy (.engine e) = false := by simp [RegionClaims.heldBy, h, hc]
      rw [(claims_releaseEngine e n s).self, hheld]
      exact h
  · obtain ⟨y, -, hy⟩ := claims_settle e r s
    rwa [hy.other hn]

theorem holder_reoffer {c : Claim} {p : PortId} (hc : c.claimant = .port p) (due : List (Engine × RegionId)) {n : RegionId} {s : State}
    (h : (s.claims n).holder = some c) : ((reoffer due s).claims n).holder = some c := by
  unfold reoffer
  induction due generalizing s with
  | nil => exact h
  | cons d rest ih =>
    refine ih ?_
    dsimp only
    split
    · exact holder_settle hc _ _ _ h
    · exact h

theorem waiting_reoffer (due : List (Engine × RegionId)) (n : RegionId) (s : State) {w : Claim} (hw : w ∈ ((reoffer due s).claims n).waiting) :
    w ∈ (s.claims n).waiting ∨ ∃ d, w.claimant = .engine d := by
  unfold reoffer at hw
  induction due generalizing s with
  | nil => exact .inl hw
  | cons d rest ih =>
    rcases ih _ hw with h | h
    · dsimp only at h
      split at h
      · exact (waiting_settle _ _ _ _ h).imp_right fun he => ⟨_, he⟩
      · exact .inl h
    · exact .inr h

theorem compose_does (s : State) : ∃ x, (compose s).comp.map = some (buildMap x) ∧ x.region = s.region ∧ x.claims = s.claims
    ∧ x.canvas = s.canvas := by
  have hmap : Only [.monitors] { s with comp := { s.comp with map := some (buildMap s), previous := s.comp.map }, score := s.score.useFlash }
      (compose s) := by simp [compose]
  exact ⟨s, by rw [hmap.comp], rfl, rfl, rfl⟩

/-- The offers that a tick makes again are those outstanding when it begins (R35). -/
theorem mem_dueOffers_forceCloseAll {s : State} {d : Engine × RegionId} : d ∈ (forceCloseAll s).dueOffers ↔ s.offering d.1 d.2 = true := by
  have hf := behind_forceCloseAll s
  have hmes : (forceCloseAll s).messages = s.messages := hf.only.2 .messages (by simp)
  obtain ⟨e, m⟩ := d
  rw [mem_dueOffers]
  cases e
  · simp [State.offering, hf.offering]
  · simp [State.offering, hmes]

theorem portsTold_compose (s : State) : PortsTold s (compose s) := by
  have hshort (i : InputId) (t : State) : PortsTold t (settleShort i t) := by
    unfold settleShort
    split
    · exact portsTold_raise ..
    · exact portsTold_lower ..
  exact ((hshort .pa _).trans (hshort .pb _)).after rfl

/-- What follows the evaluations of a tick. -/
theorem ended_of {s e a : State} {post : List RegionId} (h : Elsewhere V r s) (hw : Within V post e a) (hpost : r ∉ post)
    (hall : Within nobody allRegions (s.begun n) a) (hev : Evaluated allRegions (s.begun n) a)
    (htold : PortsTold e a) :
    Ended V r s e (compose (reoffer (forceCloseAll s).dueOffers a)) := by
  have hb := begun_begun n s
  have hclaims : a.claims r = e.claims r := hw.claims r hpost
  have hapart (m : RegionId) (hm : m ≠ r) : (a.claims m).apart V := by
    refine RegionClaims.apart.lawful ?_ (hev.lawful m)
    rw [claims_of_arbiter hb.only.arbiter]
    exact h.claims m hm
  have hre := only_reoffer (s := a) (forceCloseAll s).dueOffers
  have hco := only_compose (s := reoffer (forceCloseAll s).dueOffers a)
  have hclaims' : (compose (reoffer (forceCloseAll s).dueOffers a)).claims r = (reoffer (forceCloseAll s).dueOffers a).claims r :=
    claims_of_arbiter hco.arbiter r
  have hregion' : (compose (reoffer (forceCloseAll s).dueOffers a)).region r = (reoffer (forceCloseAll s).dueOffers a).region r :=
    region_of_canvas hco.canvas r
  have hnot (hoff : ∀ d, s.offering d r = false) (d : Engine × RegionId) (hd : d ∈ (forceCloseAll s).dueOffers) : d.2 ≠ r := by
    rintro rfl
    have := mem_dueOffers_forceCloseAll.mp hd
    simp [hoff d.1] at this
  refine ⟨?_, ?_, ?_, fun c p hc hp => ?_, fun x hx => ?_, fun hoff => ?_, fun hor v hv => ?_, ?_,
    htold.trans ((portsTold_reoffer ..).trans (portsTold_compose _))⟩
  · rw [compose_frame, hre.comp, hall.comp, hb.frame]
  · rw [hregion', region_of_canvas hre.canvas, hw.region r hpost]
  · rw [hclaims', ← hclaims]
    exact kept_reoffer ..
  · rw [hclaims']
    exact holder_reoffer hp _ (by rwa [hclaims])
  · rw [hclaims'] at hx
    exact (waiting_reoffer _ r a hx).imp_left (by rw [hclaims]; exact id)
  · have hoffers : Within nobody (allRegions.filter (fun m => m ≠ r)) a (reoffer (forceCloseAll s).dueOffers a) :=
      within_reoffer _ (fun d hd => by simpa [mem_allRegions] using hnot hoff d hd) fun _ _ w _ v hv => hv.elim
    rw [hclaims', ← hclaims]
    exact hoffers.claims r (by simp)
  · have hoffers : Within V allRegions a (reoffer (forceCloseAll s).dueOffers a) := by
      refine within_reoffer _ (fun d _ => mem_allRegions d.2) fun d hd => ?_
      by_cases hdr : d.2 = r
      · rcases hor with hoff | hwait
        · exact absurd hdr (hnot hoff d hd)
        · rw [hdr, hclaims]
          exact hwait
      · exact (hapart d.2 hdr).waiting
    have hdir : (reoffer (forceCloseAll s).dueOffers a).director = s.director := by
      rw [hre.director, hall.only.director, hb.only.director]
    rw [port_compose (by rw [hdir]; exact h.director v hv), hoffers.port v hv, hw.port v hv]
  · obtain ⟨x, hmap, hxr, hxc, hxcanvas⟩ := compose_does (reoffer (forceCloseAll s).dueOffers a)
    refine ⟨x, hmap, by rw [hxr, hregion'], by rw [hxc, hclaims'], ?_⟩
    rw [hxcanvas, hre.canvas, hall.colours, hb.only.canvas]

/-- A tick, seen from one region and from ports that have no claim elsewhere. -/
theorem frameTick_at (n : Nat) (h : Elsewhere V r s) : ∃ u, Facing V r s u ∧ Ended V r s (evaluate r u) (frameTick n s) := by
  obtain ⟨u, post, hu, hpost, hw, htold⟩ := evaluations_at n h
  have hall : Within nobody allRegions (s.begun n) (evaluateAll (s.begun n)) :=
    within_foldl_evaluate allRegions allRegions_nodup (List.Subset.refl _) fun m _ => ⟨apart_nobody _, passApart_nobody m _⟩
  rw [frameTick_eq]
  exact ⟨u, hu, ended_of h hw hpost hall (evaluated_evaluateAll _) htold⟩

theorem timerTick_at (h : Elsewhere V r s) : ∃ u, Facing V r s u ∧ Ended V r s (evaluate r u) (timerTick s) := by
  unfold timerTick
  exact frameTick_at _ h

/-- The tick that the frame timer brings (R45). -/
theorem exec_frameTimerExpiry {t0 : Nat} {s : State} (h : s.comp.timerStart + (if s.ratesel then 166667 else 200000) ≤ t0) :
    exec (.frameTimerExpiry t0) s = .next (pump (timerTick s)) := by
  show Host.Outcome.next (pump (timerExpiry t0 s)) = _
  have hdue : timerDue s t0 = true := decide_eq_true h
  rw [timerExpiry, if_pos hdue]

end Tick
end Sys2Proof.Machine
end

section
/-! SUPPORT. The evaluation of a region that a port holds or that nobody holds, stage by stage (R30 to R35). -/

namespace Sys2Proof.Machine

-- The proofs are checked one after another: side by side they ask for more threads than the memory limit leaves.
set_option Elab.async false

section Evaluate
variable {V : PortId → Prop} {r : RegionId} {g : Region} {h : Claim} {v : PortId} {s t u : State}

/-! ### The stages of an evaluation -/

/-- A holder after the count stage (R31). -/
def Claim.counted (h : Claim) : Claim := { h with remaining := h.remaining.map (fun n => n - 1) }

/-- The part after the count stage of a region (R31). -/
def State.countedAt (r : RegionId) (s : State) : State := s.setClaims r (countStage (s.claims r))

/-- What the engines do with the arbiter's verdict on a region, and the wait count noted (R35). -/
def enginesAct (r : RegionId) (g : Region) (e : State × Verdict) : State := noteWaiting r (messageAct r g e.2 (rotationAct r g e.2 e.1))

/-- No engine holds the region. -/
def RegionClaims.portHeld (x : RegionClaims) : Prop := ∀ c e, x.holder = some c → c.claimant ≠ .engine e

theorem portHeld_heldBy {x : RegionClaims} (h : x.portHeld) (e : Engine) : x.heldBy (.engine e) = false := by
  unfold RegionClaims.heldBy
  split
  · next c hc => simp [h c e hc]
  · rfl

theorem portHeld_of_holder {x : RegionClaims} (hx : x.holder = some h) (hv : h.claimant = .port v) : x.portHeld := fun c e hc => by
  obtain rfl := Option.some.inj (hx.symm.trans hc)
  simp [hv]

theorem portHeld_of_none {x : RegionClaims} (hx : x.holder = none) : x.portHeld := fun c e hc => by simp [hx] at hc

theorem fixed_of_view (hview : g.view = .none) : g.fixed = false := by simp [Region.fixed, hview]

theorem claims_countedAt (r : RegionId) (s : State) : ClaimsBecome r (countStage (s.claims r)) s (s.countedAt r) := claimsBecome_setClaims ..

theorem holder_countedAt (hh : (s.claims r).holder = some h) : ((s.countedAt r).claims r).holder = some h.counted := by
  rw [(claims_countedAt r s).self, countStage_eq, hh]
  rfl

theorem waiting_countedAt (r : RegionId) (s : State) : ((s.countedAt r).claims r).waiting = (s.claims r).waiting := by
  rw [(claims_countedAt r s).self, countStage_eq]

/-- The engines' counting has nothing to count where no engine holds (R129, R163). -/
theorem evaluate_eq (hg : s.region r = some g) (hf : g.fixed = false) (hx : (s.claims r).portHeld) :
    evaluate r s = enginesAct r g (arbitrate r g s) := by
  have hspot : countSpot r g s = s := by
    unfold countSpot
    rw [if_neg (by simp [portHeld_heldBy hx])]
  have hpass : countPass r s = s := by
    unfold countPass
    rw [if_neg (by simp [portHeld_heldBy hx])]
  unfold evaluate
  simp only [hg, hf, hspot, hpass]
  rfl

/-- The count and leave stages (R31, R32). -/
theorem leaveStage_eq (r : RegionId) (g : Region) (s : State) :
    leaveStage r g s
      = match (s.claims r).holder with
        | none => (s.countedAt r, none)
        | some h =>
          match leaveCause s g h.counted with
          | none => (s.countedAt r, none)
          | some cause => (leave r h.counted cause (s.countedAt r), some h.counted) := by
  have hholder : ((s.countedAt r).claims r).holder = (s.claims r).holder.map Claim.counted := by
    rw [(claims_countedAt r s).self, countStage_eq]
    rfl
  unfold leaveStage
  show (match ((s.countedAt r).claims r).holder with | none => _ | some h => _) = _
  rw [hholder]
  cases (s.claims r).holder with
  | none => rfl
  | some h =>
    show (match leaveCause s g h.counted with | none => _ | some cause => _) = _
    cases hc : leaveCause s g h.counted <;> simp only [hc] <;> rfl

theorem evaluate_leaves {cause : LeaveCause} (hg : s.region r = some g) (hf : g.fixed = false) (hh : (s.claims r).holder = some h)
    (hv : h.claimant = .port v) (hc : leaveCause s g h.counted = some cause) :
    evaluate r s
      = enginesAct r g (replaceStage r g (dwellPassed g s.frame) (some h.counted) (leave r h.counted cause (s.countedAt r))) := by
  rw [evaluate_eq hg hf (portHeld_of_holder hh hv), arbitrate, leaveStage_eq]
  simp only [hh, hc]

theorem evaluate_stays (hg : s.region r = some g) (hf : g.fixed = false) (hx : (s.claims r).portHeld)
    (hc : ∀ h, (s.claims r).holder = some h → leaveCause s g h.counted = none) :
    evaluate r s = enginesAct r g (replaceStage r g (dwellPassed g s.frame) none (s.countedAt r)) := by
  rw [evaluate_eq hg hf hx, arbitrate, leaveStage_eq]
  cases hh : (s.claims r).holder with
  | none => simp only
  | some h => simp only [hc h hh]

/-! ### A port is told, and its holder is gone (R32, R38, R43) -/

theorem holderLeft_idle {x : Port} (h : x.requests = []) (tag : Nat) : holderLeft tag x = x := by
  unfold holderLeft
  simp only [h, List.map_nil, List.filter_nil, List.foldl_nil]
  rw [← h]

theorem port_claimNotice (hv : h.claimant = .port v) (k : NoticeKind) (r : RegionId) (fields : List Atom) (s : State) :
    (claimNotice k r h fields s).port v = noteTo (claimNoticeOf k r h.tag s.frame fields) (s.port v) := by
  unfold claimNotice
  rw [hv]
  exact (port_updatePort (s := s) rfl v).trans (if_pos rfl)

theorem port_dropped (hv : h.claimant = .port v) (hreq : (s.port v).requests = []) (r : RegionId) (b : Bool) :
    (dropped r h b s).port v = s.port v := by
  unfold dropped
  rw [hv]
  exact ((port_updatePort (s := s) rfl v).trans (if_pos rfl)).trans (holderLeft_idle hreq h.tag)

theorem noteTo_requests (n : Notice) (x : Port) : (noteTo n x).requests = x.requests := by
  unfold noteTo
  split <;> rfl

/-- A holder has left: the wait list is `w`, and its port has been sent the notices `l`. -/
structure Left (r : RegionId) (h : Claim) (w : List Claim) (l : List Notice) (s t : State) : Prop where
  only : Only [.arbiter, .rotation, .messages] s t
  claims : ClaimsBecome r { s.claims r with holder := none, waiting := w } s t
  offered : Offered s t
  port : ∀ v, h.claimant = .port v → (s.port v).requests = [] → t.port v = l.foldl (fun x n => noteTo n x) (s.port v)

/-- The notices a holder's port is sent where it is dropped (R32, R43). -/
def LeaveCause.notices (r : RegionId) (tag : Nat) (f : FrameNo) : LeaveCause → List Notice
  | .released => []
  | .duration => [claimNoticeOf .ended r tag f [.named 0]]
  | .clockStart => [claimNoticeOf .clockStarted r tag f []]
  | .keep => []
  | .fallback => [claimNoticeOf .ended r tag f [.named 1]]

/-- A port's holder that is dropped, with a notice. -/
theorem left_told (h : Claim) (r : RegionId) (k : NoticeKind) (fields : List Atom) (s : State) :
    Left r h (s.claims r).waiting [claimNoticeOf k r h.tag s.frame fields] s
      (dropped r h false (claimNotice k r h fields (s.setClaims r { s.claims r with holder := none }))) := by
  refine ⟨by simp, (claimsBecome_setClaims ..).congr ?_, ?_, fun p hp hreq => ?_⟩
  · rw [dropped_arbiter, claimNotice_arbiter]
  · exact (quiet_setClaims ..).offered.trans ((offered_claimNotice ..).trans (offered_dropped ..))
  · rw [port_dropped hp, port_claimNotice hp]
    · rfl
    · rw [port_claimNotice hp, noteTo_requests]
      exact hreq

theorem left_leave {cause : LeaveCause} (hk : cause ≠ .keep) (hr : cause = .fallback → h.resume = false)
    (r : RegionId) (s : State) : Left r h (s.claims r).waiting (cause.notices r h.tag s.frame) s (leave r h cause s) := by
  unfold leave
  cases cause
  case released =>
    refine ⟨by simp, (claimsBecome_setClaims ..).congr (dropped_arbiter ..), (quiet_setClaims ..).offered.trans (offered_dropped ..),
      fun p hp hreq => port_dropped (s := s.setClaims r { s.claims r with holder := none }) hp hreq r true⟩
  case duration => exact left_told ..
  case clockStart => exact left_told ..
  case keep => exact absurd rfl hk
  case fallback =>
    simp only [hr rfl]
    exact left_told ..

/-- A port's holder that goes back to a wait list with room (R32). -/
theorem left_goBack (hroom : (s.claims r).waiting.length < 4) (reason : Atom) (k : NoticeKind) (fields : List Atom) :
    Left r h (insertClaim { h with mark := none } (s.claims r).waiting)
      [claimNoticeOf .displaced r h.tag s.frame ([reason] ++ optNat h.remaining
        ++ [nat (positionOf { h with mark := none } (insertClaim { h with mark := none } (s.claims r).waiting))])] s
      (goBack r h reason k fields (s.setClaims r { s.claims r with holder := none })) := by
  have hroom' : ((s.setClaims r { s.claims r with holder := none }).claims r).waiting.length < 4 := by
    rw [claims_setClaims_self]
    exact hroom
  have hself : (s.setClaims r { s.claims r with holder := none }).claims r = { s.claims r with holder := none } := claims_setClaims_self ..
  unfold goBack
  simp only [joinWait_room hroom', hself]
  rw [claims_setClaims_self]
  refine ⟨by simp, ?_, ?_, fun p hp _ => ?_⟩
  · refine ClaimsBecome.congr ?_ (claimNotice_arbiter ..)
    exact (claimsBecome_setClaims ..).trans (claimsBecome_setClaims ..)
  · exact ((quiet_setClaims ..).trans (quiet_setClaims ..)).offered.trans (offered_claimNotice ..)
  · rw [port_claimNotice (h := { h with mark := none }) hp]
    rfl

/-- A region without a holder gets its candidate, once the dwell has passed, or stays as it is (R33). -/
theorem replaceStage_unheld (hn : (s.claims r).holder = none) (passed : Bool) (left : Option Claim) (g : Region) :
    replaceStage r g passed left s
      = match candidate s r g with
        | none => (s, ⟨left, none⟩)
        | some c => if passed then (promote r c s, ⟨left, some c⟩) else (s, ⟨left, none⟩) := by
  unfold replaceStage
  rw [hn]
  cases candidate s r g <;> rfl

theorem port_promote (hv : h.claimant = .port v) (r : RegionId) (s : State) :
    (promote r h s).port v = noteTo (claimNoticeOf .holding r h.tag s.frame (nat h.rank :: optNat h.remaining)) (s.port v) := by
  unfold promote
  simp only
  split
  · exact port_claimNotice hv ..
  · exact port_claimNotice hv ..

/-! ### The engines, where a port's holder left or none (R35, R126, R160) -/

/-- The holder that left, where one did, was a port's. -/
def Verdict.ofPort (x : Verdict) : Prop := ∀ c, x.left = some c → ∃ p, c.claimant = .port p

/-- A port's holder that left, and one that is displaced, is a port's. -/
theorem replaceStage_ofPort (passed : Bool) {left : Option Claim} (hleft : ∀ c, left = some c → ∃ p, c.claimant = .port p)
    (hheld : ∀ c, (s.claims r).holder = some c → ∃ p, c.claimant = .port p) (g : Region) : (replaceStage r g passed left s).2.ofPort := by
  unfold replaceStage
  split
  · exact hleft
  · next h c hh _ =>
    split
    · intro x hx
      obtain rfl := Option.some.inj hx
      exact hheld _ hh
    · exact hleft
  · split <;> exact hleft

theorem rotationAct_ofPort {x : Verdict} (hx : x.ofPort) (r : RegionId) (g : Region) (s : State) :
    rotationAct r g x s = if (s.claims r).heldBy (.engine .rotation) && (s.currentSpot r).isNone then selectSpot r g s else s := by
  unfold rotationAct
  cases hl : x.left with
  | none => rfl
  | some c =>
    obtain ⟨p, hp⟩ := hx c hl
    simp [hp]

theorem messageAct_ofPort {x : Verdict} (hx : x.ofPort) (r : RegionId) (g : Region) (s : State) :
    messageAct r g x s
      = settle .message r (if (s.claims r).heldBy (.engine .message) && (s.pass r).isNone then startPass r g s else s) := by
  unfold messageAct
  cases hl : x.left with
  | none => rfl
  | some c =>
    obtain ⟨p, hp⟩ := hx c hl
    simp [hp]

/-- What the engines find of a region's claims when the Message Engine settles is what the arbiter left. -/
theorem enginesAct_ofPort {e : State × Verdict} (hx : e.2.ofPort) (r : RegionId) (g : Region) :
    ∃ a, Only [.rotation, .messages] e.1 a ∧ a.ports = e.1.ports ∧ enginesAct r g e = noteWaiting r (settle .message r a) := by
  have hrot : Only [.rotation, .messages] e.1 (rotationAct r g e.2 e.1) ∧ (rotationAct r g e.2 e.1).ports = e.1.ports := by
    rw [rotationAct_ofPort hx]
    split
    · exact ⟨by simp, ports_selectSpot ..⟩
    · exact ⟨only_rfl, rfl⟩
  obtain ⟨honly, hports⟩ := hrot
  unfold enginesAct
  rw [messageAct_ofPort hx]
  generalize rotationAct r g e.2 e.1 = b at honly hports ⊢
  refine ⟨_, ?_, ?_, rfl⟩
  · split
    · exact honly.trans (by simp)
    · exact honly
  · split
    · rw [ports_startPass, hports]
    · exact hports

theorem kept_enginesAct (e : State × Verdict) (r : RegionId) (g : Region) : Kept (e.1.claims r) ((enginesAct r g e).claims r) := by
  obtain ⟨z, hz, hzb⟩ := claims_then (claims_then (claims_rotationAct r g e.2 e.1) (claims_messageAct r g e.2 _)) (claims_noteWaiting r _)
  rw [enginesAct, hzb.self]
  exact hz

theorem region_enginesAct (e : State × Verdict) (r n : RegionId) (g : Region) : (enginesAct r g e).region n = e.1.region n := by
  have h : Only [.arbiter, .rotation, .messages] e.1 (enginesAct r g e) := by
    have := (only_rotationAct (s := e.1) r g e.2).trans (only_messageAct r g e.2)
    simpa [enginesAct, noteWaiting] using this
  exact region_of_canvas h.canvas n

/-- The Rotation Engine keeps a port's holder, and brings no port a claim that waits. -/
theorem claims_of_rotationAct (r : RegionId) (g : Region) (v : Verdict) (s : State) :
    ∃ b, Only [.rotation] s b ∧ ((rotationAct r g v s).claims r = s.claims r ∨ (rotationAct r g v s).claims r = (settle .rotation r b).claims r) := by
  have hsel (t : State) : (selectSpot r g t).claims r = t.claims r := by
    have h : Only [.rotation] t (selectSpot r g t) := by simp
    exact claims_of_arbiter h.arbiter r
  have hcut : Only [.rotation] s (cutSpot r s) := by simp
  refine ⟨cutSpot r s, hcut, ?_⟩
  unfold rotationAct
  extract_lets u t
  have ht : t.claims r = s.claims r ∨ t.claims r = (settle .rotation r (cutSpot r s)).claims r := by
    unfold t u
    split
    · exact .inl rfl
    · split
      · split
        · exact .inr rfl
        · exact .inl (claims_of_arbiter hcut.arbiter r)
      · exact .inl rfl
  split
  · rw [hsel]
    exact ht
  · exact ht

theorem claims_of_messageAct (r : RegionId) (g : Region) (v : Verdict) (s : State) :
    ∃ b, Only [.messages] s b ∧ messageAct r g v s = settle .message r b := by
  unfold messageAct
  extract_lets t u
  refine ⟨u, ?_, rfl⟩
  have ht : Only [.messages] s t := by
    unfold t
    split
    · exact only_rfl
    · split
      · split <;> simp
      · exact only_rfl
  unfold u
  split
  · exact ht.trans (by simp)
  · exact ht

/-- The engines keep a port's holder. -/
theorem holder_enginesAct {e : State × Verdict} {c : Claim} {p : PortId} (hc : (e.1.claims r).holder = some c)
    (hp : c.claimant = .port p) (g : Region) : ((enginesAct r g e).claims r).holder = some c := by
  have hrot : ((rotationAct r g e.2 e.1).claims r).holder = some c := by
    obtain ⟨b, hb, hor⟩ := claims_of_rotationAct r g e.2 e.1
    rcases hor with h | h <;> rw [h]
    · exact hc
    · exact holder_settle hp _ _ _ (by rwa [claims_of_arbiter hb.arbiter])
  obtain ⟨b, hb, heq⟩ := claims_of_messageAct r g e.2 (rotationAct r g e.2 e.1)
  rw [enginesAct, heq, noteWaiting, claims_setClaims_self]
  exact holder_settle hp _ _ _ (by rwa [claims_of_arbiter hb.arbiter])

/-- The engines bring no port a claim that waits. -/
theorem waiting_enginesAct {e : State × Verdict} {w : Claim} (hw : w ∈ ((enginesAct r g e).claims r).waiting) :
    w ∈ (e.1.claims r).waiting ∨ ∃ d, w.claimant = .engine d := by
  obtain ⟨b, hb, heq⟩ := claims_of_messageAct r g e.2 (rotationAct r g e.2 e.1)
  rw [enginesAct, heq, noteWaiting, claims_setClaims_self] at hw
  rcases waiting_settle .message r r b hw with h | h
  · rw [claims_of_arbiter hb.arbiter] at h
    obtain ⟨a, ha, hor⟩ := claims_of_rotationAct r g e.2 e.1
    rcases hor with hr | hr <;> rw [hr] at h
    · exact .inl h
    · rcases waiting_settle .rotation r r a h with h | h
      · exact .inl (by rwa [claims_of_arbiter ha.arbiter] at h)
      · exact .inr ⟨_, h⟩
  · exact .inr ⟨_, h⟩

/-- The engines, seen from ports that have no claim on the wait list and no message in the region. -/
theorem within_enginesAct {e : State × Verdict} (hw : ∀ w ∈ (e.1.claims r).waiting, w.apart V) (hp : e.1.passApart V r) (g : Region) :
    Within V [r] e.1 (enginesAct r g e) := by
  have hmem : r ∈ [r] := List.mem_cons_self
  have hwait : ∀ w ∈ ((rotationAct r g e.2 e.1).claims r).waiting, w.apart V := by
    intro w hm
    obtain ⟨a, ha, hor⟩ := claims_of_rotationAct r g e.2 e.1
    rcases hor with hr | hr <;> rw [hr] at hm
    · exact hw w hm
    · rcases waiting_settle .rotation r r a hm with h | h
      · exact hw w (by rwa [claims_of_arbiter ha.arbiter] at h)
      · exact fun v _ hv => by simp [h] at hv
  have hpass : (rotationAct r g e.2 e.1).passApart V r := fun x hx => hp x (by rwa [pass_rotationAct] at hx)
  exact ((within_rotationAct hmem hw g e.2).trans (within_messageAct hmem hwait hpass g e.2)).trans (within_setClaims hmem _)

/-- Ports without a waiting claim hear nothing of the engines. -/
theorem port_enginesAct {e : State × Verdict} (hx : e.2.ofPort) (hw : ∀ w ∈ (e.1.claims r).waiting, w.apart V) (g : Region) (hv : V v) :
    (enginesAct r g e).port v = e.1.port v := by
  obtain ⟨a, ha, hports, heq⟩ := enginesAct_ofPort hx r g
  have hset : Within V [r] a (settle .message r a) := within_settle List.mem_cons_self (by rwa [claims_of_arbiter ha.arbiter]) _
  rw [heq]
  exact (hset.port v hv).trans (port_of_ports hports v)

/-- Where the region carries no messages nobody hears of the engines, and they leave what is not theirs. -/
theorem enginesAct_unmessaged {e : State × Verdict} {k : Region} (hx : e.2.ofPort) (hg : e.1.region r = some k) (hm : k.message = false)
    (g : Region) :
    (enginesAct r g e).ports = e.1.ports ∧
      ((e.1.claims r).portHeld → (∀ w ∈ (e.1.claims r).waiting, w.claimant ≠ .engine .message) →
        ((enginesAct r g e).claims r).holder = (e.1.claims r).holder ∧ ((enginesAct r g e).claims r).waiting = (e.1.claims r).waiting) := by
  obtain ⟨a, ha, hports, heq⟩ := enginesAct_ofPort hx r g
  have hgone : settle .message r a = releaseEngine .message r a := by
    unfold settle
    rw [if_neg]
    simp [State.interest, messageInterest, region_of_canvas ha.canvas, hg, hm]
  have hclaims := claims_of_arbiter ha.arbiter r
  rw [heq, hgone]
  refine ⟨hports, fun hheld hwait => ?_⟩
  rw [noteWaiting, claims_setClaims_self, (claims_releaseEngine .message r a).self, hclaims, portHeld_heldBy hheld]
  refine ⟨rfl, List.filter_eq_self.mpr fun w hw => ?_⟩
  simp [hwait w hw]

end Evaluate
end Sys2Proof.Machine
end

section
/-! PROOF. A holder leaves at the tick at which its time is up (O33). -/

namespace Sys2Proof.Machine

-- The proofs are checked one after another: side by side they ask for more threads than the memory limit leaves.
set_option Elab.async false

/-! ### A claim that is live no more -/

/-- No live claim has the claimant and the tag of `h`. -/
def RegionClaims.lacks (x : RegionClaims) (h : Claim) : Prop := ∀ c ∈ x.live, c.same h = false

theorem lacks_iff {x : RegionClaims} {h : Claim} {v : PortId} (hv : h.claimant = .port v) : x.lacks h ↔ h.tag ∉ tagsOf v x.live := by
  unfold RegionClaims.lacks tagsOf
  simp only [List.mem_map, List.mem_filter, decide_eq_true_eq, not_exists, not_and, and_imp]
  refine forall₂_congr fun c _ => ?_
  rw [Bool.eq_false_iff, Ne, claim_same_iff, hv, not_and]

theorem RegionClaims.lacks.lawful {x y : RegionClaims} {h : Claim} {v : PortId} (hx : x.lacks h) (hv : h.claimant = .port v) (k : Lawful x y) :
    y.lacks h := by
  rw [lacks_iff hv] at hx ⊢
  exact fun hm => hx ((k.fewer v).subset hm)

theorem lacks_unheld {x : RegionClaims} {h : Claim} (hx : x.holder = none) : x.lacks h ↔ ∀ w ∈ x.waiting, w.same h = false := by
  simp [RegionClaims.lacks, RegionClaims.live, hx]

/-- The one port of a statement about notices. -/
def only (v : PortId) : PortId → Prop := fun p => p = v

theorem claim_apart_only {c : Claim} {v : PortId} : c.apart (only v) ↔ c.claimant ≠ .port v :=
  ⟨fun h => h v rfl, fun h _ hp => hp ▸ h⟩

theorem waiting_apart_only {l : List Claim} {v : PortId} : (∀ w ∈ l, w.apart (only v)) ↔ l.any (fun w => decide (w.claimant = .port v)) = false := by
  simp [claim_apart_only]

theorem apart_only_iff {x : RegionClaims} {v : PortId} : x.apart (only v) ↔ x.heldBy (.port v) = false ∧ x.awaitedBy (.port v) = false := by
  rw [RegionClaims.awaitedBy, ← waiting_apart_only]
  unfold RegionClaims.apart RegionClaims.heldBy
  obtain ⟨_ | c, w, n⟩ := x
  · simp [RegionClaims.live]
  · simp [RegionClaims.live, claim_apart_only]

theorem HearsOnlyOf.elsewhere {r : RegionId} {v : PortId} {s : State} (h : HearsOnlyOf r v s) : Elsewhere (only v) r s := by
  obtain ⟨hdir, -, hpass, hclaims⟩ := h
  exact ⟨fun n hn => apart_only_iff.mpr (hclaims n hn), fun n _ x hx hv => hpass n x hx hv, fun p hp => hp ▸ hdir⟩

/-- A port has been sent the notices that the tick added before the transmitters start. -/
theorem hears_pump {v : PortId} {l : List Notice} {s t : State} (h : t.port v = l.foldl (fun x n => noteTo n x) (s.port v)) :
    Hears v l s (pump t) := by
  rw [Hears, port_pump, h]

/-! ### A holder is dropped -/

section Drop
variable {V : PortId → Prop} {r : RegionId} {g : Region} {h : Claim} {v : PortId} {s u : State} {cause : LeaveCause}

/-- The evaluation that drops a port's holder: its claims are lawful as without it, and its port hears no more than of that. -/
theorem evaluate_drops (hg : u.region r = some g) (hf : g.fixed = false) (hh : (u.claims r).holder = some h) (hv : h.claimant = .port v)
    (hk : cause ≠ .keep) (hr : cause = .fallback → h.resume = false) (hc : leaveCause u g h.counted = some cause) :
    Lawful { u.claims r with holder := none } ((evaluate r u).claims r)
      ∧ ((u.port v).requests = [] → ({ u.claims r with holder := none } : RegionClaims).apart (only v) →
        (evaluate r u).port v = (cause.notices r h.tag u.frame).foldl (fun x n => noteTo n x) (u.port v)) := by
  have hleft : Left r h.counted ((u.countedAt r).claims r).waiting (cause.notices r h.tag u.frame) (u.countedAt r)
      (leave r h.counted cause (u.countedAt r)) := left_leave (h := h.counted) hk hr ..
  rw [evaluate_leaves hg hf hh hv hc]
  generalize leave r h.counted cause (u.countedAt r) = a at hleft ⊢
  have ha : a.claims r = { u.claims r with holder := none } := by
    rw [hleft.claims.self, waiting_countedAt, (claims_countedAt r u).self, countStage_eq]
  have hga : a.region r = some g := (region_of_canvas hleft.only.canvas r).trans hg
  have hnone : (a.claims r).holder = none := by rw [ha]
  obtain ⟨y, hy, hyb, -⟩ := replaceStage_does (dwellPassed g u.frame) (some h.counted) hga
  have hof : (replaceStage r g (dwellPassed g u.frame) (some h.counted) a).2.ofPort :=
    replaceStage_ofPort _ (fun c hc => ⟨v, by rw [← Option.some.inj hc]; exact hv⟩) (fun c hc => absurd (hnone.symm.trans hc) nofun) g
  rw [← ha]
  refine ⟨hy.trans ?_, fun hreq hapart => ?_⟩
  · rw [← hyb.self]
    exact (kept_enginesAct ..).toLawful
  · have hwithin := within_replaceStage List.mem_cons_self hapart g (dwellPassed g u.frame) (some h.counted) (rs := [r])
    rw [port_enginesAct (V := only v) hof ?_ g rfl, hwithin.port v rfl]
    · exact hleft.port v hv hreq
    · rw [hyb.self]
      exact (hapart.lawful hy).waiting

/-- A tick at which a port's holder is dropped. -/
theorem tick_drops (hg : s.region r = some g) (hview : g.view = .none) (hh : (s.claims r).holder = some h) (hv : h.claimant = .port v)
    (hk : cause ≠ .keep) (hr : cause = .fallback → h.resume = false)
    (hc : ∀ V u, Facing V r s u → leaveCause u g h.counted = some cause) :
    (pump (timerTick s)).comp.frame = s.comp.frame + 1
      ∧ ((∀ w ∈ (s.claims r).waiting, w.same h = false) → ((pump (timerTick s)).claims r).lacks h)
      ∧ (HearsOnlyOf r v s → (s.claims r).awaitedBy (.port v) = false →
          Hears v (cause.notices r h.tag (s.comp.frame + 1)) s (pump (timerTick s))) := by
  have hf := fixed_of_view hview
  have hclaims := claims_of_arbiter (pump_arbiter (timerTick s)) r
  refine ⟨?_, fun hfresh => ?_, fun hears hwait => hears_pump ?_⟩
  · rw [pump_comp]
    obtain ⟨u, -, he⟩ := timerTick_at (elsewhere_nobody r s)
    exact he.frame
  · obtain ⟨u, hu, he⟩ := timerTick_at (elsewhere_nobody r s)
    obtain ⟨hlaw, -⟩ := evaluate_drops (hu.region.trans hg) hf (by rw [hu.claims]; exact hh) hv hk hr (hc _ u hu)
    rw [hu.claims] at hlaw
    rw [hclaims]
    exact ((lacks_unheld (x := { s.claims r with holder := none }) rfl).mpr hfresh).lawful hv (hlaw.trans he.kept.toLawful)
  · have hgone : ({ s.claims r with holder := none } : RegionClaims).apart (only v) := apart_only_iff.mpr ⟨rfl, hwait⟩
    obtain ⟨u, hu, he⟩ := timerTick_at hears.elsewhere
    obtain ⟨hlaw, hport⟩ := evaluate_drops (hu.region.trans hg) hf (by rw [hu.claims]; exact hh) hv hk hr (hc _ u hu)
    rw [hu.claims] at hlaw hport
    rw [hu.port v rfl, hu.frame] at hport
    exact (he.port (.inr (hgone.lawful hlaw).waiting) v rfl).trans (hport hears.2.1 hgone)

end Drop

/-! ### A holder goes back to waiting -/

section Back
variable {r : RegionId} {g : Region} {h : Claim} {v : PortId} {s u : State} {cause : LeaveCause}

/-- A holder as it goes back to waiting (R32). -/
def Claim.back (h : Claim) : Claim := { h.counted with mark := none }

/-- The reason that Displaced gives for a cause (R32, R43). -/
def LeaveCause.reason (cause : LeaveCause) : Atom := if cause = .keep then .named 1 else .named 2

theorem back_same (h : Claim) : h.back.same h = true := (claim_same_iff ..).mpr ⟨rfl, rfl⟩

theorem leave_back (hb : cause = .keep ∨ cause = .fallback ∧ h.resume = true) (r : RegionId) (s : State) :
    ∃ k fields, leave r h cause s = goBack r h cause.reason k fields (s.setClaims r { s.claims r with holder := none }) := by
  unfold leave
  rcases hb with rfl | ⟨rfl, hr⟩
  · exact ⟨_, _, rfl⟩
  · simp only [hr]
    exact ⟨_, _, rfl⟩

/-- The evaluation at which a port's holder goes back to a wait list with room. -/
theorem evaluate_back (hg : u.region r = some g) (hf : g.fixed = false) (hh : (u.claims r).holder = some h) (hv : h.claimant = .port v)
    (hb : cause = .keep ∨ cause = .fallback ∧ h.resume = true) (hc : leaveCause u g h.counted = some cause)
    (hroom : (u.claims r).waiting.length < 4) :
    ∃ a, Left r h.counted (insertClaim h.back (u.claims r).waiting)
        [claimNoticeOf .displaced r h.tag u.frame ([cause.reason] ++ optNat (h.remaining.map (fun n => n - 1))
          ++ [nat (positionOf h.back (insertClaim h.back (u.claims r).waiting))])] (u.countedAt r) a
      ∧ evaluate r u = enginesAct r g (replaceStage r g (dwellPassed g u.frame) (some h.counted) a) := by
  refine ⟨_, ?_, evaluate_leaves hg hf hh hv hc⟩
  obtain ⟨k, fields, hk⟩ := leave_back (h := h.counted) hb r (u.countedAt r)
  rw [hk, ← waiting_countedAt r u]
  exact left_goBack (h := h.counted) (s := u.countedAt r) (by rwa [waiting_countedAt]) ..

theorem eligible_congr {s t : State} (hm : t.monitors = s.monitors) (hc : t.clock = s.clock) (g : Region) (c : Claim) :
    eligible t g c = eligible s g c := by
  have hlost (i : InputId) : t.treatedLost i = s.treatedLost i := by simp [State.treatedLost, State.monitor, hm]
  have hrun : t.running = s.running := by simp [State.running, hc]
  unfold eligible
  rw [hrun]
  cases c.content <;> simp [hlost]

theorem not_same_trans {a b c : Claim} (hab : a.same b = true) (hbc : b.same c = false) : a.same c = false := by
  rw [Bool.eq_false_iff, Ne, claim_same_iff] at hbc ⊢
  obtain ⟨h1, h2⟩ := (claim_same_iff ..).mp hab
  rw [h1, h2]
  exact hbc

/-- A holder that leaves and is not eligible does not become holder again at once. -/
theorem holder_of_ineligible (hg : u.region r = some g) (hf : g.fixed = false) (hh : (u.claims r).holder = some h) (hv : h.claimant = .port v)
    (hc : leaveCause u g h.counted = some cause) (hin : eligible u g h.back = false) (hfresh : ∀ w ∈ (u.claims r).waiting, w.same h = false)
    {x : Claim} (hx : ((evaluate r u).claims r).holder = some x) : x.same h = false := by
  obtain ⟨w, hj, hw⟩ := claims_leave r h.counted cause (u.countedAt r)
  have ho : Only [.arbiter, .rotation, .messages] (u.countedAt r) (leave r h.counted cause (u.countedAt r)) := by simp
  rw [evaluate_leaves hg hf hh hv hc] at hx
  rw [waiting_countedAt] at hj
  have helig := eligible_congr (s := u) (show _ = u.monitors from ho.2 .monitors (by simp)) (show _ = u.clock from ho.2 .clock (by simp)) g
  generalize leave r h.counted cause (u.countedAt r) = a at hw ho hx helig
  have hnone : (a.claims r).holder = none := by rw [hw.self]
  obtain ⟨d, hd, hxd⟩ := (kept_enginesAct _ r g).holder x hx
  rw [replaceStage_unheld hnone] at hd
  refine not_same_trans hxd ?_
  have hcand (c : Claim) (hcand : candidate a r g = some c) : c.same h = false := by
    have hmem : c ∈ h.back :: (u.claims r).waiting := hj.subperm.subset (by simpa [hw.self] using candidate_mem hcand)
    rcases List.mem_cons.mp hmem with rfl | hwait
    · have := List.find?_some hcand
      rw [helig, hin] at this
      cases this
    · exact hfresh c hwait
  cases hcd : candidate a r g with
  | none => simp [hcd, hnone] at hd
  | some c =>
    simp only [hcd] at hd
    split at hd
    · have hga : a.region r = some g := (region_of_canvas ho.canvas r).trans hg
      simp only [(promote_does c hga).1.self, Option.some.injEq] at hd
      subst hd
      exact hcand c hcd
    · simp [hnone] at hd

/-- Nobody holds the region whose holder has left. -/
theorem Left.unheld {w : List Claim} {l : List Notice} {a : State} (hl : Left r h w l s a) : (a.claims r).holder = none := by rw [hl.claims.self]

theorem Left.waiting {w : List Claim} {l : List Notice} {a : State} (hl : Left r h w l s a) : (a.claims r).waiting = w := by rw [hl.claims.self]

theorem Left.eligible {w : List Claim} {l : List Notice} {a : State} (hl : Left r h w l s a) (c : Claim) : eligible a g c = eligible s g c :=
  eligible_congr (hl.only.2 .monitors (by simp)) (hl.only.2 .clock (by simp)) g c

theorem Left.region {w : List Claim} {l : List Notice} {a : State} (hl : Left r h w l s a) : a.region r = s.region r :=
  region_of_canvas hl.only.canvas r

/-- A region without a holder and without a candidate stays so: the engines, where it carries no messages, leave it. -/
theorem enginesAct_idle {a : State} {left : Option Claim} (hleft : ∀ c, left = some c → ∃ p, c.claimant = .port p) (hg : a.region r = some g)
    (hm : g.message = false) (hn : (a.claims r).holder = none) (hcand : candidate a r g = none) (passed : Bool)
    (hw : ∀ w ∈ (a.claims r).waiting, w.claimant ≠ .engine .message) :
    (enginesAct r g (replaceStage r g passed left a)).port v = a.port v
      ∧ ((enginesAct r g (replaceStage r g passed left a)).claims r).holder = none
      ∧ ((enginesAct r g (replaceStage r g passed left a)).claims r).waiting = (a.claims r).waiting := by
  rw [replaceStage_unheld hn, hcand]
  obtain ⟨hports, hkeeps⟩ := enginesAct_unmessaged (e := (a, ⟨left, none⟩)) hleft hg hm g
  obtain ⟨hholder, hwait⟩ := hkeeps (portHeld_of_none hn) hw
  exact ⟨port_of_ports hports v, hholder.trans hn, hwait⟩

/-- Where the region carries no messages, what a port hears after its holder has left is that its candidate became holder, or nothing. -/
theorem port_replaced {a : State} {left : Option Claim} (hleft : ∀ c, left = some c → ∃ p, c.claimant = .port p) (hg : a.region r = some g)
    (hm : g.message = false) (hn : (a.claims r).holder = none) (hcand : ∀ c, candidate a r g = some c → c.claimant ≠ .port v) (passed : Bool) :
    (enginesAct r g (replaceStage r g passed left a)).port v = a.port v := by
  rw [replaceStage_unheld hn]
  cases hc : candidate a r g with
  | none => exact port_of_ports (enginesAct_unmessaged (e := (a, ⟨left, none⟩)) hleft hg hm g).1 v
  | some c =>
    cases passed with
    | false => exact port_of_ports (enginesAct_unmessaged (e := (a, ⟨left, none⟩)) hleft hg hm g).1 v
    | true =>
      have hreg : (promote r c a).region r = some { g with lastChange := some a.comp.frame } := by
        rw [region_of_canvas (promote_does c hg).2, region_setRegion_self]
      have hports := (enginesAct_unmessaged (e := (promote r c a, ⟨left, some c⟩)) hleft hreg hm g).1
      refine (port_of_ports hports v).trans ?_
      exact (within_promote (rs := [r]) (V := only v) List.mem_cons_self (claim_apart_only.mpr (hcand c hc))).port v rfl

end Back

/-! ### The causes (R32) -/

section Causes
variable {V : PortId → Prop} {r : RegionId} {g : Region} {h : Claim} {v : PortId} {i : InputId} {s u : State}

theorem leaveCause_released (hm : h.mark = some .dropRelease) : leaveCause u g h.counted = some .released := by
  simp [leaveCause, Claim.counted, hm]

theorem leaveCause_duration (hm : h.mark ≠ some .dropRelease) (hr : h.remaining = some 1) : leaveCause u g h.counted = some .duration := by
  simp [leaveCause, Claim.counted, hm, hr]

/-- A duration that does not end at this evaluation. -/
theorem counted_remaining (h0 : h.remaining ≠ some 0) (h1 : h.remaining ≠ some 1) : h.counted.remaining ≠ some 0 := by
  intro hc
  obtain ⟨n, hn, hn0⟩ := Option.map_eq_some_iff.mp hc
  have : n ≠ 0 := fun h => h0 (h ▸ hn)
  have : n ≠ 1 := fun h => h1 (h ▸ hn)
  omega

theorem leaveCause_clockStart (hm : h.mark = some .dropClockStart) (h0 : h.remaining ≠ some 0) (h1 : h.remaining ≠ some 1) :
    leaveCause u g h.counted = some .clockStart := by
  have := counted_remaining h0 h1
  unfold leaveCause
  rw [if_neg (by simp [Claim.counted, hm]), if_neg this, if_pos (show h.counted.mark = _ from hm)]

theorem leaveCause_keep (hm : h.mark = some .keep) (h0 : h.remaining ≠ some 0) (h1 : h.remaining ≠ some 1) :
    leaveCause u g h.counted = some .keep := by
  have := counted_remaining h0 h1
  unfold leaveCause
  rw [if_neg (by simp [Claim.counted, hm]), if_neg this, if_neg (by simp [Claim.counted, hm]), if_pos (show h.counted.mark = _ from hm)]

/-- At the tick at which the hold count of a lost input reaches the hold limit, its holder is in Fallback (R56). -/
theorem Facing.fallback (hu : Facing V r s u) (hp : g.policy = .hold) (hi : h.content = .picture i) (hm : h.mark = none)
    (h0 : h.remaining ≠ some 0) (h1 : h.remaining ≠ some 1) (hlost : (s.monitor (monLost i)).condition = true)
    (hlimit : g.holdLimit ≤ framesSince (s.comp.frame + 1) (s.input i).lostAt) :
    leaveCause u g h.counted = some .fallback ∧ eligible u g h.back = false := by
  obtain ⟨hmon, hin⟩ := hu.lost i (.inl hlost)
  have htreated : u.treatedLost i = true := by simp [State.treatedLost, hmon, Monitor.reported, hlost]
  have hregion : inFallback u g i = true := by
    unfold inFallback
    rw [htreated, hp, hu.frame, hin]
    exact decide_eq_true hlimit
  have hfall : holderInFallback u g h.counted = true := by
    unfold holderInFallback
    rw [show h.counted.content = .picture i from hi]
    exact hregion
  have := counted_remaining h0 h1
  constructor
  · unfold leaveCause
    rw [if_neg (by simp [Claim.counted, hm]), if_neg this, if_neg (by simp [Claim.counted, hm]), if_neg (by simp [Claim.counted, hm]),
      if_pos hfall]
  · simp [eligible, Claim.back, Claim.counted, hi, htreated]

end Causes

/-! ### The three events (O33) -/

section Events
variable {r : RegionId} {g : Region} {h : Claim} {v : PortId} {i : InputId} {s : State}

theorem exec_claimDurationEnd (h : durationEnds s r = true) : exec (.claimDurationEnd r) s = .next (pump (timerTick s)) := by
  show Host.Outcome.next (pump (tickIf (durationEnds s r) s)) = _
  rw [tickIf, if_pos h]

theorem exec_holdLimitFallback (h : holdRunsOut s r = true) : exec (.holdLimitFallback r) s = .next (pump (timerTick s)) := by
  show Host.Outcome.next (pump (tickIf (holdRunsOut s r) s)) = _
  rw [tickIf, if_pos h]

/-- A port's holder whose duration is used up (R31). -/
theorem duration_end (hg : s.region r = some g) (hview : g.view = .none) (hh : (s.claims r).holder = some h) (hv : h.claimant = .port v)
    (hr : h.remaining = some 1) (hm : h.mark ≠ some .dropRelease) (hfresh : ∀ w ∈ (s.claims r).waiting, w.same h = false) :
    ∃ t, exec (.claimDurationEnd r) s = .next t ∧ t.comp.frame = s.comp.frame + 1
      ∧ (∀ x, (t.claims r).holder = some x → x.same h = false) ∧ (∀ w ∈ (t.claims r).waiting, w.same h = false)
      ∧ (HearsOnlyOf r v s → (s.claims r).awaitedBy (.port v) = false →
          Hears v [claimNoticeOf .ended r h.tag (s.comp.frame + 1) [.named 0]] s t) := by
  have hdue : durationEnds s r = true := by simp [durationEnds, hh, hm, hr]
  obtain ⟨hframe, hlacks, hhears⟩ := tick_drops (cause := .duration) hg hview hh hv nofun nofun (fun _ _ _ => leaveCause_duration hm hr)
  refine ⟨pump (timerTick s), exec_claimDurationEnd hdue, hframe, fun x hx => hlacks hfresh x (mem_live.mpr (.inl hx)),
    fun w hw => hlacks hfresh w (mem_live.mpr (.inr hw)), hhears⟩

/-- A port's holder of a lost input whose region has held it as long as it may (R56). -/
theorem hold_end (hg : s.region r = some g) (hview : g.view = .none) (hp : g.policy = .hold) (hh : (s.claims r).holder = some h)
    (hv : h.claimant = .port v) (hi : h.content = .picture i) (hm : h.mark = none) (h1 : h.remaining ≠ some 1) (h0 : h.remaining ≠ some 0)
    (hlost : (s.monitor (monLost i)).condition = true) (hlimit : g.holdLimit ≤ framesSince (s.comp.frame + 1) (s.input i).lostAt)
    (hfresh : ∀ w ∈ (s.claims r).waiting, w.same h = false) :
    ∃ t, exec (.holdLimitFallback r) s = .next t ∧ t.comp.frame = s.comp.frame + 1
      ∧ (∀ x, (t.claims r).holder = some x → x.same h = false)
      ∧ (h.resume = false → ∀ w ∈ (t.claims r).waiting, w.same h = false)
      ∧ (h.resume = false → HearsOnlyOf r v s → (s.claims r).awaitedBy (.port v) = false →
          Hears v [claimNoticeOf .ended r h.tag (s.comp.frame + 1) [.named 1]] s t)
      ∧ (∀ front back, h.resume = true → (s.claims r).waiting = front ++ back → (s.claims r).waiting.length < 4 →
          (∀ w ∈ front, h.rank ≤ w.rank) → (∀ w ∈ back, w.rank < h.rank) → g.sponsor = false → g.message = false →
          s.offering .rotation r = false → s.offering .message r = false → HearsOnlyOf r v s → (s.claims r).awaitedBy (.port v) = false →
          Hears v [claimNoticeOf .displaced r h.tag (s.comp.frame + 1)
            ([.named 2] ++ optNat (h.remaining.map (fun n => n - 1)) ++ [nat (front.length + 1)])] s t) := by
  have hf := fixed_of_view hview
  have htreated : s.treatedLost i = true := by simp [State.treatedLost, Monitor.reported, hlost]
  have hdue : holdRunsOut s r = true := by
    unfold holdRunsOut
    simp only [hg, hh, hi, hp, htreated]
    exact decide_eq_true hlimit
  have hexec := exec_holdLimitFallback hdue
  have hcause (V : PortId → Prop) (u : State) (hu : Facing V r s u) := hu.fallback hp hi hm h0 h1 hlost hlimit
  have hclaims := claims_of_arbiter (pump_arbiter (timerTick s)) r
  refine ⟨_, hexec, ?_, fun x hx => ?_, fun hres => ?_, fun hres => ?_, fun front back hres hwait hroom hfront hback hsp hmes hr hmo hears hno => ?_⟩
  · obtain ⟨u, -, he⟩ := timerTick_at (elsewhere_nobody r s)
    rw [pump_comp]
    exact he.frame
  · obtain ⟨u, hu, he⟩ := timerTick_at (elsewhere_nobody r s)
    obtain ⟨hc, hin⟩ := hcause _ u hu
    rw [hclaims] at hx
    obtain ⟨d, hd, hxd⟩ := he.kept.holder x hx
    exact not_same_trans hxd
      (holder_of_ineligible (hu.region.trans hg) hf (by rw [hu.claims]; exact hh) hv hc hin (by rw [hu.claims]; exact hfresh) hd)
  · obtain ⟨-, hlacks, -⟩ := tick_drops (cause := .fallback) hg hview hh hv nofun (fun _ => hres) (fun V u hu => (hcause V u hu).1)
    exact fun w hw => hlacks hfresh w (mem_live.mpr (.inr hw))
  · exact (tick_drops (cause := .fallback) hg hview hh hv nofun (fun _ => hres) (fun V u hu => (hcause V u hu).1)).2.2
  · refine hears_pump ?_
    obtain ⟨u, hu, he⟩ := timerTick_at hears.elsewhere
    obtain ⟨hc, hin⟩ := hcause _ u hu
    obtain ⟨a, hleft, heq⟩ := evaluate_back (hu.region.trans hg) hf (by rw [hu.claims]; exact hh) hv (.inr ⟨rfl, hres⟩) hc (by rwa [hu.claims])
    have hins : insertClaim h.back (u.claims r).waiting = front ++ h.back :: back := by
      rw [hu.claims, hwait]
      exact insertClaim_between (c := h.back) hfront hback
    have hpos : positionOf h.back (front ++ h.back :: back) = front.length + 1 :=
      positionOf_fresh fun w hw => hfresh w (by simp [hwait, hw])
    rw [hins, hpos] at hleft
    have hcand (c : Claim) (hc : candidate a r g = some c) : c.claimant ≠ .port v := by
      have hmem := candidate_mem hc
      rw [hleft.waiting] at hmem
      have helig := List.find?_some hc
      have hne : c ≠ h.back := by
        rintro rfl
        rw [hleft.eligible, show eligible (u.countedAt r) g h.back = false from hin] at helig
        cases helig
      have hin : c ∈ (s.claims r).waiting := by
        simp only [List.mem_append, List.mem_cons, hne, false_or] at hmem
        simpa [hwait] using hmem
      exact claim_apart_only.mp (waiting_apart_only.mpr hno c hin)
    have hport := port_replaced (left := some h.counted) (fun c hc => ⟨v, by rw [← Option.some.inj hc]; exact hv⟩)
      (hleft.region.trans (hu.region.trans hg)) hmes hleft.unheld hcand (dwellPassed g u.frame)
    have hnone (d : Engine) : s.offering d r = false := by cases d <;> assumption
    rw [he.port (.inl hnone) v rfl, heq, hport, hleft.port v hv (show (u.port v).requests = [] by rw [hu.port v rfl]; exact hears.2.1)]
    show noteTo _ (u.port v) = _
    rw [hu.port v rfl, ← hu.frame]
    rfl

/-- A tick of the frame timer at which a port's holder is dropped, its port having no claim that waits. -/
theorem timer_drops {t0 : Nat} {cause : LeaveCause} (ht : s.comp.timerStart + (if s.ratesel then 166667 else 200000) ≤ t0)
    (hg : s.region r = some g) (hview : g.view = .none) (hh : (s.claims r).holder = some h) (hv : h.claimant = .port v)
    (hears : HearsOnlyOf r v s) (hno : (s.claims r).awaitedBy (.port v) = false) (hk : cause ≠ .keep) (hr : cause ≠ .fallback)
    (hc : ∀ V u, Facing V r s u → leaveCause u g h.counted = some cause) :
    ∃ t, exec (.frameTimerExpiry t0) s = .next t ∧ (∀ x, (t.claims r).holder = some x → x.same h = false)
      ∧ (∀ w ∈ (t.claims r).waiting, w.same h = false) ∧ Hears v (cause.notices r h.tag (s.comp.frame + 1)) s t := by
  obtain ⟨-, hlacks, hhears⟩ := tick_drops hg hview hh hv hk (fun hf => absurd hf hr) hc
  have hfresh : ∀ w ∈ (s.claims r).waiting, w.same h = false := fun w hw => by
    have := claim_apart_only.mp (waiting_apart_only.mpr hno w hw)
    rw [Bool.eq_false_iff, Ne, claim_same_iff, hv]
    exact fun hs => this hs.1
  exact ⟨_, exec_frameTimerExpiry ht, fun x hx => hlacks hfresh x (mem_live.mpr (.inl hx)),
    fun w hw => hlacks hfresh w (mem_live.mpr (.inr hw)), hhears hears hno⟩

/-- A claim of other than a picture input is eligible where it is no stoppage's turn to wait (R24). -/
theorem eligible_of_content {c : Claim} (h : ∀ i, c.content ≠ .picture i) (t : State) (g : Region) :
    eligible t g c = !(g.stoppage && t.running) := by
  unfold eligible
  cases hc : c.content
  case picture i => exact absurd hc (h i)
  all_goals simp

/-- A holder marked Keep on a region where nothing waits: it is back on the list, alone, when its port is told. -/
theorem timer_keeps {t0 : Nat} (ht : s.comp.timerStart + (if s.ratesel then 166667 else 200000) ≤ t0) (hg : s.region r = some g)
    (hview : g.view = .none) (hh : (s.claims r).holder = some h) (hv : h.claimant = .port v) (h0 : h.remaining ≠ some 0)
    (h1 : h.remaining ≠ some 1) (hcontent : ∀ i, h.content ≠ .picture i) (hears : HearsOnlyOf r v s) (hm : h.mark = some .keep)
    (hwait : (s.claims r).waiting = []) (hstop : g.stoppage = true) (hmes : g.message = false) (hnone : ∀ d, s.offering d r = false) :
    let back := claimNoticeOf .displaced r h.tag (s.comp.frame + 1)
      ([.named 1] ++ optNat (h.remaining.map (fun n => n - 1)) ++ [nat 1])
    (s.clock.state = .running →
      ∃ t, exec (.frameTimerExpiry t0) s = .next t ∧ (t.claims r).holder = none ∧ (t.claims r).waiting = [h.back] ∧ Hears v [back] s t)
    ∧ (s.clock.state ≠ .running → (∀ f, g.lastChange = some f → g.dwell ≤ (s.comp.frame + 1 - f).toNat) →
      ∃ t, exec (.frameTimerExpiry t0) s = .next t ∧ (t.claims r).holder = some h.back ∧ (t.claims r).waiting = []
        ∧ Hears v [back, claimNoticeOf .holding r h.tag (s.comp.frame + 1) (nat h.rank :: optNat (h.remaining.map (fun n => n - 1)))] s t) := by
  intro back
  have hf := fixed_of_view hview
  obtain ⟨u, hu, he⟩ := timerTick_at hears.elsewhere
  have hclaims := claims_of_arbiter (pump_arbiter (timerTick s)) r
  obtain ⟨a, hleft, heq⟩ := evaluate_back (hu.region.trans hg) hf (by rw [hu.claims]; exact hh) hv (.inl rfl) (leaveCause_keep hm h0 h1)
    (by rw [hu.claims, hwait]; decide)
  have hins : insertClaim h.back (u.claims r).waiting = [h.back] := by rw [hu.claims, hwait]; rfl
  have hpos : positionOf h.back [h.back] = 1 := positionOf_fresh (front := []) nofun
  rw [hins, hpos] at hleft
  have hga : a.region r = some g := hleft.region.trans (hu.region.trans hg)
  have hport : a.port v = noteTo back (s.port v) := by
    rw [hleft.port v hv (show (u.port v).requests = [] by rw [hu.port v rfl]; exact hears.2.1)]
    show noteTo _ (u.port v) = _
    rw [hu.port v rfl, hu.frame]
    rfl
  have hwaiting := hleft.waiting
  have hapart : ∀ w ∈ (a.claims r).waiting, w.claimant ≠ .engine .message := by
    intro w hw
    rw [hwaiting, List.mem_singleton] at hw
    rw [hw]
    simp [Claim.back, Claim.counted, hv]
  have hofLeft : ∀ c, some h.counted = some c → ∃ p, c.claimant = .port p := fun c hc => ⟨v, by rw [← Option.some.inj hc]; exact hv⟩
  have hclock : a.clock = s.clock := (hleft.only.2 .clock (by simp)).trans hu.clock
  have hcand : candidate a r g = if s.clock.state = .running then none else some h.back := by
    have hel : eligible a g h.back = !decide (s.clock.state = .running) := by
      rw [eligible_of_content (c := h.back) hcontent, hstop, State.running, hclock, Bool.true_and]
    unfold candidate
    rw [hwaiting, List.find?_cons, hel]
    split <;> simp_all
  constructor
  · intro hrun
    rw [if_pos hrun] at hcand
    obtain ⟨hp, hh', hw'⟩ := enginesAct_idle (v := v) hofLeft hga hmes hleft.unheld hcand (dwellPassed g u.frame) hapart
    rw [← heq] at hp hh' hw'
    refine ⟨_, exec_frameTimerExpiry ht, ?_, ?_, hears_pump ?_⟩
    · rw [hclaims, he.claims hnone, hh']
    · rw [hclaims, he.claims hnone, hw', hwaiting]
    · rw [he.port (.inl hnone) v rfl, hp, hport]
      rfl
  · intro hrun hdwell
    rw [if_neg hrun] at hcand
    have hpassed : dwellPassed g u.frame = true := (dwellPassed_iff g u.frame).mpr (by rw [hu.frame]; exact hdwell)
    have hreplace : replaceStage r g (dwellPassed g u.frame) (some h.counted) a = (promote r h.back a, ⟨some h.counted, some h.back⟩) := by
      rw [replaceStage_unheld hleft.unheld, hcand, hpassed]
      rfl
    obtain ⟨hpro, hcanvas⟩ := promote_does h.back hga
    have hreg : (promote r h.back a).region r = some { g with lastChange := some a.comp.frame } := by
      rw [region_of_canvas hcanvas, region_setRegion_self]
    have hprowait : ((promote r h.back a).claims r).waiting = [] := by
      rw [hpro.self, hwaiting]
      simp [removeClaim, claim_same_refl]
    have hproheld : ((promote r h.back a).claims r).holder = some h.back := by rw [hpro.self]
    obtain ⟨hports, hkeeps⟩ := enginesAct_unmessaged (e := (promote r h.back a, ⟨some h.counted, some h.back⟩)) hofLeft hreg hmes g
    obtain ⟨hh', hw'⟩ := hkeeps (portHeld_of_holder hproheld hv) (by rw [hprowait]; exact nofun)
    have hframe : a.frame = s.comp.frame + 1 := (congrArg Compositor.frame hleft.only.comp).trans hu.frame
    rw [hreplace] at heq
    rw [← heq] at hports hh' hw'
    refine ⟨_, exec_frameTimerExpiry ht, ?_, ?_, hears_pump ?_⟩
    · rw [hclaims, he.claims hnone, hh', hproheld]
    · rw [hclaims, he.claims hnone, hw', hprowait]
    · rw [he.port (.inl hnone) v rfl, port_of_ports hports, port_promote (h := h.back) hv, hport, hframe]
      rfl

end Events

/-- Settles O33: a holder leaves for the cause that the tick finds, and its port, which has no other claim, hears what becomes of it. -/
theorem holdersLeaveWhenTheirTimeIsUp : Obligations.HoldersLeaveWhenTheirTimeIsUp := by
  refine ⟨fun r g h v s hg hview hh hv hr hm hfresh => duration_end hg hview hh hv hr hm hfresh,
    fun r g h v i s hg hview hp hh hv hi hm h1 h0 hlost hlimit hfresh => hold_end hg hview hp hh hv hi hm h1 h0 hlost hlimit hfresh,
    fun t0 r g h v s ht hg hview hh hv h0 h1 hcontent hears hno => ⟨fun hm => ?_, fun hm => ?_, fun hm hwait hstop _ hmes hr hmo => ?_⟩⟩
  · exact timer_drops (cause := .clockStart) ht hg hview hh hv hears hno nofun nofun fun _ _ _ => leaveCause_clockStart hm h0 h1
  · exact timer_drops (cause := .released) ht hg hview hh hv hears hno nofun nofun fun _ _ _ => leaveCause_released hm
  · exact timer_keeps ht hg hview hh hv h0 h1 hcontent hears hm hwait hstop hmes fun d => by cases d <;> assumption

end Sys2Proof.Machine
end

section
/-! PROOF. The engines settle where a rotation is replaced or the show order changes, and offer again at a tick (O23). -/

namespace Sys2Proof.Machine

-- The proofs are checked one after another: side by side they ask for more threads than the memory limit leaves.
set_option Elab.async false

section Again
variable {r : RegionId} {g : Region} {s t u : State}

/-- A region for which nothing waits and which carries no messages is evaluated to no effect, also on the Rotation Engine's offer. -/
theorem evaluate_unclaimed (hg : u.region r = some g) (hf : g.fixed = false) (hm : g.message = false) (hh : (u.claims r).holder = none)
    (hw : (u.claims r).waiting = []) :
    ((evaluate r u).claims r).holder = none ∧ ((evaluate r u).claims r).waiting = []
      ∧ (evaluate r u).offering .rotation r = u.offering .rotation r := by
  have hcounted : ((u.countedAt r).claims r).holder = none ∧ ((u.countedAt r).claims r).waiting = [] := by
    rw [(claims_countedAt r u).self, countStage_eq, hh]
    exact ⟨rfl, hw⟩
  have hcand : candidate (u.countedAt r) r g = none := by
    unfold candidate
    rw [hcounted.2]
    rfl
  have hheld (e : Engine) : ((u.countedAt r).claims r).heldBy (.engine e) = false := by simp [RegionClaims.heldBy, hcounted.1]
  have hint : (u.countedAt r).interest .message r = false := by
    have hga : (u.countedAt r).region r = some g := hg
    simp [State.interest, messageInterest, hga, hm]
  have hof : Verdict.ofPort ⟨none, none⟩ := fun c hc => absurd hc nofun
  have heq : evaluate r u = noteWaiting r (releaseEngine .message r (u.countedAt r)) := by
    rw [evaluate_stays hg hf (portHeld_of_none hh) (fun h hc => absurd (hh.symm.trans hc) nofun), replaceStage_unheld hcounted.1, hcand]
    unfold enginesAct
    rw [rotationAct_ofPort hof, hheld, Bool.false_and, if_neg Bool.false_ne_true, messageAct_ofPort hof, hheld, Bool.false_and,
      if_neg Bool.false_ne_true, settle, hint, if_neg Bool.false_ne_true]
  rw [heq]
  refine ⟨?_, ?_, rfl⟩
  · rw [noteWaiting, claims_setClaims_self, (claims_releaseEngine ..).self, hheld]
    exact hcounted.1
  · rw [noteWaiting, claims_setClaims_self, (claims_releaseEngine ..).self, hcounted.2]
    rfl

theorem dueOffers_nodup (s : State) : s.dueOffers.Nodup := by
  have hinj (e : Engine) : Function.Injective (fun r : RegionId => (e, r)) := fun a b h => (Prod.mk.inj h).2
  refine List.nodup_append.mpr ⟨(allRegions_nodup.filter _).map (hinj _), (allRegions_nodup.filter _).map (hinj _), fun a ha b hb hab => ?_⟩
  obtain ⟨x, -, rfl⟩ := List.mem_map.mp ha
  obtain ⟨y, -, rfl⟩ := List.mem_map.mp hb
  cases hab

/-- The one repeated offer of a region that nothing claims makes the engine's standing claim wait there (R35). -/
theorem reoffer_unclaimed {due : List (Engine × RegionId)} (hdue : due.Nodup) (hmem : (.rotation, r) ∈ due)
    (hone : ∀ d ∈ due, d.2 = r → d = (.rotation, r)) (hoff : s.offering .rotation r = true) (hint : s.interest .rotation r = true) (hh :
      (s.claims r).holder = none)
    (hw : (s.claims r).waiting = []) :
    ((reoffer due s).claims r).holder = none ∧ ((reoffer due s).claims r).waiting = [standingClaim .rotation (s.engineRank .rotation) r]
      ∧ (reoffer due s).offering .rotation r = false := by
  obtain ⟨l, m, rfl⟩ := List.append_of_mem hmem
  obtain ⟨hl, hm, hdisj⟩ := List.nodup_append.mp hdue
  obtain ⟨hnot, -⟩ := List.nodup_cons.mp hm
  let others := allRegions.filter (fun n => n ≠ r)
  have hr : r ∉ others := by simp [others]
  have hothers (k : List (Engine × RegionId)) (hk : ∀ d ∈ k, d.2 ≠ r) (t : State) : Within nobody others t (reoffer k t) :=
    within_reoffer k (fun d hd => by simpa [others, mem_allRegions] using hk d hd) fun _ _ _ _ _ hv => hv.elim
  have hbefore := hothers l (fun d hd hdr => by
    rw [hone d (by simp [hd]) hdr] at hd
    exact hdisj _ hd _ List.mem_cons_self rfl) s
  have hafter := hothers m fun d hd hdr => by
    rw [hone d (by simp [hd]) hdr] at hd
    exact hnot hd
  have hsplit : reoffer (l ++ (.rotation, r) :: m) s = reoffer m (settle .rotation r (reoffer l s)) := by
    have hoff' : (reoffer l s).offering .rotation r = true := by rw [hbefore.offering .rotation r hr, hoff]
    unfold reoffer at hoff' ⊢
    rw [List.foldl_append, List.foldl_cons, if_pos hoff']
  have hclaims := hbefore.claims r hr
  have hint' : (reoffer l s).interest .rotation r = true := by
    rw [interest_rotation_iff] at hint ⊢
    rwa [hbefore.region r hr, hbefore.spots]
  have hsettles := (settling_settle .rotation r (reoffer l s)).done r List.mem_cons_self
  rw [hclaims, hbefore.rank] at hsettles
  obtain ⟨-, hoffers, -⟩ := hsettles
  obtain ⟨hjoin, -⟩ := hoffers hint' (by simp [RegionClaims.heldBy, hh]) (by simp [RegionClaims.awaitedBy, hw])
  obtain ⟨hroom, -⟩ := hjoin [] [] nofun nofun
  obtain ⟨hx, hagain⟩ := hroom (by simp [hw]) hw
  rw [hsplit, (hafter _).claims r hr, (hafter _).offering .rotation r hr, hx]
  exact ⟨hh, rfl, hagain⟩

/-- A tick of the frame timer makes the Rotation Engine's claim wait where it is offered again and nothing else claims. -/
theorem timer_reoffers {t0 : Nat} (ht : s.comp.timerStart + (if s.ratesel then 166667 else 200000) ≤ t0) (hg : s.region r = some g)
    (hview : g.view = .none) (hsp : g.sponsor = true) (hm : g.message = false) (hspot : ∃ x ∈ s.rotation.spots, r.val ∈ x.regions)
    (hh : (s.claims r).holder = none) (hw : (s.claims r).waiting = []) (hr : s.offering .rotation r = true) (hmo : s.offering .message r = false) :
    ∃ t, exec (.frameTimerExpiry t0) s = .next t ∧ (t.claims r).holder = none
      ∧ (t.claims r).waiting = [standingClaim .rotation s.arbiter.rotationRank r] ∧ t.offering .rotation r = false := by
  obtain ⟨u, post, hu, hpost, hlater, -⟩ := evaluations_at (s.comp.timerStart + s.period) (elsewhere_nobody r s)
  obtain ⟨hheld, hwait, hoffer⟩ := evaluate_unclaimed (hu.region.trans hg) (fixed_of_view hview) hm (by rw [hu.claims]; exact hh)
    (by rw [hu.claims]; exact hw)
  have hone : Within nobody [r] u (evaluate r u) := within_evaluate List.mem_cons_self (apart_nobody _) (passApart_nobody r _)
  have hrecords := (evaluated_evaluateAll (s.begun (s.comp.timerStart + s.period))).records
  have hbegun : (s.begun (s.comp.timerStart + s.period)).region r = some g :=
    (region_of_canvas (begun_begun _ s).only.canvas r).trans hg
  obtain ⟨x, hx, hgx⟩ := hrecords.symm.some hbegun
  have hdue : ∀ d ∈ (forceCloseAll s).dueOffers, d.2 = r → d = (.rotation, r) := by
    rintro ⟨e, n⟩ hd rfl
    have := mem_dueOffers_forceCloseAll.mp hd
    cases e
    · rfl
    · simp [hmo] at this
  refine ⟨_, exec_frameTimerExpiry ht, ?_⟩
  unfold timerTick
  rw [frameTick_eq]
  generalize evaluateAll (s.begun (s.comp.timerStart + s.period)) = a at hlater hx
  have hclaims := hlater.claims r hpost
  have hrank : a.engineRank .rotation = s.arbiter.rotationRank := ((hlater.rank .rotation).trans (hone.rank .rotation)).trans (hu.rank .rotation)
  have hoff : a.offering .rotation r = true := ((hlater.offering .rotation r hpost).trans hoffer).trans ((hu.offering .rotation).trans hr)
  have hint : a.interest .rotation r = true := by
    refine (interest_rotation_iff a r).mpr ⟨x, hx, ?_, ?_⟩
    · rw [hgx] at hsp
      exact hsp
    · rwa [hlater.spots, hone.spots, hu.spots]
  obtain ⟨hheld', hwait', hoff'⟩ := reoffer_unclaimed (dueOffers_nodup _) (mem_dueOffers_forceCloseAll.mpr hr) hdue hoff hint (by rw [hclaims, hheld])
    (by rw [hclaims, hwait])
  rw [hrank] at hwait'
  generalize reoffer (forceCloseAll s).dueOffers a = b at hheld' hwait' hoff' ⊢
  have ho : Only [.comp, .monitors, .score] b (pump (compose b)) := only_pump only_compose
  have hbclaims := claims_of_arbiter ho.arbiter r
  rw [hbclaims]
  refine ⟨hheld', hwait', ?_⟩
  rw [← hoff']
  exact offering_congr (ho.2 .rotation (by simp)) (ho.2 .messages (by simp)) _ _

end Again

/-- Settles O23: a block that replaces the rotation or changes the show order ends by settling every region, and a tick's repeated offer is the
settling of its one region. -/
theorem enginesOfferAndReleaseTheirClaims : Obligations.EnginesOfferAndReleaseTheirClaims := by
  refine ⟨fun i p q s hi => ?_, fun i p q tag s hi => ?_, fun t0 r g s ht hg hview hsp hm hspot hh hw hr hmo =>
    timer_reoffers ht hg hview hsp hm hspot hh hw hr hmo⟩
  · obtain ⟨t, hx, ht⟩ := rotation_requests_settle i p q s hi
    refine ⟨t, hx, fun hP => ?_⟩
    obtain ⟨hset, hregion⟩ := ht hP
    exact hset.rotation hregion
  · obtain ⟨t, hx, ht⟩ := message_requests_settle i p q tag s hi
    refine ⟨t, hx, fun hP => ?_⟩
    obtain ⟨hset, hregion⟩ := ht hP
    exact hset.message hregion

end Sys2Proof.Machine
end

section
/-! SUPPORT. A candidate at the head of the wait list takes its region (R24, R33, R34). -/

namespace Sys2Proof.Machine

-- The proofs are checked one after another: side by side they ask for more threads than the memory limit leaves.
set_option Elab.async false

section Head
variable {V : PortId → Prop} {r : RegionId} {g : Region} {h w k : Claim} {v p : PortId} {rest : List Claim} {s t u : State}

/-! ### The head of a wait list stays at the head (R23, R25) -/

theorem insertClaim_behind (hk : k.rank ≤ w.rank) (l : List Claim) : insertClaim k (w :: l) = w :: insertClaim k l := if_pos hk

/-- A claim that joins behind the head of a list leaves the head. -/
theorem joinWait_head (hw : (s.claims r).waiting = w :: rest) (hk : k.rank ≤ w.rank) :
    ∃ l, ((joinWait r k s).1.claims r).waiting = w :: l ∧ ∀ x ∈ l, x ∈ rest ∨ x = k := by
  have hins (l : List Claim) (hl : ∀ x ∈ l, x ∈ rest) (x : Claim) (hx : x ∈ insertClaim k l) : x ∈ rest ∨ x = k := by
    rcases List.mem_cons.mp ((insertClaim_perm k l).subset hx) with h | h
    · exact .inr h
    · exact .inl (hl x h)
  unfold joinWait
  simp only [hw]
  split
  · refine ⟨insertClaim k rest, ?_, hins rest fun _ => id⟩
    rw [claims_setClaims_self, insertClaim_behind hk]
  · next hfull =>
    have hne : rest ≠ [] := by rintro rfl; exact hfull (Nat.lt_of_lt_of_le (Nat.lt_succ_self 1) (by decide))
    split
    · exact ⟨rest, hw, fun x hx => .inl hx⟩
    · split
      · refine ⟨insertClaim k rest.dropLast, ?_, hins _ fun x hx => List.mem_of_mem_dropLast hx⟩
        rw [claims_of_arbiter (arbiter_evict ..), claims_setClaims_self, List.dropLast_cons_of_ne_nil hne, insertClaim_behind hk]
      · exact ⟨rest, hw, fun x hx => .inl hx⟩

theorem joinWait_refused {last : Claim} (hlen : 4 ≤ (s.claims r).waiting.length) (hlast : (s.claims r).waiting.getLast? = some last)
    (hlow : k.rank ≤ last.rank) : joinWait r k s = (s, false) := by
  unfold joinWait
  simp only [if_neg (Nat.not_lt.mpr hlen), hlast]
  exact if_neg (Nat.not_lt.mpr hlow)

theorem goBack_claims (r : RegionId) (h : Claim) (reason : Atom) (k : NoticeKind) (fields : List Atom) (s : State) :
    (goBack r h reason k fields s).claims r = (joinWait r { h with mark := none } s).1.claims r := by
  unfold goBack
  simp only
  split
  · next u heq => rw [heq, claims_of_arbiter (claimNotice_arbiter ..)]
  · next u heq => rw [heq, claims_of_arbiter ((dropped_arbiter ..).trans (claimNotice_arbiter ..))]

/-- A holder that leaves waits again behind the head of the list, or not at all. -/
theorem leave_head (hw : (s.claims r).waiting = w :: rest) (hh : h.rank ≤ w.rank) (cause : LeaveCause) :
    ((leave r h cause s).claims r).holder = none ∧ ∃ l, ((leave r h cause s).claims r).waiting = w :: l
      ∧ ∀ x ∈ l, x ∈ rest ∨ x.same h = true ∧ (cause = .keep ∨ h.resume = true) := by
  have hself : (s.setClaims r { s.claims r with holder := none }).claims r = { s.claims r with holder := none } := claims_setClaims_self ..
  have gone (a : State) (ha : a.arbiter = (s.setClaims r { s.claims r with holder := none }).arbiter) :
      ∃ l, (a.claims r).waiting = w :: l ∧ ∀ x ∈ l, x ∈ rest ∨ x.same h = true ∧ (cause = .keep ∨ h.resume = true) := by
    refine ⟨rest, ?_, fun x hx => .inl hx⟩
    rw [claims_of_arbiter ha, hself]
    exact hw
  have back (reason : Atom) (k : NoticeKind) (fields : List Atom) (hc : cause = .keep ∨ h.resume = true) :
      ∃ l, ((goBack r h reason k fields (s.setClaims r { s.claims r with holder := none })).claims r).waiting = w :: l
        ∧ ∀ x ∈ l, x ∈ rest ∨ x.same h = true ∧ (cause = .keep ∨ h.resume = true) := by
    have hwait : ((s.setClaims r { s.claims r with holder := none }).claims r).waiting = w :: rest := by
      rw [hself]
      exact hw
    obtain ⟨l, hl, hmem⟩ := joinWait_head (k := { h with mark := none }) hwait hh
    refine ⟨l, by rw [goBack_claims, hl], fun x hx => (hmem x hx).imp_right fun he => ⟨?_, hc⟩⟩
    rw [he]
    exact (claim_same_iff ..).mpr ⟨rfl, rfl⟩
  obtain ⟨x, -, hx⟩ := claims_leave r h cause s
  refine ⟨by rw [hx.self], ?_⟩
  unfold leave
  cases cause
  case released => exact gone _ (dropped_arbiter ..)
  case duration => exact gone _ ((dropped_arbiter ..).trans (claimNotice_arbiter ..))
  case clockStart => exact gone _ ((dropped_arbiter ..).trans (claimNotice_arbiter ..))
  case keep => exact back _ _ _ (.inl rfl)
  case fallback =>
    simp only
    split
    · next hres => exact back _ _ _ (.inr hres)
    · exact gone _ ((dropped_arbiter ..).trans (claimNotice_arbiter ..))

theorem leaveCause_keep_iff (h : leaveCause s g k = some .keep) : k.mark = some .keep := by
  unfold leaveCause at h
  split at h
  · cases h
  split at h
  · cases h
  split at h
  · cases h
  split at h
  · assumption
  split at h <;> cases h

/-- After the leave stage the head is where it was, and the holder that outranks it not at all is gone or counted (R31, R32). -/
theorem leaveStage_head (hw : (s.claims r).waiting = w :: rest) (hrank : ∀ h, (s.claims r).holder = some h → h.rank ≤ w.rank) (g : Region) :
    (∃ l, ((leaveStage r g s).1.claims r).waiting = w :: l
        ∧ ∀ x ∈ l, x ∈ rest ∨ ∃ h, (s.claims r).holder = some h ∧ x.same h = true ∧ (h.mark = some .keep ∨ h.resume = true))
      ∧ (((leaveStage r g s).1.claims r).holder = none
        ∨ ∃ h, (s.claims r).holder = some h ∧ ((leaveStage r g s).1.claims r).holder = some h.counted) := by
  have hwait : ((s.countedAt r).claims r).waiting = w :: rest := by rw [waiting_countedAt, hw]
  have hstays : ∃ l, ((s.countedAt r).claims r).waiting = w :: l
      ∧ ∀ x ∈ l, x ∈ rest ∨ ∃ h, (s.claims r).holder = some h ∧ x.same h = true ∧ (h.mark = some .keep ∨ h.resume = true) :=
    ⟨rest, hwait, fun x hx => .inl hx⟩
  have heq := leaveStage_eq r g s
  generalize leaveStage r g s = e at heq ⊢
  cases hh : (s.claims r).holder with
  | none =>
    simp only [hh] at heq
    subst heq
    refine ⟨by simpa [hh] using hstays, .inl ?_⟩
    rw [(claims_countedAt r s).self, countStage_eq, hh]
    rfl
  | some h =>
    simp only [hh] at heq
    cases hc : leaveCause s g h.counted with
    | none =>
      simp only [hc] at heq
      subst heq
      exact ⟨by simpa [hh] using hstays, .inr ⟨h, rfl, holder_countedAt hh⟩⟩
    | some cause =>
      simp only [hc] at heq
      subst heq
      obtain ⟨hgone, l, hl, hmem⟩ := leave_head (h := h.counted) (s := s.countedAt r) hwait (hrank h hh) cause
      refine ⟨⟨l, hl, fun x hx => (hmem x hx).imp_right fun hback => ⟨h, rfl, ?_, ?_⟩⟩, .inl hgone⟩
      · exact hback.1
      · exact hback.2.imp_left fun hk => leaveCause_keep_iff (k := h.counted) (hk ▸ hc)

/-! ### The candidate becomes holder (R33, R34) -/

theorem candidate_head (hw : (s.claims r).waiting = w :: rest) (hel : eligible s g w = true) : candidate s r g = some w := by
  unfold candidate
  rw [hw, List.find?_cons, hel]

theorem not_same_of_mem_removeClaim {x : Claim} {l : List Claim} (hx : x ∈ removeClaim w l) : x.same w = false := by
  simpa using (List.mem_filter.mp hx).2

theorem promote_region {g : Region} (hg : s.region r = some g) (w : Claim) :
    (promote r w s).region r = some { g with lastChange := some s.comp.frame } := by
  rw [region_of_canvas (promote_does w hg).2, region_setRegion_self]

/-- What is left of the part before a candidate is promoted over a holder that is dropped (R34). -/
def preemptedAt (r : RegionId) (h w : Claim) (s : State) : State :=
  dropped r { h with mark := none } false
    (claimNotice .preempted r { h with mark := none } (optNat h.remaining ++ [nat w.rank]) (s.setClaims r { s.claims r with holder := none }))

theorem only_preemptedAt (r : RegionId) (h w : Claim) (s : State) : Only [.arbiter, .rotation, .messages] s (preemptedAt r h w s) := by
  simp [preemptedAt]

theorem claims_preemptedAt (r : RegionId) (h w : Claim) (s : State) : (preemptedAt r h w s).claims r = { s.claims r with holder := none } := by
  rw [preemptedAt, claims_of_arbiter ((dropped_arbiter ..).trans (claimNotice_arbiter ..)), claims_setClaims_self]

theorem within_preemptedAt (hh : h.apart V) (w : Claim) (s : State) : Within V [r] s (preemptedAt r h w s) := by
  have hback : ({ h with mark := none } : Claim).apart V := hh
  exact (within_setClaims List.mem_cons_self _).trans
    ((within_claimNotice hback ..).trans (within_dropped List.mem_cons_self hback _))

theorem port_preemptedAt (hp : h.claimant = .port p) (hreq : (s.port p).requests = []) (r : RegionId) (w : Claim) :
    (preemptedAt r h w s).port p
      = noteTo (claimNoticeOf .preempted r h.tag s.frame (optNat h.remaining ++ [nat w.rank])) (s.port p) := by
  unfold preemptedAt
  rw [port_dropped (h := { h with mark := none }) hp, port_claimNotice (h := { h with mark := none }) hp]
  · rfl
  · rw [port_claimNotice (h := { h with mark := none }) hp, noteTo_requests]
    exact hreq

/-- A holder that does not resume, or that no list takes, is dropped where it is displaced. -/
theorem displace_drops (hno : h.resume = false
      ∨ joinWait r { h with mark := none } (s.setClaims r { s.claims r with holder := none })
          = (s.setClaims r { s.claims r with holder := none }, false)) (w : Claim) :
    displace r h w s = promote r w (preemptedAt r h w s) := by
  unfold displace
  simp only
  split
  · next hres =>
    rcases hno with h | h
    · simp [hres] at h
    · rw [h]
      rfl
  · rfl

/-- The candidate at the head takes a region that nobody holds, or a holder of lower rank that does not resume. -/
theorem replaceStage_takes {l : List Claim} (hw : (s.claims r).waiting = w :: l) (hel : eligible s g w = true)
    (hheld : (s.claims r).holder = none ∨ ∃ h, (s.claims r).holder = some h ∧ h.rank < w.rank ∧ h.resume = false) (left : Option Claim) :
    ∃ a, Only [.arbiter, .rotation, .messages] s a ∧ (replaceStage r g true left s).1 = promote r w a
      ∧ (a.claims r).waiting = w :: l
      ∧ ∀ V, (∀ h, (s.claims r).holder = some h → h.apart V) → Within V [r] s a := by
  have hcand := candidate_head hw hel
  rcases hheld with hn | ⟨h, hh, hlow, hres⟩
  · refine ⟨s, only_rfl, ?_, hw, fun V _ => Within.refl ..⟩
    rw [replaceStage_unheld hn, hcand]
    rfl
  · refine ⟨preemptedAt r h w s, only_preemptedAt .., ?_, ?_, fun V hV => within_preemptedAt (hV h hh) ..⟩
    · unfold replaceStage
      rw [hh, hcand]
      simp only [hlow, decide_true, Bool.and_self, if_true]
      exact displace_drops (.inl hres) w
    · rw [claims_preemptedAt]
      exact hw

/-! ### An evaluation with a candidate at the head -/

theorem evaluate_unfold (hg : s.region r = some g) (hf : g.fixed = false) :
    evaluate r s = enginesAct r g (arbitrate r g (countPass r (countSpot r g s))) := by
  unfold evaluate
  simp only [hg, hf]
  rfl

/-- Behind a head of the list nobody but who waits there can be pushed off. -/
theorem safe_behind (hw : (s.claims r).waiting = w :: rest) (hno : ∀ x ∈ rest, x.apart V) : (s.claims r).safe V := by
  intro last hlen hlast
  rw [hw] at hlen hlast
  cases rest with
  | nil => exact absurd hlen (by simp)
  | cons x xs =>
    rw [List.getLast?_cons_cons] at hlast
    exact hno last (List.mem_of_getLast? hlast)

/-- Where the candidate `w` at the head of a list `w :: rest` takes a region, what still waits was there, or is the holder that left. -/
def Remains (w : Claim) (rest : List Claim) (s : State) (r : RegionId) (x : Claim) : Prop :=
  x.same w = false ∧ (x ∈ rest ∨ ∃ h, (s.claims r).holder = some h ∧ x.same h = true ∧ h.mark = some .keep)

/-- The arbiter's part of an evaluation at which the candidate at the head takes the region (R31 to R34). -/
theorem arbitrate_takes (hg : s.region r = some g) (hw : (s.claims r).waiting = w :: rest) (hel : eligible s g w = true)
    (hpassed : dwellPassed g s.frame = true)
    (hheld : (s.claims r).holder = none ∨ ∃ h, (s.claims r).holder = some h ∧ h.rank < w.rank ∧ h.resume = false) :
    ∃ e, (arbitrate r g s).1 = e ∧ (e.claims r).holder = some w ∧ e.region r = some { g with lastChange := some s.comp.frame }
      ∧ (∀ x ∈ (e.claims r).waiting, Remains w rest s r x)
      ∧ ∀ v, w.claimant = .port v → (∀ x ∈ rest, x.claimant ≠ .port v) → (∀ h, (s.claims r).holder = some h → h.claimant ≠ .port v) →
          e.port v = noteTo (claimNoticeOf .holding r w.tag s.frame (nat w.rank :: optNat w.remaining)) (s.port v) := by
  have hrank : ∀ h, (s.claims r).holder = some h → h.rank < w.rank ∧ h.resume = false := fun h hh => by
    rcases hheld with hn | ⟨d, hd, hlow, hres⟩
    · simp [hn] at hh
    · obtain rfl := Option.some.inj (hd.symm.trans hh)
      exact ⟨hlow, hres⟩
  obtain ⟨⟨l, hl, hmem⟩, hgone⟩ := leaveStage_head hw (fun h hh => (hrank h hh).1.le) g
  have hL := only_leaveStage (s := s) r g
  have hLel := eligible_congr (s := s) (hL.2 .monitors (by simp)) (hL.2 .clock (by simp)) g w
  obtain ⟨a, ha, hreplace, hwait, hapart⟩ := replaceStage_takes (g := g) hl (hLel.trans hel)
    (hgone.imp_right fun ⟨h, hh, hcounted⟩ => ⟨h.counted, hcounted, hrank h hh⟩) (leaveStage r g s).2
  have hag : a.region r = some g := (region_of_canvas ha.canvas r).trans ((region_of_canvas hL.canvas r).trans hg)
  have hcomp : a.comp = s.comp := ha.comp.trans hL.comp
  obtain ⟨hpro, -⟩ := promote_does w hag
  refine ⟨promote r w a, ?_, by rw [hpro.self], by rw [promote_region hag, hcomp], fun x hx => ?_, fun v hv hno hnot => ?_⟩
  · rw [← hreplace, ← hpassed]
    rfl
  · replace hx : x ∈ removeClaim w (w :: l) := by rwa [hpro.self, hwait] at hx
    have hne := not_same_of_mem_removeClaim hx
    refine ⟨hne, ?_⟩
    rcases List.mem_cons.mp (List.mem_of_mem_filter hx) with rfl | hxl
    · simp [claim_same_refl] at hne
    · refine (hmem x hxl).imp_right fun ⟨h, hh, hs, hk⟩ => ⟨h, hh, hs, hk.resolve_right ?_⟩
      simp [(hrank h hh).2]
  · have hLw : Within (only v) [r] s (leaveStage r g s).1 :=
      within_leaveStage List.mem_cons_self (fun h hh => claim_apart_only.mpr (hnot h hh))
        (safe_behind hw fun x hx => claim_apart_only.mpr (hno x hx)) g
    have haw := hapart (only v) fun h hh => by
      rcases hgone with hn | ⟨d, hd, hcounted⟩
      · simp [hn] at hh
      · obtain rfl := Option.some.inj (hcounted.symm.trans hh)
        exact claim_apart_only.mpr (hnot d hd)
    rw [port_promote hv, haw.port v rfl, hLw.port v rfl, show a.frame = s.frame from congrArg Compositor.frame hcomp]

/-- What an evaluation at which the candidate at the head takes the region leaves of it. -/
structure Takes (r : RegionId) (g : Region) (w : Claim) (rest : List Claim) (s e : State) : Prop where
  holder : (e.claims r).holder = some w
  region : e.region r = some { g with lastChange := some s.comp.frame }
  waiting : ∀ x ∈ (e.claims r).waiting, (∃ d, x.claimant = .engine d) ∨ Remains w rest s r x
  port : ∀ v, w.claimant = .port v → s.passApart (only v) r → (∀ x ∈ rest, x.claimant ≠ .port v) →
    (∀ h, (s.claims r).holder = some h → h.claimant ≠ .port v) →
    e.port v = noteTo (claimNoticeOf .holding r w.tag s.frame (nat w.rank :: optNat w.remaining)) (s.port v)

theorem evaluate_takes (hg : s.region r = some g) (hf : g.fixed = false) (hw : (s.claims r).waiting = w :: rest) (hp : w.claimant = .port p)
    (hel : eligible s g w = true) (hpassed : dwellPassed g s.frame = true)
    (hheld : (s.claims r).holder = none ∨ ∃ h, (s.claims r).holder = some h ∧ h.rank < w.rank ∧ h.resume = false) :
    Takes r g w rest s (evaluate r s) := by
  have hO : Only [.rotation, .messages] s (countPass r (countSpot r g s)) := by simp
  have hc := claims_of_arbiter hO.arbiter r
  have hcg : (countPass r (countSpot r g s)).region r = some g := (region_of_canvas hO.canvas r).trans hg
  have hcomp : (countPass r (countSpot r g s)).comp = s.comp := hO.comp
  have hcel := eligible_congr (s := s) (hO.2 .monitors (by simp)) (hO.2 .clock (by simp)) g w
  have hcount (v : PortId) (hpass : s.passApart (only v) r) :
      Within (only v) [r] s (countPass r (countSpot r g s)) ∧ (countPass r (countSpot r g s)).passApart (only v) r := by
    have hspot : (countSpot r g s).passApart (only v) r := by
      have hS : Only [.rotation] s (countSpot r g s) := by simp
      exact fun x hx => hpass x (by rwa [State.pass, hS.2 .messages (by simp)] at hx)
    exact ⟨(within_countSpot g).trans (within_countPass List.mem_cons_self hspot), passApart_countPass hspot⟩
  rw [evaluate_unfold hg hf]
  generalize countPass r (countSpot r g s) = c at *
  have hcf : c.frame = s.frame := congrArg Compositor.frame hcomp
  obtain ⟨e, he, hholder, hregion, hremains, hport⟩ := arbitrate_takes (s := c) hcg (hc ▸ hw) (hcel.trans hel) (hcf ▸ hpassed) (hc ▸ hheld)
  simp only [Remains, hc] at hremains hport
  rw [hcomp] at hregion
  subst he
  refine ⟨holder_enginesAct hholder hp g, (region_enginesAct ..).trans hregion, fun x hx => ?_, fun v hv hpass hno hnot => ?_⟩
  · exact (waiting_enginesAct hx).symm.imp_right (hremains x)
  · obtain ⟨hwithin, hcpass⟩ := hcount v hpass
    have hEpass : (arbitrate r g c).1.passApart (only v) r := fun x hx => hcpass x (by rwa [(offered_arbitrate r g c).pass] at hx)
    have hEwait : ∀ x ∈ ((arbitrate r g c).1.claims r).waiting, x.apart (only v) := fun x hx => by
      obtain ⟨-, hr | ⟨h, hh, hs, -⟩⟩ := hremains x hx
      · exact claim_apart_only.mpr (hno x hr)
      · obtain ⟨hclaimant, -⟩ := (claim_same_iff ..).mp hs
        exact claim_apart_only.mpr (by rw [hclaimant]; exact hnot h hh)
    rw [(within_enginesAct hEwait hEpass g).port v rfl, hport v hv hno hnot, hwithin.port v rfl, hcf]

end Head
end Sys2Proof.Machine
end

section
/-! PROOF. A tick makes the candidate of a region its holder (O34). -/

namespace Sys2Proof.Machine

-- The proofs are checked one after another: side by side they ask for more threads than the memory limit leaves.
set_option Elab.async false

section Displace
variable {r : RegionId} {g : Region} {h w : Claim} {u v : PortId} {rest front back : List Claim} {s : State}

/-- What displacing a port's holder by the candidate `w` leaves: the wait list `l`, and the notice `n` to the holder's port `u`. -/
structure Displaces (r : RegionId) (g : Region) (w : Claim) (rest l : List Claim) (u : PortId) (n : Notice) (s e : State) : Prop where
  holder : (e.claims r).holder = some w
  waiting : (e.claims r).waiting = l
  region : e.region r = some { g with lastChange := some s.comp.frame }
  port : (s.port u).requests = [] → w.claimant ≠ .port u → (∀ x ∈ rest, x.claimant ≠ .port u) → e.port u = noteTo n (s.port u)

theorem removeClaim_head {l : List Claim} (h : ∀ x ∈ l, x.same w = false) : removeClaim w (w :: l) = l := by
  unfold removeClaim
  rw [List.filter_cons, if_neg (by simp [claim_same_refl])]
  exact List.filter_eq_self.mpr fun x hx => by simp [h x hx]

/-- The candidate at the head is promoted where all but its port's notices has been settled. -/
theorem displaces_promote {l : List Claim} {n : Notice} {a : State} (hg : s.region r = some g) (ha : Only [.arbiter, .rotation, .messages] s a)
    (hwait : (a.claims r).waiting = w :: l) (hl : ∀ x ∈ l, x.same w = false)
    (hport : (s.port u).requests = [] → (∀ x ∈ rest, x.claimant ≠ .port u) → a.port u = noteTo n (s.port u)) :
    Displaces r g w rest l u n s (promote r w a) := by
  have hag : a.region r = some g := (region_of_canvas ha.canvas r).trans hg
  obtain ⟨hpro, -⟩ := promote_does w hag
  refine ⟨by rw [hpro.self], ?_, ?_, fun hreq hw hno => ?_⟩
  · rw [hpro.self, hwait]
    exact removeClaim_head hl
  · rw [promote_region hag, ha.comp]
  · rw [(within_promote (rs := [r]) (V := only u) List.mem_cons_self (claim_apart_only.mpr hw)).port u rfl]
    exact hport hreq hno

/-- A holder that is dropped where it is displaced. -/
theorem displaces_drops (hg : s.region r = some g) (hw : (s.claims r).waiting = w :: rest) (hu : h.claimant = .port u)
    (hno : h.resume = false
      ∨ joinWait r { h with mark := none } (s.setClaims r { s.claims r with holder := none })
          = (s.setClaims r { s.claims r with holder := none }, false)) (hrest : ∀ x ∈ rest, x.same w = false) :
    Displaces r g w rest rest u (claimNoticeOf .preempted r h.tag s.frame (optNat h.remaining ++ [nat w.rank])) s (displace r h w s) := by
  rw [displace_drops hno]
  refine displaces_promote hg (only_preemptedAt ..) ?_ hrest fun hreq _ => port_preemptedAt hu hreq ..
  rw [claims_preemptedAt]
  exact hw

/-- A holder that goes back to waiting where it is displaced, `j` being what its joining leaves. -/
theorem displaces_back {j : State} (hg : s.region r = some g) (hu : h.claimant = .port u) (hres : h.resume = true)
    (hj : joinWait r { h with mark := none } (s.setClaims r { s.claims r with holder := none }) = (j, true))
    (hwait : (j.claims r).waiting = w :: (front ++ { h with mark := none } :: back)) (hfront : ∀ x ∈ front, x.same h = false)
    (hfresh : ∀ x ∈ front ++ { h with mark := none } :: back, x.same w = false)
    (hport : (∀ x ∈ rest, x.claimant ≠ .port u) → j.port u = s.port u) :
    Displaces r g w rest (front ++ { h with mark := none } :: back) u
      (claimNoticeOf .displaced r h.tag s.frame ([.named 0] ++ optNat h.remaining ++ [nat (front.length + 1)])) s (displace r h w s) := by
  have hjo : Only [.arbiter, .rotation, .messages] s j := by
    have : Only [.arbiter, .rotation, .messages] s (joinWait r { h with mark := none } (s.setClaims r { s.claims r with holder := none })).1 := by
      simp
    rwa [hj] at this
  have hpos : positionOf { h with mark := none } (removeClaim w (j.claims r).waiting) = front.length + 1 := by
    rw [hwait, removeClaim_head hfresh]
    exact positionOf_fresh fun x hx => hfront x hx
  have heq : displace r h w s = promote r w (claimNotice .displaced r { h with mark := none }
      ([reasonHigher] ++ optNat h.remaining ++ [nat (front.length + 1)]) j) := by
    unfold displace
    simp only
    rw [if_pos hres, hj]
    simp only [hpos]
  rw [heq]
  refine displaces_promote hg (hjo.trans (by simp)) ?_ hfresh fun _ hno => ?_
  · rw [claims_of_arbiter (claimNotice_arbiter ..), hwait]
  · rw [port_claimNotice (h := { h with mark := none }) hu, hport hno, show j.frame = s.frame from congrArg Compositor.frame hjo.comp]
    rfl

/-- The evaluation at which the candidate at the head displaces a holder of lower rank that no cause makes leave. -/
theorem evaluate_displaces (hg : s.region r = some g) (hf : g.fixed = false) (hh : (s.claims r).holder = some h) (hu : h.claimant = .port u)
    (hstays : leaveCause s g h.counted = none) (hw : (s.claims r).waiting = w :: rest) (hel : eligible s g w = true)
    (hpassed : dwellPassed g s.frame = true) (hlow : h.rank < w.rank) :
    evaluate r s = enginesAct r g (displace r h.counted w (s.countedAt r), ⟨some h.counted, some w⟩) := by
  have hcand : candidate (s.countedAt r) r g = some w := candidate_head (by rw [waiting_countedAt, hw]) hel
  rw [evaluate_stays hg hf (portHeld_of_holder hh hu) (fun d hd => Option.some.inj (hh.symm.trans hd) ▸ hstays)]
  unfold replaceStage
  rw [holder_countedAt hh, hcand, hpassed]
  have hrank : h.counted.rank < w.rank := hlow
  simp only [hrank, decide_true, Bool.and_self, if_true]

end Displace

/-! ### The tick -/

section Tick
variable {V : PortId → Prop} {r : RegionId} {g : Region} {h w : Claim} {u v : PortId} {n : PatternId} {rest front back : List Claim}
  {s b t : State}

/-- A tick finds what is said of the candidate and its region before it. -/
theorem Facing.eligible (hb : Facing V r s b) (hw : w.content = .fill n) (hstop : g.stoppage = true → s.clock.state ≠ .running) :
    Machine.eligible b g w = true := by
  rw [eligible_of_content (fun i hi => by simp [hw] at hi)]
  cases hg : g.stoppage
  · rfl
  · simp [State.running, hb.clock, hstop hg]

theorem Facing.dwell (hb : Facing V r s b) (hdwell : ∀ f, g.lastChange = some f → g.dwell ≤ (s.comp.frame + 1 - f).toNat) :
    dwellPassed g b.frame = true := (dwellPassed_iff g b.frame).mpr (by rw [hb.frame]; exact hdwell)

/-- No cause makes the holder leave at the tick that follows `s`. -/
def Stays (s : State) (h : Claim) : Prop :=
  h.mark = none ∧ h.remaining ≠ some 0 ∧ h.remaining ≠ some 1
    ∧ ∀ i, h.content = .picture i →
        (s.monitor (monLost i)).reported = false ∧ framesSince (s.comp.frame + 1) (s.input i).arrival ≤ (s.input i).limit

theorem Facing.stays (hb : Facing V r s b) (hs : Stays s h) : leaveCause b g h.counted = none := by
  obtain ⟨hm, h0, h1, hpic⟩ := hs
  have hrem := counted_remaining h0 h1
  have hfall : holderInFallback b g h.counted = false := by
    unfold holderInFallback
    rw [show h.counted.content = h.content from rfl]
    cases hc : h.content with
    | picture i =>
      obtain ⟨hrep, hlimit⟩ := hpic i hc
      obtain ⟨hmon, -⟩ := hb.lost i (.inr (decide_eq_false (Nat.not_lt.mpr hlimit)))
      simp [inFallback, State.treatedLost, hmon, hrep]
    | _ => rfl
  unfold leaveCause
  rw [if_neg (by simp [Claim.counted, hm]), if_neg hrem, if_neg (by simp [Claim.counted, hm]), if_neg (by simp [Claim.counted, hm]), hfall]
  rfl

/-- The new holder, its region and the plane that shows it. -/
theorem taken_of (hv : w.claimant = .port v) (hn : w.content = .fill n) {e : State} (he : Ended V r s e t)
    (hholder : (e.claims r).holder = some w) (hregion : e.region r = some { g with lastChange := some (s.comp.frame + 1) }) :
    ((pump t).claims r).holder = some w ∧ (pump t).region r = some { g with lastChange := some (s.comp.frame + 1) }
      ∧ ∃ m, (pump t).comp.map = some m
          ∧ (r ≠ 0 → ∃ x ∈ m.planes, x.region = r ∧ x.presentable = true ∧ x.content = .fill n.val (s.colour n)) := by
  have hheld := he.holder w v hholder hv
  obtain ⟨x, hmap, hxr, hxc, hcolours⟩ := he.map
  refine ⟨hheld, he.region.trans hregion, buildMap x, hmap, fun hr => ?_⟩
  refine ⟨planeOf x r _, mem_planesOf.mpr ⟨r, _, hr, hxr.trans (he.region.trans hregion), rfl⟩, rfl, ?_, ?_⟩
  · simp [planeOf, regionContent, hxc, hheld, holderContent, hn]
  · simp [planeOf, regionContent, hxc, hheld, holderContent, hn, State.colour, hcolours]

/-- A port's claim of a fill pattern is the region's candidate at the next tick, and the dwell will have passed. -/
structure AtHead (r : RegionId) (g : Region) (w : Claim) (v : PortId) (n : PatternId) (rest : List Claim) (s : State) : Prop where
  region : s.region r = some g
  view : g.view = .none
  waiting : (s.claims r).waiting = w :: rest
  claimant : w.claimant = .port v
  content : w.content = .fill n
  fresh : ∀ x ∈ rest, x.same w = false
  stoppage : g.stoppage = true → s.clock.state ≠ .running
  dwell : ∀ f, g.lastChange = some f → g.dwell ≤ (s.comp.frame + 1 - f).toNat

/-- The candidate takes a region that nobody holds, or a holder that does not resume. -/
theorem tick_takes (hc : AtHead r g w v n rest s)
    (hheld : (s.claims r).holder = none ∨ ∃ h, (s.claims r).holder = some h ∧ h.rank < w.rank ∧ h.resume = false) (V : PortId → Prop)
    (helse : Elsewhere V r s) :
    ∃ b, Facing V r s b ∧ Takes r g w rest b (evaluate r b) ∧ Ended V r s (evaluate r b) (timerTick s) := by
  obtain ⟨hg, hview, hw, hv, hn, -, hstop, hdwell⟩ := hc
  obtain ⟨b, hb, he⟩ := timerTick_at helse
  refine ⟨b, hb, ?_, he⟩
  exact evaluate_takes (hb.region.trans hg) (fixed_of_view hview) (by rw [hb.claims]; exact hw) hv (hb.eligible hn hstop) (hb.dwell hdwell)
    (by rw [hb.claims]; exact hheld)

theorem Facing.comp_frame (hb : Facing V r s b) : b.comp.frame = s.comp.frame + 1 := hb.frame

/-- What waits after the tick at which the candidate took the region. -/
theorem Takes.ended {e : State} (hb : Facing V r s b) (ht : Takes r g w rest b e) (he : Ended V r s e t) {x : Claim}
    (hx : x ∈ (t.claims r).waiting) : (∃ d, x.claimant = .engine d) ∨ Remains w rest s r x := by
  rcases he.waiting x hx with h | h
  · have := ht.waiting x h
    rwa [Remains, hb.claims] at this
  · exact .inl h

/-- The candidate's port hears that it holds. -/
theorem hears_holding (hc : AtHead r g w v n rest s)
    (hheld : (s.claims r).holder = none ∨ ∃ h, (s.claims r).holder = some h ∧ h.rank < w.rank ∧ h.resume = false) (hears : HearsOnlyOf r v s)
    (hno : ∀ x ∈ rest, x.claimant ≠ .port v) (hnot : (s.claims r).heldBy (.port v) = false) :
    Hears v [claimNoticeOf .holding r w.tag (s.comp.frame + 1) (nat w.rank :: optNat w.remaining)] s (pump (timerTick s)) := by
  obtain ⟨b, hb, ht, he⟩ := tick_takes hc hheld (only v) hears.elsewhere
  have hholder (h : Claim) (hh : (s.claims r).holder = some h) : h.claimant ≠ .port v := fun hc => by
    simp [RegionClaims.heldBy, hh, hc] at hnot
  have hpass : b.passApart (only v) r := fun x hx hsub => hears.2.2.1 r x (by rwa [hb.pass] at hx) hsub
  have hwait : ∀ x ∈ ((evaluate r b).claims r).waiting, x.apart (only v) := fun x hx => by
    refine claim_apart_only.mpr ?_
    rcases ht.waiting x hx with ⟨d, hd⟩ | ⟨-, hr | ⟨h, hh, hs, -⟩⟩
    · simp [hd]
    · exact hno x hr
    · obtain ⟨hclaimant, -⟩ := (claim_same_iff ..).mp hs
      rw [hclaimant]
      exact hholder h (by rwa [hb.claims] at hh)
  refine hears_pump ?_
  rw [he.port (.inr hwait) v rfl, ht.port v hc.claimant hpass hno (by rw [hb.claims]; exact hholder), hb.port v rfl, hb.frame]
  rfl

/-- The port of a holder that is displaced and dropped hears Preempted. -/
theorem hears_preempted (hc : AtHead r g w v n rest s) (hh : (s.claims r).holder = some h) (hu : h.claimant = .port u)
    (hlow : h.rank < w.rank) (hres : h.resume = false) (hs : Stays s h)
    (huv : u ≠ v) (hears : HearsOnlyOf r u s) (hno : ∀ x ∈ rest, x.claimant ≠ .port u) :
    Hears u [claimNoticeOf .preempted r h.tag (s.comp.frame + 1) (optNat (h.remaining.map (fun x => x - 1)) ++ [nat w.rank])] s
      (pump (timerTick s)) := by
  obtain ⟨hg, hview, hw, hv, hn, hrest, hstop, hdwell⟩ := hc
  obtain ⟨b, hb, he⟩ := timerTick_at hears.elsewhere
  have hbg := hb.region.trans hg
  have hbw : (b.claims r).waiting = w :: rest := by rw [hb.claims]; exact hw
  have heq := evaluate_displaces hbg (fixed_of_view hview) (by rw [hb.claims]; exact hh) hu (hb.stays hs) hbw (hb.eligible hn hstop)
    (hb.dwell hdwell) hlow
  have hd := displaces_drops (s := b.countedAt r) (h := h.counted) (w := w) (u := u) hbg (by rw [waiting_countedAt, hbw]) hu (.inl hres) hrest
  have hof : Verdict.ofPort ⟨some h.counted, some w⟩ := fun c hc => ⟨u, by rw [← Option.some.inj hc]; exact hu⟩
  have hwu : w.claimant ≠ .port u := by
    rw [hv]
    exact fun hc => huv (Claimant.port.inj hc).symm
  have hapart : ∀ x ∈ ((displace r h.counted w (b.countedAt r)).claims r).waiting, x.apart (only u) := fun x hx => by
    rw [hd.waiting] at hx
    exact claim_apart_only.mpr (hno x hx)
  have hwait : ∀ x ∈ ((evaluate r b).claims r).waiting, x.apart (only u) := fun x hx => by
    rw [heq] at hx
    rcases waiting_enginesAct hx with h | ⟨d, hd⟩
    · exact hapart x h
    · exact claim_apart_only.mpr (by simp [hd])
  refine hears_pump ?_
  rw [he.port (.inr hwait) u rfl, heq, port_enginesAct (V := only u) hof hapart g rfl,
    hd.port (by show (b.port u).requests = []; rw [hb.port u rfl]; exact hears.2.1) hwu hno]
  show noteTo _ (b.port u) = _
  rw [hb.port u rfl, ← hb.frame]
  rfl

/-- What a tick leaves of the candidate's region: it holds, the last change is the new frame, and the region's plane shows its pattern. -/
def TakenAt (r : RegionId) (g : Region) (w : Claim) (n : PatternId) (s t : State) : Prop :=
  (t.claims r).holder = some w ∧ t.region r = some { g with lastChange := some (s.comp.frame + 1) }
    ∧ ∃ m, t.comp.map = some m
        ∧ (r ≠ 0 → ∃ x ∈ m.planes, x.region = r ∧ x.presentable = true ∧ x.content = .fill n.val (s.colour n))

/-- The tick at which the candidate displaces a holder, in a region that no engine has a part in. -/
theorem tick_displaces {l : List Claim} {x : Notice} (hc : AtHead r g w v n rest s) (hh : (s.claims r).holder = some h)
    (hu : h.claimant = .port u) (hlow : h.rank < w.rank) (hs : Stays s h) (hmes : g.message = false) (hnone : ∀ d, s.offering d r = false)
    (hl : ∀ c ∈ l, ∃ p, c.claimant = .port p)
    (hd : ∀ V b, Facing V r s b → Displaces r g w rest l u x (b.countedAt r) (displace r h.counted w (b.countedAt r))) :
    TakenAt r g w n s (pump (timerTick s)) ∧ ((pump (timerTick s)).claims r).waiting = l
      ∧ (u ≠ v ∧ HearsOnlyOf r u s ∧ (∀ c ∈ rest, c.claimant ≠ .port u) → Hears u [x] s (pump (timerTick s))) := by
  obtain ⟨hg, hview, hw, hv, hn, hrest, hstop, hdwell⟩ := hc
  have hof : Verdict.ofPort ⟨some h.counted, some w⟩ := fun c hc => ⟨u, by rw [← Option.some.inj hc]; exact hu⟩
  have heval (V : PortId → Prop) (b : State) (hb : Facing V r s b) :
      evaluate r b = enginesAct r g (displace r h.counted w (b.countedAt r), ⟨some h.counted, some w⟩) :=
    evaluate_displaces (hb.region.trans hg) (fixed_of_view hview) (by rw [hb.claims]; exact hh) hu (hb.stays hs)
      (by rw [hb.claims]; exact hw) (hb.eligible hn hstop) (hb.dwell hdwell) hlow
  have hleft (V : PortId → Prop) (b : State) (hb : Facing V r s b) :
      (evaluate r b).ports = (displace r h.counted w (b.countedAt r)).ports ∧ ((evaluate r b).claims r).holder = some w
        ∧ ((evaluate r b).claims r).waiting = l := by
    have hdis := hd V b hb
    obtain ⟨hports, hkeeps⟩ := enginesAct_unmessaged (e := (displace r h.counted w (b.countedAt r), ⟨some h.counted, some w⟩)) hof hdis.region
      hmes g
    obtain ⟨hholder, hwait⟩ := hkeeps (portHeld_of_holder hdis.holder hv) fun c hc => by
      rw [hdis.waiting] at hc
      obtain ⟨p, hp⟩ := hl c hc
      simp [hp]
    rw [heval V b hb]
    exact ⟨hports, hholder.trans hdis.holder, hwait.trans hdis.waiting⟩
  refine ⟨?_, ?_, fun ⟨huv, hears, hno⟩ => hears_pump ?_⟩
  · obtain ⟨b, hb, he⟩ := timerTick_at (elsewhere_nobody r s)
    refine taken_of hv hn he (hleft _ b hb).2.1 ?_
    rw [heval _ b hb, region_enginesAct, (hd _ b hb).region, ← hb.comp_frame]
    rfl
  · obtain ⟨b, hb, he⟩ := timerTick_at (elsewhere_nobody r s)
    rw [claims_of_arbiter (pump_arbiter _), he.claims hnone]
    exact (hleft _ b hb).2.2
  · obtain ⟨b, hb, he⟩ := timerTick_at hears.elsewhere
    have hwu : w.claimant ≠ .port u := by
      rw [hv]
      exact fun hc => huv (Claimant.port.inj hc).symm
    rw [he.port (.inl hnone) u rfl, port_of_ports (hleft _ b hb).1,
      (hd _ b hb).port (by show (b.port u).requests = []; rw [hb.port u rfl]; exact hears.2.1) hwu hno]
    show noteTo _ (b.port u) = _
    rw [hb.port u rfl]
    rfl

end Tick

/-! ### What becomes of a displaced holder that resumes (R25, R34) -/

section Back
variable {V : PortId → Prop} {r : RegionId} {g : Region} {h w last : Claim} {u v : PortId} {n : PatternId} {rest front back : List Claim}
  {s b : State}

/-- The part just before the displaced holder joins the wait list. -/
def State.unheldAt (r : RegionId) (s : State) : State := (s.countedAt r).setClaims r { (s.countedAt r).claims r with holder := none }

theorem waiting_unheldAt (hb : Facing V r s b) (hw : (s.claims r).waiting = w :: rest) : ((b.unheldAt r).claims r).waiting = w :: rest := by
  rw [State.unheldAt, claims_setClaims_self]
  exact (waiting_countedAt r b).trans (by rw [hb.claims, hw])

/-- A claim put back behind the candidate comes to its place among the others. -/
theorem insertClaim_back (hlow : h.rank < w.rank) (hfront : ∀ x ∈ front, h.rank ≤ x.rank) (hback : ∀ x ∈ back, x.rank < h.rank) :
    insertClaim h.back (w :: (front ++ back)) = w :: (front ++ h.back :: back) := by
  rw [insertClaim_behind (k := h.back) hlow.le, insertClaim_between (c := h.back) hfront hback]

/-- The displaced holder finds room, or pushes off the last entry, and is back on the list. -/
theorem displaces_resumed {j : State} (hb : Facing V r s b) (hg : s.region r = some g) (hu : h.claimant = .port u) (hres : h.resume = true)
    (hj : joinWait r h.back (b.unheldAt r) = (j, true)) (hwait : (j.claims r).waiting = w :: (front ++ h.back :: back))
    (hfront : ∀ x ∈ front, x.same h = false) (hfresh : ∀ x ∈ front ++ back, x.same w = false) (hsame : h.same w = false)
    (hport : (∀ x ∈ rest, x.claimant ≠ .port u) → j.port u = b.port u) :
    Displaces r g w rest (front ++ h.back :: back) u
      (claimNoticeOf .displaced r h.tag (s.comp.frame + 1)
        ([.named 0] ++ optNat (h.remaining.map (fun x => x - 1)) ++ [nat (front.length + 1)]))
      (b.countedAt r) (displace r h.counted w (b.countedAt r)) := by
  have hframe : (b.countedAt r).frame = s.comp.frame + 1 := hb.frame
  rw [← hframe]
  refine displaces_back (h := h.counted) (rest := rest) (hb.region.trans hg) hu hres hj hwait hfront (fun x hx => ?_) hport
  rcases List.mem_append.mp hx with hx | hx
  · exact hfresh x (List.mem_append_left _ hx)
  · rcases List.mem_cons.mp hx with rfl | hx
    · exact not_same_trans (back_same h) hsame
    · exact hfresh x (List.mem_append_right _ hx)

theorem displaces_room (hb : Facing V r s b) (hc : AtHead r g w v n rest s) (hu : h.claimant = .port u) (hlow : h.rank < w.rank)
    (hres : h.resume = true) (hsame : h.same w = false) (hfresh : ∀ x ∈ rest, x.same h = false) (hfront : ∀ x ∈ front, h.rank ≤ x.rank)
    (hback : ∀ x ∈ back, x.rank < h.rank) (hrest : rest = front ++ back) (hroom : rest.length < 3) :
    Displaces r g w rest (front ++ h.back :: back) u
      (claimNoticeOf .displaced r h.tag (s.comp.frame + 1)
        ([.named 0] ++ optNat (h.remaining.map (fun x => x - 1)) ++ [nat (front.length + 1)]))
      (b.countedAt r) (displace r h.counted w (b.countedAt r)) := by
  have hw := waiting_unheldAt hb hc.waiting
  have hlen : ((b.unheldAt r).claims r).waiting.length < 4 := by
    rw [hw, List.length_cons]
    omega
  refine displaces_resumed hb hc.region hu hres (joinWait_room hlen h.back) ?_ (fun x hx => hfresh x (by simp [hrest, hx]))
    (hrest ▸ hc.fresh) hsame fun _ => rfl
  rw [claims_setClaims_self, hw, hrest, insertClaim_back hlow hfront hback]

theorem displaces_evicts (hb : Facing V r s b) (hc : AtHead r g w v n rest s) (hu : h.claimant = .port u) (hlow : h.rank < w.rank)
    (hres : h.resume = true) (hsame : h.same w = false) (hfresh : ∀ x ∈ rest, x.same h = false) (hfront : ∀ x ∈ front, h.rank ≤ x.rank)
    (hback : ∀ x ∈ back, x.rank < h.rank) (hrest : rest = front ++ back ++ [last]) (hfull : rest.length = 3) (hlast : last.rank < h.rank) :
    Displaces r g w rest (front ++ h.back :: back) u
      (claimNoticeOf .displaced r h.tag (s.comp.frame + 1)
        ([.named 0] ++ optNat (h.remaining.map (fun x => x - 1)) ++ [nat (front.length + 1)]))
      (b.countedAt r) (displace r h.counted w (b.countedAt r)) := by
  have hw := waiting_unheldAt hb hc.waiting
  have hlen : ((b.unheldAt r).claims r).waiting.length = 4 := by rw [hw, List.length_cons, hfull]
  have hj := joinWait_evicts (k := h.back) (last := last) (rest := w :: (front ++ back)) hlen (by rw [hw, hrest]; simp) hlast
  refine displaces_resumed hb hc.region hu hres hj ?_ (fun x hx => hfresh x (by simp [hrest, hx])) (fun x hx => ?_) hsame fun hno => ?_
  · rw [claims_of_arbiter (arbiter_evict ..), claims_setClaims_self, insertClaim_back hlow hfront hback]
  · exact hc.fresh x (by rw [hrest]; exact List.mem_append_left _ hx)
  · have happart : last.apart (only u) := claim_apart_only.mpr (hno last (by simp [hrest]))
    exact (within_evict (V := only u) (rs := [r]) List.mem_cons_self happart _).port u rfl

theorem displaces_refused (hb : Facing V r s b) (hc : AtHead r g w v n rest s) (hu : h.claimant = .port u)
    (hlast : rest.getLast? = some last) (hfull : rest.length = 3) (hlow : h.rank ≤ last.rank) :
    Displaces r g w rest rest u
      (claimNoticeOf .preempted r h.tag (s.comp.frame + 1) (optNat (h.remaining.map (fun x => x - 1)) ++ [nat w.rank]))
      (b.countedAt r) (displace r h.counted w (b.countedAt r)) := by
  have hw := waiting_unheldAt hb hc.waiting
  have hframe : (b.countedAt r).frame = s.comp.frame + 1 := hb.frame
  rw [← hframe]
  refine displaces_drops (h := h.counted) (hb.region.trans hc.region) ((waiting_countedAt r b).trans (by rw [hb.claims, hc.waiting])) hu
    (.inr ?_) hc.fresh
  refine joinWait_refused (last := last) (k := h.back) (s := b.unheldAt r) (by rw [hw, List.length_cons, hfull]) ?_ hlow
  rw [hw]
  cases rest with
  | nil => cases hlast
  | cons x xs => rwa [List.getLast?_cons_cons]

end Back

theorem not_same_engine {x k : Claim} {d : Engine} {p : PortId} (hx : x.claimant = .engine d) (hk : k.claimant = .port p) : x.same k = false := by
  rw [Bool.eq_false_iff, Ne, claim_same_iff, hx, hk]
  exact fun h => nomatch h.1

/-- What waits after the tick at which the candidate took the region is neither the candidate nor a holder that it dropped. -/
theorem waiting_taken {r : RegionId} {g : Region} {w : Claim} {v : PortId} {rest : List Claim} {s b t : State} (hb : Facing nobody r s b)
    (ht : Takes r g w rest b (evaluate r b)) (he : Ended nobody r s (evaluate r b) t) (hv : w.claimant = .port v) {x : Claim}
    (hx : x ∈ ((pump t).claims r).waiting) :
    x.same w = false ∧ ∀ h u, (s.claims r).holder = some h → h.claimant = .port u → h.mark ≠ some .keep → (∀ x ∈ rest, x.same h = false) →
      x.same h = false := by
  rw [claims_of_arbiter (pump_arbiter t)] at hx
  rcases ht.ended hb he hx with ⟨d, hd⟩ | ⟨hne, hrem⟩
  · exact ⟨not_same_engine hd hv, fun _ _ _ hu _ _ => not_same_engine hd hu⟩
  · refine ⟨hne, fun h _ hh _ hk hfresh => ?_⟩
    rcases hrem with hr | ⟨k, hk', -, hkeep⟩
    · exact hfresh x hr
    · obtain rfl := Option.some.inj (hk'.symm.trans hh)
      exact absurd hkeep hk

/-- Settles O34: the candidate stands at the head of the list, where no leaving holder outranks it, and the stages bring it to the region. -/
theorem tickMakesTheCandidateHolder : Obligations.TickMakesTheCandidateHolder := by
  intro t0 r g w v n rest s ht hg hview hw hv hn hrest hstop hdwell taken stays holding preempted displaced alone
  have hc : AtHead r g w v n rest s := ⟨hg, hview, hw, hv, hn, hrest, hstop, hdwell⟩
  have hx := exec_frameTimerExpiry ht
  refine ⟨fun hheld => ?_, fun h u front back hh hu hlow hres hs hsame hfresh hsp hmes hr hmo hports hfront hback => ?_⟩
  · have hheld' : (s.claims r).holder = none ∨ ∃ h, (s.claims r).holder = some h ∧ h.rank < w.rank ∧ h.resume = false :=
      hheld.imp_right fun ⟨h, hh, hlow, hres, _⟩ => ⟨h, hh, hlow, hres⟩
    obtain ⟨b, hb, htakes, he⟩ := tick_takes hc hheld' nobody (elsewhere_nobody r s)
    have hwaits {x : Claim} := waiting_taken (x := x) hb htakes he hv
    have htaken : TakenAt r g w n s (pump (timerTick s)) := taken_of hv hn he htakes.holder (by rw [htakes.region, hb.comp_frame])
    have hholding := hears_holding hc hheld'
    have hpreempted (h : Claim) (u : PortId) (hh : (s.claims r).holder = some h) := hears_preempted (u := u) hc hh
    generalize pump (timerTick s) = t at *
    refine ⟨t, hx, htaken, fun x hxw => (hwaits hxw).1, fun h u hh hu hk hfresh x hxw => (hwaits hxw).2 h u hh hu hk hfresh,
      hholding, fun h u hh hu hs huv hears hno => ?_⟩
    rcases hheld' with hnone | ⟨k, hk, hlow, hres⟩
    · simp [hnone] at hh
    · obtain rfl := Option.some.inj (hk.symm.trans hh)
      exact hpreempted k u hh hu hlow hres hs huv hears hno
  · have hnone : ∀ d, s.offering d r = false := fun d => by cases d <;> assumption
    have hback' : h.back = { h with remaining := h.remaining.map (fun x => x - 1) } := by
      obtain ⟨hm, -⟩ := hs
      unfold Claim.back Claim.counted
      rw [← hm]
    have hall (hmem : ∀ c ∈ front ++ back, c ∈ rest) : ∀ c ∈ front ++ h.back :: back, ∃ p, c.claimant = .port p := by
      intro c hcm
      rcases List.mem_append.mp hcm with hcm | hcm
      · exact hports c (hmem c (List.mem_append_left _ hcm))
      · rcases List.mem_cons.mp hcm with rfl | hcm
        · exact ⟨u, hu⟩
        · exact hports c (hmem c (List.mem_append_right _ hcm))
    have hdis {l : List Claim} {x : Notice} := tick_displaces (l := l) (x := x) hc hh hu hlow hs hmes hnone
    rw [← hback']
    generalize pump (timerTick s) = t at *
    refine ⟨fun hsplit hroom => ⟨t, hx, ?_⟩, fun last hsplit hfull hlow' => ⟨t, hx, ?_⟩, fun last hlast hfull hle => ⟨t, hx, ?_⟩⟩
    · exact hdis (hall (by simp [hsplit]))
        fun V b hb => displaces_room hb hc hu hlow hres hsame hfresh hfront hback hsplit hroom
    · exact hdis (hall fun c hcm => by rw [hsplit]; exact List.mem_append_left _ hcm)
        fun V b hb => displaces_evicts hb hc hu hlow hres hsame hfresh hfront hback hsplit hfull hlow'
    · exact hdis hports fun V b hb => displaces_refused hb hc hu hlast hfull hle

end Sys2Proof.Machine
end

section
/-! PROOF. ClockStart and ClockStop (O15). -/

namespace Sys2Proof.Machine

-- The proofs are checked one after another: side by side they ask for more threads than the memory limit leaves.
set_option Elab.async false

/-! ### The Message Engine settles where it offers nothing -/

/-- What the Message Engine's settling does where nothing is offered. -/
structure Released (s t : State) : Prop where
  quiet : Quiet s t
  rotation : t.rotation = s.rotation

theorem Released.trans {s t u : State} (h : Released s t) (k : Released t u) : Released s u :=
  ⟨h.quiet.trans k.quiet, k.rotation.trans h.rotation⟩

/-- A region that the Message Engine has an interest in carries its claim already. -/
def State.messageHeld (s : State) (r : RegionId) : Prop :=
  s.interest .message r = true → (s.claims r).heldBy (.engine .message) = true ∨ (s.claims r).awaitedBy (.engine .message) = true

theorem released_settle {s : State} {r : RegionId} (h : s.messageHeld r) : Released s (settle .message r s) := by
  unfold settle
  split
  · next hi =>
    rw [if_pos (by simpa using h hi)]
    exact ⟨Quiet.refl s, rfl⟩
  · exact ⟨quiet_releaseEngine .., rfl⟩

theorem released_foldl {rs : List RegionId} (hrs : rs.Nodup) {s : State} (h : ∀ r ∈ rs, s.messageHeld r) :
    Released s (rs.foldl (fun t r => settle .message r t) s) := by
  induction rs generalizing s with
  | nil => exact ⟨Quiet.refl s, rfl⟩
  | cons r rest ih =>
    obtain ⟨hr, hrest⟩ := List.nodup_cons.mp hrs
    have hfirst := released_settle (h r List.mem_cons_self)
    refine hfirst.trans (ih hrest fun n hn => ?_)
    obtain ⟨hclaims, -⟩ := (settling_settle .message r s).others n (by rintro hmem; obtain rfl := List.mem_singleton.mp hmem; exact hr hn)
    rw [State.messageHeld, hfirst.quiet.interest, hclaims]
    exact h n (List.mem_cons_of_mem _ hn)

theorem released_settleAll {s : State} (h : ∀ r, s.messageHeld r) : Released s (settleAll .message s) :=
  released_foldl allRegions_nodup fun r _ => h r

theorem Released.only {s t : State} (h : Released s t) : Only [.arbiter, .messages] s t := by
  refine ⟨h.quiet.only.1, fun x hx => ?_⟩
  by_cases hr : x = .rotation
  · subst hr
    exact h.rotation
  · exact h.quiet.only.2 x (by simp_all)

theorem Released.pass {s t : State} (h : Released s t) (r : RegionId) : t.pass r = s.pass r := by
  rw [State.pass, h.quiet.messages]
  rfl

/-! ### What Started does (R36, R86, R160, R164) -/

/-- A pass of a Stoppage entry is marked to abort (R164). -/
def Pass.started (x : Pass) : Pass := if x.entry.style = .stoppage then { x with abort := true } else x

/-- A holder of a stoppage-only region at a clock start (R36). -/
def Claim.started (stoppage : Bool) (h : Claim) : Claim :=
  if stoppage = true ∧ h.mark ≠ some .dropRelease ∧ h.mark ≠ some .dropClockStart then
    { h with mark := some (if h.resume then .keep else .dropClockStart) }
  else h

/-- What Started leaves in a region's place for a pass. -/
def startedSlot (o : Option Pass) : Option Pass :=
  match o with
  | some x => if x.entry.style = .stoppage then some { x with abort := true } else some x
  | none => none

theorem startedSlot_eq_map (o : Option Pass) : startedSlot o = o.map Pass.started := by
  cases o with
  | none => rfl
  | some x => by_cases h : x.entry.style = .stoppage <;> simp [startedSlot, Pass.started, h]

/-- The passes of Stoppage entries are marked to abort. -/
def State.abortStoppage (s : State) : State :=
  { s with messages := { s.messages with
      passes := allRegions.foldl (fun v r => v.set r.val (startedSlot (v.get r)) r.isLt) s.messages.passes } }

theorem startedPasses_eq (s : State) : startedPasses s = settleAll .message s.abortStoppage := rfl

/-- The clock runs, and holders and passes are marked. -/
def State.started (s : State) : State := (startedClaims (setClock { s.clock with state := .running } s)).abortStoppage

theorem onClockStart_starts {s : State} (hc : s.clock.state = .stopped) (hm : 0 < s.clock.main) :
    onClockStart s = (tellClock .started [] (settleAll .message s.started), .done []) := by
  unfold onClockStart
  rw [hc]
  dsimp only
  rw [if_neg (by omega), startedPasses_eq, State.started]

section Started
variable {r : RegionId} {s : State}

theorem only_abortStoppage : Only [.messages] s s.abortStoppage := (only_messages (by simp) _).mpr only_rfl

theorem only_started : Only [.arbiter, .messages] (setClock { s.clock with state := .running } s) s.started :=
  ((only_startedClaims (by simp)).mpr only_rfl).trans (only_abortStoppage.mono (by simp))

theorem started_clock : s.started.clock = { s.clock with state := .running } := only_started.2 .clock (by simp)

theorem pass_abortStoppage : s.abortStoppage.pass r = (s.pass r).map Pass.started := by
  have h := get_foldl_set33 (fun _ => startedSlot) allRegions allRegions_nodup s.messages.passes r
  rw [if_pos (mem_allRegions r), startedSlot_eq_map] at h
  exact h

theorem messages_startedClaims : (startedClaims s).messages = s.messages :=
  ((only_startedClaims (parts := [.arbiter]) (by simp)).mpr only_rfl).2 .messages (by simp)

theorem started_pass : s.started.pass r = (s.pass r).map Pass.started := by
  rw [State.started, pass_abortStoppage, State.pass, messages_startedClaims]
  rfl

theorem approved_abortStoppage : s.abortStoppage.messages.approved = s.messages.approved := by
  simp only [State.abortStoppage]

theorem ports_abortStoppage : s.abortStoppage.ports = s.ports := by simp only [State.abortStoppage]

theorem port_started (n : PortId) : s.started.port n = s.port n := by
  rw [State.port, State.started, ports_abortStoppage, startedClaims, ports_mapClaims, setClock_ports]
  rfl

theorem started_approved : s.started.messages.approved = s.messages.approved := by
  rw [State.started, approved_abortStoppage, messages_startedClaims, setClock_messages]

theorem markStarted_eq (x : RegionClaims) : markStarted x = { x with holder := x.holder.map (Claim.started true) } := by
  rcases x with ⟨_ | h, w, n⟩
  · rfl
  · by_cases hd : h.mark = some .dropRelease ∨ h.mark = some .dropClockStart
    · have hd' : ¬(h.mark ≠ some .dropRelease ∧ h.mark ≠ some .dropClockStart) := by tauto
      simp [markStarted, Claim.started, hd, hd']
    · have hd' : h.mark ≠ some .dropRelease ∧ h.mark ≠ some .dropClockStart := by tauto
      simp [markStarted, Claim.started, hd']

theorem started_claims :
    s.started.claims r = { s.claims r with holder := (s.claims r).holder.map (Claim.started ((s.region r).any Region.stoppage)) } := by
  have h : s.started.claims r = if (s.region r).any Region.stoppage then markStarted (s.claims r) else s.claims r := by
    rw [State.started, claims_of_arbiter (only_abortStoppage.arbiter), startedClaims, claims_mapClaims,
      show (setClock { s.clock with state := .running } s).region r = s.region r from rfl]
    cases s.region r <;> rfl
  rw [h]
  cases (s.region r).any Region.stoppage with
  | true => exact markStarted_eq _
  | false => rcases s.claims r with ⟨_ | h, w, n⟩ <;> simp [Claim.started]

theorem claim_started_claimant (b : Bool) (h : Claim) : (h.started b).claimant = h.claimant := by
  unfold Claim.started
  split <;> rfl

theorem started_region : s.started.region r = s.region r := by
  rw [region_of_canvas (only_started.canvas)]
  rfl

/-- The interest that the Message Engine has at a clock start: passes and Normal entries (R160). -/
theorem interest_started_iff {g : Region} (hg : s.region r = some g) :
    s.started.interest .message r = true
      ↔ g.message = true ∧ ((s.pass r).isSome = true ∨ ∃ e ∈ s.messages.approved, e.style = .normal) := by
  have hrunning : s.started.running = true := by rw [State.running, started_clock]; rfl
  simp only [State.interest, messageInterest, started_region, hg, started_pass, started_approved, hrunning]
  simp [Entry.eligible]

theorem messageHeld_started (h : s.messageHeld r) : s.started.messageHeld r := by
  intro hi
  cases hg : s.region r with
  | none => simp [State.interest, messageInterest, started_region, hg] at hi
  | some g =>
    obtain ⟨hmessage, hwork⟩ := (interest_started_iff hg).mp hi
    have hlive := h (by
      simp only [State.interest, messageInterest, hg, hmessage, Bool.true_and, Bool.or_eq_true, List.any_eq_true]
      exact hwork.imp_right fun ⟨e, he, hnormal⟩ => ⟨e, he, by simp [Entry.eligible, hnormal]⟩)
    rw [started_claims]
    refine hlive.imp (fun hheld => ?_) id
    cases hh : (s.claims r).holder with
    | none => simp [RegionClaims.heldBy, hh] at hheld
    | some k => simpa [RegionClaims.heldBy, hh, claim_started_claimant] using hheld

end Started

/-! ### What the Message Engine leaves of a clock start -/

section Settled
variable {r : RegionId} {s : State}

theorem settles_startedSettled :
    Settles .message (s.started.engineRank .message) r (s.started.interest .message r = true) (s.started.claims r)
      ((settleAll .message s.started).claims r) ((settleAll .message s.started).offering .message r) :=
  (settling_settleAll .message s.started).done r (mem_allRegions r)

/-- A holder after Started and the settling that follows it. -/
theorem holder_startedSettled {g : Region} {h : Claim} (hm : s.started.messageHeld r) (hg : s.region r = some g)
    (hh : (s.claims r).holder = some h) :
    ((settleAll .message s.started).claims r).holder
      = some (if h.claimant = .engine .message
            ∧ ¬(g.message = true ∧ ((s.pass r).isSome = true ∨ ∃ e ∈ s.messages.approved, e.style = .normal)) then
          { h with mark := some .dropRelease }
        else h.started g.stoppage) := by
  obtain ⟨hkept, -, hlost⟩ := settles_startedSettled (r := r) (s := s)
  have hholder : (s.started.claims r).holder = some (h.started g.stoppage) := by rw [started_claims, hh, hg]; rfl
  have hwork := interest_started_iff hg
  by_cases hi : s.started.interest .message r = true
  · rw [hkept hi (hm hi), hholder, if_neg (fun h => h.2 (hwork.mp hi))]
  · rw [(hlost hi).1]
    by_cases hc : h.claimant = .engine .message
    · rw [if_pos ⟨hc, fun h => hi (hwork.mpr h)⟩]
      rw [hholder, Option.map_some, if_pos ((claim_started_claimant ..).trans hc), Claim.started]
      split <;> rfl
    · rw [if_neg (fun h => hc h.1)]
      simp [hholder, claim_started_claimant, hc]

theorem waiting_startedSettled {w : Claim} {v : PortId} (hm : s.started.messageHeld r) (hw : w ∈ (s.claims r).waiting)
    (hv : w.claimant = .port v) : w ∈ ((settleAll .message s.started).claims r).waiting := by
  obtain ⟨hkept, -, hlost⟩ := settles_startedSettled (r := r) (s := s)
  have hwait : w ∈ (s.started.claims r).waiting := by
    rw [started_claims]
    exact hw
  by_cases hi : s.started.interest .message r = true
  · rw [hkept hi (hm hi)]
    exact hwait
  · rw [(hlost hi).1]
    dsimp only
    exact List.mem_filter.mpr ⟨hwait, by simp [hv]⟩

end Settled

theorem tellClock_arbiter (kind : NoticeKind) (fields : List Atom) (s : State) : (tellClock kind fields s).arbiter = s.arbiter := rfl

theorem messageHeld_started_frameArrives {p : PortId} {s : State} {r : RegionId} (h : s.messageHeld r) :
    (frameArrives p s).started.messageHeld r := by
  refine messageHeld_started ?_
  rw [State.messageHeld, interest_congr (frameArrives_region ..) (by rw [frameArrives_rotation]) (by rw [frameArrives_messages])
    (by rw [frameArrives_messages]) (frameArrives_clock ..), frameArrives_claims]
  exact h

theorem answers_clockStart {p : PortId} {s : State} (hT : Taken p 27 s) (hc : s.clock.state = .stopped) (hm : 0 < s.clock.main)
    (hheld : ∀ r, s.messageHeld r) (q : Byte) :
    Answers (.clockStart p q) p q 27 (doneWith []) [.clock, .arbiter, .messages]
      (noted (s.portsOf [.scoring]) (clockNoticeOf .started s.comp.frame { s.clock with state := .running } [])) s
      (fun t => t.clock = { s.clock with state := .running }
        ∧ (∀ r, t.claims r = (settleAll .message (frameArrives p s).started).claims r)
        ∧ (∀ r, t.pass r = (s.pass r).map Pass.started)) := by
  have hstart := onClockStart_starts (s := frameArrives p s) (by rw [frameArrives_clock]; exact hc) (by rw [frameArrives_clock]; exact hm)
  have hlive (r : RegionId) : (frameArrives p s).started.messageHeld r := messageHeld_started_frameArrives (hheld r)
  have hquiet : Released (frameArrives p s).started (settleAll .message (frameArrives p s).started) := released_settleAll hlive
  have honly : Only [.arbiter, .messages] (setClock { (frameArrives p s).clock with state := .running } (frameArrives p s))
      (settleAll .message (frameArrives p s).started) := only_started.trans hquiet.only
  have hclock : (settleAll .message (frameArrives p s).started).clock = { s.clock with state := .running } := by
    rw [honly.2 .clock (by simp), ← frameArrives_clock p s]
    rfl
  refine answers_of hT (by decide) (by decide) rfl hstart ?_ (fun n => ?_) ⟨?_, fun r => ?_, fun r => ?_⟩
  · exact (only_tellClock ..).mpr (((only_setClock (by simp) _).mpr only_rfl).trans (honly.mono (by simp)))
  · have hports (m : PortId) : (settleAll .message (frameArrives p s).started).port m = (frameArrives p s).port m := by
      rw [State.port, hquiet.quiet.ports]
      exact (port_started ..)
    rw [port_tellClock, portsOf_congr (s := frameArrives p s) (honly.2 .straps (by simp)).1 (fun m => by rw [hports]), frameArrives_portsOf, hclock,
      honly.comp, hports, setClock_comp, frameArrives_comp]
  · rw [pump_clock, sendAnswer_clock, tellClock_clock, hclock]
  · rw [claims_pump]
    exact (claims_of_arbiter (sendAnswer_arbiter ..) r).trans (claims_of_arbiter (tellClock_arbiter ..) r)
  · rw [pass_pump, State.pass, sendAnswer_messages, tellClock_messages]
    exact (hquiet.pass r).trans (started_pass.trans (congrArg _ (frameArrives_pass ..)))

theorem answers_clockStop {p : PortId} {s : State} (hT : Taken p 28 s) (hc : s.clock.state = .running) (q : Byte) :
    Answers (.clockStop p q) p q 28 (doneWith []) [.clock]
      (noted (s.portsOf [.scoring]) (clockNoticeOf .stopped s.comp.frame { s.clock with state := .stopped } [.named 0])) s
      (fun t => t.clock = { s.clock with state := .stopped }) := by
  have hstop : onClockStop (frameArrives p s) = (tellClock .stopped [stopRequest] (stopClock (frameArrives p s)), .done []) :=
    if_pos (by simp [State.running, hc])
  have hportsOf : (stopClock (frameArrives p s)).portsOf [.scoring] = s.portsOf [.scoring] := frameArrives_portsOf p s _
  have hclock : (stopClock (frameArrives p s)).clock = { s.clock with state := .stopped } := by simp [stopClock, setClock]
  have hcomp : (stopClock (frameArrives p s)).comp = s.comp := frameArrives_comp p s
  refine answers_of hT (by decide) (by decide) rfl hstop ?_ (fun n => ?_) ?_
  · exact (only_tellClock ..).mpr ((only_setClock (by simp) _).mpr only_rfl)
  · rw [port_tellClock, hportsOf, hclock, hcomp]
    rfl
  · rw [pump_clock, sendAnswer_clock, tellClock_clock, hclock]

/-- Settles O15: where every wanted region carries the Message Engine's claim already, its settling only releases. -/
theorem clockStartsAndStops : Obligations.ClockStartsAndStops := by
  intro p q s
  refine ⟨fun hT hc hm hheld => ?_, fun hT hc => ?_, fun hT hc => ?_, fun hT hc => ?_, fun hT hc => ?_⟩
  · obtain ⟨t, hx, ⟨hclock, hclaims, hpass⟩, hO, hf⟩ := answers_clockStart hT hc hm hheld q
    have hlive (r : RegionId) : (frameArrives p s).started.messageHeld r := messageHeld_started_frameArrives (hheld r)
    refine ⟨t, hx, ⟨hclock, fun r g h hg hh => ?_, hpass, fun r w v hw hv => ?_⟩, hO, hf⟩
    · rw [hclaims, holder_startedSettled (hlive r) ((frameArrives_region ..).trans hg) (by rw [frameArrives_claims]; exact hh)]
      rw [frameArrives_pass, frameArrives_messages]
      rfl
    · rw [hclaims]
      exact waiting_startedSettled (hlive r) (by rw [frameArrives_claims]; exact hw) hv
  · exact answers_unmoved hT (by decide) (by decide) rfl (by simp [onClockStart, hc]; rfl)
  · refine answers_unmoved hT (by decide) (by decide) rfl ?_
    rcases hc with hc | ⟨hc, hm⟩
    · simp [onClockStart, hc]; rfl
    · simp [onClockStart, hc, hm]; rfl
  · exact answers_clockStop hT hc q
  · exact answers_unmoved hT (by decide) (by decide) rfl (by simp [onClockStop, State.running, hc]; rfl)

end Sys2Proof.Machine
end

section
/-! SUPPORT. A deferred Withdraw at the tick at which its holders leave (R38). -/

namespace Sys2Proof.Machine

-- The proofs are checked one after another: side by side they ask for more threads than the memory limit leaves.
set_option Elab.async false

/-! ### A Withdraw that waits for holders -/

section Awaits
variable {q : Byte} {removed n : Nat} {front back : List OpenRequest} {W : List Nat} {S : Nat → Prop} {x y : Port}

/-- An answer to a Withdraw that names `removed` waiting claims and `n` holders (R38). -/
def Answer.ofWithdraw (q : Byte) (removed n : Nat) (a : Answer) : Prop :=
  a.seq = q ∧ a.code = 24 ∧ a.outcome = .done ∧ a.adjusted = false ∧ a.fields = [nat removed, nat n]

/-- A port whose Withdraw, of `n` holders, waits for those of the tags `W`: with none left, its answer is the last one made. -/
inductive Port.Awaits (q : Byte) (removed n : Nat) (front back : List OpenRequest) : List Nat → Port → Prop
  | waits {W : List Nat} {x : Port} (left : Nat) (hW : W ≠ []) (hn : left + W.length = n)
      (hx : x.requests = front ++ .withdraw q W removed left :: back) : Port.Awaits q removed n front back W x
  | answered {x : Port} {l : List Answer} {a : Answer} (hx : x.requests = front ++ back) (ha : x.answers = l ++ [a])
      (hof : a.ofWithdraw q removed n) : Port.Awaits q removed n front back [] x

theorem Port.Awaits.congr (h : x.Awaits q removed n front back W) (hr : y.requests = x.requests) (ha : y.answers = x.answers) :
    y.Awaits q removed n front back W := by
  cases h with
  | waits left hW hn hx => exact .waits left hW hn (hr.trans hx)
  | answered hx hl hof => exact .answered (hr.trans hx) (ha.trans hl) hof

/-- A request that is no Withdraw hears nothing of a holder that left. -/
theorem holderLeft_requests {l : List OpenRequest} (h : ∀ d ∈ l, d.isWithdraw = false) (tag : Nat) :
    l.map (OpenRequest.holderLeft tag) = l ∧ l.filter OpenRequest.withdrawEnded = [] ∧ l.filter (fun d => !d.withdrawEnded) = l := by
  have hone (d : OpenRequest) (hd : d ∈ l) : d.holderLeft tag = d ∧ d.withdrawEnded = false := by
    have hw := h d hd
    cases d
    case withdraw => cases hw
    all_goals exact ⟨rfl, rfl⟩
  refine ⟨?_, List.filter_eq_nil_iff.mpr fun d hd => by simp [(hone d hd).2], List.filter_eq_self.mpr fun d hd => by simp [(hone d hd).2]⟩
  conv_rhs => rw [← List.map_id l]
  exact List.map_congr_left fun d hd => (hone d hd).1

/-- What a port makes of the leaving of a holder, where one request at most is a Withdraw. -/
theorem holderLeft_between {l : List OpenRequest} (hx : x.requests = front ++ l ++ back) (hother : ∀ d ∈ front ++ back, d.isWithdraw = false)
    (tag : Nat) :
    (holderLeft tag x).requests = front ++ (l.map (OpenRequest.holderLeft tag)).filter (fun d => !d.withdrawEnded) ++ back
      ∧ (holderLeft tag x).answers = x.answers
        ++ ((l.map (OpenRequest.holderLeft tag)).filter OpenRequest.withdrawEnded).flatMap (OpenRequest.answer x.noticesLost) := by
  obtain ⟨hfmap, hfended, hfopen⟩ := holderLeft_requests (fun d hd => hother d (List.mem_append_left _ hd)) tag
  obtain ⟨hbmap, hbended, hbopen⟩ := holderLeft_requests (fun d hd => hother d (List.mem_append_right _ hd)) tag
  rw [holderLeft_eq]
  dsimp only
  rw [hx, List.map_append, List.map_append, hfmap, hbmap]
  simp only [List.filter_append, hfended, hbended, hfopen, hbopen, List.nil_append, List.append_nil, and_self]

/-- A holder that left is waited for no longer. -/
theorem Port.Awaits.left (h : x.Awaits q removed n front back W) (hother : ∀ d ∈ front ++ back, d.isWithdraw = false) (tag : Nat) :
    (holderLeft tag x).Awaits q removed n front back (W.erase tag) := by
  cases h with
  | waits left hW hn hx =>
    obtain ⟨hrequests, hanswers⟩ := holderLeft_between (l := [.withdraw q W removed left]) (by rw [hx]; simp) hother tag
    by_cases htag : tag ∈ W
    · have hlength := List.length_erase_of_mem htag
      have hpos := List.length_pos_of_mem htag
      have htold : (OpenRequest.withdraw q W removed left).holderLeft tag = .withdraw q (W.erase tag) removed (left + 1) := by
        simp [OpenRequest.holderLeft, htag]
      rw [List.map_singleton, htold] at hrequests hanswers
      cases hlast : W.erase tag with
      | nil =>
        rw [hlast] at hrequests hanswers hlength
        have hleft : left + 1 = n := by
          simp only [List.length_nil] at hlength
          omega
        exact .answered (hrequests.trans (congrArg (· ++ back) (List.append_nil front))) hanswers ⟨rfl, rfl, rfl, rfl, by rw [hleft]⟩
      | cons t rest =>
        rw [hlast] at hrequests hlength
        exact .waits (left + 1) (by simp) (by omega) (hrequests.trans (List.append_assoc ..))
    · have htold : (OpenRequest.withdraw q W removed left).holderLeft tag = .withdraw q W removed left := by
        simp [OpenRequest.holderLeft, htag]
      rw [List.map_singleton, htold] at hrequests
      rw [List.erase_of_not_mem htag]
      obtain ⟨t, rest, rfl⟩ := List.exists_cons_of_ne_nil hW
      exact .waits left hW hn (hrequests.trans (List.append_assoc ..))
  | answered hx ha hof =>
    obtain ⟨hrequests, hanswers⟩ := holderLeft_between (l := []) (by rw [hx]; simp) hother tag
    exact .answered (by rw [hrequests]; simp) (by rw [hanswers]; simpa using ha) hof

/-- The holders it waits for are among those that `S` names. -/
def Port.Waits (q : Byte) (removed n : Nat) (front back : List OpenRequest) (S : Nat → Prop) (x : Port) : Prop :=
  ∃ W : List Nat, W.Nodup ∧ (∀ t ∈ W, S t) ∧ x.Awaits q removed n front back W

theorem Port.Waits.left (h : x.Waits q removed n front back S) (hother : ∀ d ∈ front ++ back, d.isWithdraw = false) (tag : Nat) :
    (holderLeft tag x).Waits q removed n front back (fun t => S t ∧ t ≠ tag) := by
  obtain ⟨W, hW, hS, hx⟩ := h
  exact ⟨W.erase tag, hW.erase tag, fun t ht => ⟨hS t (List.mem_of_mem_erase ht), fun he => hW.not_mem_erase (he ▸ ht)⟩, hx.left hother tag⟩

theorem Port.Waits.mono {T : Nat → Prop} (h : x.Waits q removed n front back S) (hST : ∀ t, S t → T t) : x.Waits q removed n front back T := by
  obtain ⟨W, hW, hS, hx⟩ := h
  exact ⟨W, hW, fun t ht => hST t (hS t ht), hx⟩

theorem Port.Waits.told (h : x.Waits q removed n front back S) (hother : ∀ d ∈ front ++ back, d.isWithdraw = false) (k : Port.Told x y) :
    y.Waits q removed n front back S := by
  induction k with
  | refl => exact h
  | note m _ ih =>
    obtain ⟨W, hW, hS, hx⟩ := ih
    obtain ⟨-, -, -, -, -, -, -, hrequests, hanswers, -⟩ := noteTo_kept m _
    exact ⟨W, hW, hS, hx.congr hrequests hanswers⟩
  | left tag _ ih => exact (ih.left hother tag).mono fun _ ht => ht.1

/-- The holders a port waits for can be read off its requests. -/
theorem Port.Awaits.unique {W' : List Nat} (h : x.Awaits q removed n front back W) (h' : x.Awaits q removed n front back W')
    (hother : ∀ d ∈ front ++ back, d.isWithdraw = false) : W = W' := by
  have hno {left : Nat} {l : List Nat} (h1 : x.requests = front ++ .withdraw q l removed left :: back) (h2 : x.requests = front ++ back) : False := by
    have := hother (.withdraw q l removed left) (by rw [← h2, h1]; simp)
    cases this
  cases h with
  | waits left hW hn hx =>
    cases h' with
    | waits left' hW' hn' hx' =>
      rw [hx] at hx'
      injection List.append_cancel_left hx' with hd
      injection hd
    | answered hx' => exact (hno hx hx').elim
  | answered hx =>
    cases h' with
    | waits left' hW' hn' hx' => exact (hno hx' hx).elim
    | answered => rfl

/-- Once each of the holders has left, the Withdraw is answered. -/
theorem answered_of_waits {tags : List Nat} (hother : ∀ d ∈ front ++ back, d.isWithdraw = false) (hne : tags ≠ [])
    (h : ∀ tag ∈ tags, x.Waits q removed n front back (fun t => t ∈ tags ∧ t ≠ tag)) : x.Awaits q removed n front back [] := by
  obtain ⟨tag, htag⟩ := List.exists_mem_of_ne_nil tags hne
  obtain ⟨W, -, hS, hx⟩ := h tag htag
  cases W with
  | nil => exact hx
  | cons t rest =>
    obtain ⟨W', -, hS', hx'⟩ := h t (hS t List.mem_cons_self).1
    have := hx.unique hx' hother
    exact absurd rfl (hS' t (this ▸ List.mem_cons_self)).2

theorem Port.Awaits.sent (h : x.Awaits q removed n front back []) :
    (startFrame x).requests = front ++ back ∧ ∃ a, (startFrame x).newest = some a ∧ a.ofWithdraw q removed n := by
  cases h with
  | waits left hW => exact absurd rfl hW
  | answered hx ha hof => 
    exact ⟨by rw [← hx]; simp [startFrame_kept], _, newest_startFrame ha, hof⟩

end Awaits

/-! ### The tick at which its holders leave -/

section Tick
variable {q : Byte} {removed n : Nat} {front back : List OpenRequest} {S : Nat → Prop} {r : RegionId} {g : Region} {h : Claim} {p : PortId}
  {s u : State}

/-- At the evaluation of a region its holder, marked by a Release, is counted among those that left. -/
theorem waits_evaluate_released (hg : u.region r = some g) (hf : g.fixed = false) (hh : (u.claims r).holder = some h) (hp : h.claimant = .port p)
    (hm : h.mark = some .dropRelease) (hother : ∀ d ∈ front ++ back, d.isWithdraw = false)
    (hw : (u.port p).Waits q removed n front back S) :
    ((evaluate r u).port p).Waits q removed n front back (fun t => S t ∧ t ≠ h.tag) := by
  have hleft : (leave r h.counted .released (u.countedAt r)).port p = holderLeft h.tag (u.port p) := by
    show (dropped r h.counted true _).port p = _
    unfold dropped
    rw [show h.counted.claimant = .port p from hp]
    exact (port_updatePort rfl p).trans (if_pos rfl)
  have htold : PortsTold (leave r h.counted .released (u.countedAt r)) (evaluate r u) := by
    rw [evaluate_leaves hg hf hh hp (leaveCause_released hm)]
    exact (portsTold_replaceStage ..).trans ((portsTold_rotationAct ..).trans ((portsTold_messageAct ..).trans (portsTold_setClaims ..)))
  refine Port.Waits.told ?_ hother (htold.port p)
  rw [hleft]
  exact hw.left hother h.tag

/-- A tick at which a holder leaves that a Withdraw waits for (R38). -/
theorem waits_timerTick (hg : s.region r = some g) (hview : g.view = .none) (hh : (s.claims r).holder = some h) (hp : h.claimant = .port p)
    (hm : h.mark = some .dropRelease) (hother : ∀ d ∈ front ++ back, d.isWithdraw = false)
    (hw : (s.port p).Waits q removed n front back S) :
    ((timerTick s).port p).Waits q removed n front back (fun t => S t ∧ t ≠ h.tag) := by
  obtain ⟨u, hu, he⟩ := timerTick_at (elsewhere_nobody r s)
  have hbefore := hw.told hother (hu.told.port p)
  have hafter := waits_evaluate_released (hu.region.trans hg) (fixed_of_view hview) (by rw [hu.claims]; exact hh) hp hm hother hbefore
  exact hafter.told hother (he.told.port p)

/-- The tick at which the holders of every tag a Withdraw waits for leave. -/
theorem withdraw_timerTick {tags : List Nat} {left : Nat} (hreq : (s.port p).requests = front ++ .withdraw q tags removed left :: back)
    (hother : ∀ d ∈ front ++ back, d.isWithdraw = false) (hne : tags ≠ []) (hnodup : tags.Nodup)
    (hmarked : ∀ tag ∈ tags, ∃ r g h, s.region r = some g ∧ g.view = .none ∧ (s.claims r).holder = some h ∧ h.claimant = .port p
      ∧ h.tag = tag ∧ h.mark = some .dropRelease) :
    ((timerTick s).port p).Awaits q removed (left + tags.length) front back [] := by
  have hw : (s.port p).Waits q removed (left + tags.length) front back (· ∈ tags) := ⟨tags, hnodup, fun _ => id, .waits left hne rfl hreq⟩
  refine answered_of_waits hother hne fun tag htag => ?_
  obtain ⟨r, g, h, hg, hview, hh, hp, rfl, hm⟩ := hmarked tag htag
  exact waits_timerTick hg hview hh hp hm hother hw

/-- A port's tags are its claims' own: no claim that waits on a region carries that of the port's holder (R20). -/
theorem not_same_holder {w : Claim} (hL : ClaimSetLaw s) (hh : (s.claims r).holder = some h) (hp : h.claimant = .port p)
    (hw : w ∈ (s.claims r).waiting) : w.same h = false := by
  have hnodup : (tagsOf p (s.claims r).live).Nodup := (List.nodup_flatMap.mp ((claimSetLaw_iff s).mp hL p).2).1 r (mem_allRegions r)
  rw [Bool.eq_false_iff, Ne, claim_same_iff]
  rintro ⟨hclaimant, htag⟩
  have hmem : h.tag ∈ tagsOf p (s.claims r).waiting :=
    List.mem_map.mpr ⟨w, List.mem_filter.mpr ⟨hw, by simp [hclaimant, hp]⟩, htag⟩
  have hsplit : tagsOf p (s.claims r).live = h.tag :: tagsOf p (s.claims r).waiting := by simp [tagsOf, RegionClaims.live, hh, hp]
  rw [hsplit] at hnodup
  exact (List.nodup_cons.mp hnodup).1 hmem

/-- A tick takes a marked holder from its region, where no claim that waits carries its tag. -/
theorem holder_timerTick (hL : ClaimSetLaw s) (hg : s.region r = some g) (hview : g.view = .none) (hh : (s.claims r).holder = some h)
    (hp : h.claimant = .port p) (hm : h.mark = some .dropRelease) : ((pump (timerTick s)).claims r).holder ≠ some h := by
  obtain ⟨-, hlacks, -⟩ := tick_drops (cause := .released) hg hview hh hp nofun nofun fun _ _ _ => leaveCause_released hm
  intro hc
  have := hlacks (fun w hw => not_same_holder hL hh hp hw) h (mem_live.mpr (.inl hc))
  rw [claim_same_refl] at this
  cases this

end Tick

end Sys2Proof.Machine
end

section
/-! PROOF. Release, Withdraw and Resume (O14). -/

namespace Sys2Proof.Machine

-- The proofs are checked one after another: side by side they ask for more threads than the memory limit leaves.
set_option Elab.async false

/-! ### A port's claim set (R20) -/

section ClaimSet
variable {s : State} {p : PortId} {e : Standing} {r : RegionId} {h : Claim}

theorem mem_claimSet_iff : e ∈ s.claimSet p ↔ e ∈ standings e.region (s.claims e.region) ∧ e.claim.claimant = .port p := by
  have hregion {r : RegionId} {x : RegionClaims} (he : e ∈ standings r x) : e.region = r := by
    rcases List.mem_append.mp he with he | he
    · cases hh : x.holder <;> simp_all
    · obtain ⟨w, -, rfl⟩ := List.mem_map.mp he
      rfl
  rw [State.claimSet, List.mem_filter, decide_eq_true_eq, State.standings, List.mem_flatMap]
  refine and_congr_left fun _ => ⟨fun ⟨r, _, he⟩ => ?_, fun he => ⟨e.region, mem_allRegions _, he⟩⟩
  rw [hregion he]
  exact he

/-- A claim that holds is the holder of its region. -/
theorem holder_of_standing (he : e ∈ standings e.region (s.claims e.region)) (hh : e.holding = true) :
    (s.claims e.region).holder = some e.claim := by
  rcases List.mem_append.mp he with he | he
  · cases hx : (s.claims e.region).holder with
    | none =>
      rw [hx] at he
      cases he
    | some h =>
      rw [hx] at he
      rw [List.mem_singleton.mp he]
  · obtain ⟨w, -, hw⟩ := List.mem_map.mp he
    rw [← hw] at hh
    cases hh

theorem holder_mem_claimSet (hh : (s.claims r).holder = some h) (hp : h.claimant = .port p) : ⟨r, true, 0, h⟩ ∈ s.claimSet p :=
  mem_claimSet_iff.mpr ⟨List.mem_append_left _ (by simp [hh]), hp⟩

/-- A port's claims that hold are those of the regions it holds. -/
theorem heldBy_of_holding (he : e ∈ s.claimSet p) (hh : e.holding = true) : (s.claims e.region).heldBy (.port p) = true := by
  obtain ⟨hs, hp⟩ := mem_claimSet_iff.mp he
  simp [RegionClaims.heldBy, holder_of_standing hs hh, hp]

theorem claimOf_mem {tag : Nat} (h : s.claimOf p tag = some e) : e ∈ s.claimSet p := List.mem_of_find?_eq_some h

end ClaimSet

/-! ### Release (R28) -/

section Release
variable {p : PortId} {tag : Nat} {s : State} {r : RegionId} {pos : Nat} {w h : Claim}

theorem answers_release {x : RegionClaims} (hT : Taken p 23 s)
    (hact : onRelease p tag (frameArrives p s) = ((frameArrives p s).setClaims r x, .done [])) (q : Byte) :
    Answers (.release p q tag) p q 23 (doneWith []) [.arbiter] untouched s (fun t => t.claims r = x ∧ ∀ n, n ≠ r → t.claims n = s.claims n) := by
  have hclaims (n : RegionId) : (pump (sendAnswer p q 23 true (doneWith []) ((frameArrives p s).setClaims r x))).claims n
      = ((frameArrives p s).setClaims r x).claims n := claims_of_arbiter (by rw [pump_arbiter, sendAnswer_arbiter]) n
  refine answers_of hT (by decide) (by decide) rfl hact (by simp) (fun _ => rfl) ⟨?_, fun n hn => ?_⟩
  · rw [hclaims, claims_setClaims_self]
  · rw [hclaims, claims_setClaims, if_neg hn, frameArrives_claims]

theorem answers_releaseWaiting (hT : Taken p 23 s) (hc : s.claimOf p tag = some ⟨r, false, pos, w⟩) (q : Byte) :
    Answers (.release p q tag) p q 23 (doneWith []) [.arbiter] untouched s
      (fun t => t.claims r = { s.claims r with waiting := (s.claims r).waiting.filter (fun x => !x.same w) }
        ∧ ∀ n, n ≠ r → t.claims n = s.claims n) :=
  answers_release hT (by simp [onRelease, hc, removeClaim]) q

theorem answers_releaseHolder (hT : Taken p 23 s) (hc : s.claimOf p tag = some ⟨r, true, pos, h⟩) (q : Byte) :
    Answers (.release p q tag) p q 23 (doneWith []) [.arbiter] untouched s
      (fun t => t.claims r = { s.claims r with holder := some { h with mark := some .dropRelease } } ∧ ∀ n, n ≠ r → t.claims n = s.claims n) := by
  have hh : (s.claims r).holder = some h := holder_of_standing (mem_claimSet_iff.mp (claimOf_mem hc)).1 rfl
  exact answers_release hT (by simp [onRelease, hc, markDrop_eq, hh]) q

end Release

/-! ### Withdraw and Resume (R38, R39) -/

section Withdraw
variable {p : PortId} {s : State}

/-- The part when a port has withdrawn: its flag is set and its claims are released. -/
def State.withdrawnBy (p : PortId) (s : State) : State := releaseClaims p (s.setPort p { s.port p with withdrawn := true })

theorem only_withdrawnBy : Only [.arbiter] s (s.withdrawnBy p) := by simp [State.withdrawnBy]

theorem port_withdrawnBy (n : PortId) : (s.withdrawnBy p).port n = onPort p (fun x => { x with withdrawn := true }) n (s.port n) :=
  (port_of_ports (ports_mapClaims ..) n).trans (port_onPort (fun x => { x with withdrawn := true }) n)

theorem claims_withdrawnBy (r : RegionId) : (s.withdrawnBy p).claims r = releasePort p (s.claims r) := by
  rw [State.withdrawnBy, releaseClaims, claims_mapClaims]
  rfl

theorem answers_withdraw (hT : Taken p 24 s) (hno : ∀ r, (s.claims r).heldBy (.port p) = false) (q : Byte) :
    Answers (.withdraw p q) p q 24 (doneWith [nat (s.claimSet p).length, nat 0]) [.arbiter] (onPort p (fun x => { x with withdrawn := true })) s
      (fun t => ∀ r, t.claims r = { s.claims r with waiting := (s.claims r).waiting.filter (fun w => !decide (w.claimant = .port p)) }) := by
  have hwaits (e : Standing) (he : e ∈ s.claimSet p) : e.holding = false := by
    rw [Bool.eq_false_iff]
    exact fun hh => absurd (heldBy_of_holding he hh) (by simp [hno])
  have hnone : (s.claimSet p).filter (fun e => e.holding) = [] := List.filter_eq_nil_iff.mpr fun e he => by simp [hwaits e he]
  have hall : (s.claimSet p).filter (fun e => !e.holding) = s.claimSet p := List.filter_eq_self.mpr fun e he => by simp [hwaits e he]
  have hact : onWithdraw p q (frameArrives p s) = ((frameArrives p s).withdrawnBy p, .done [nat (s.claimSet p).length, nat 0]) := by
    simp only [onWithdraw, frameArrives_claimSet, hnone, hall]
    rfl
  refine answers_of hT (by decide) (by decide) rfl hact only_withdrawnBy port_withdrawnBy fun r => ?_
  refine (claims_of_arbiter (s := (frameArrives p s).withdrawnBy p) (by rw [pump_arbiter, sendAnswer_arbiter]) r).trans ?_
  rw [claims_withdrawnBy, frameArrives_claims]
  simp [releasePort, hno]

theorem defers_withdraw (hT : Taken p 24 s) (hheld : ∃ r, (s.claims r).heldBy (.port p) = true) (q : Byte) :
    Defers (.withdraw p q) p
      (.withdraw q (((s.claimSet p).filter (fun e => e.holding)).map (fun e => e.claim.tag)) ((s.claimSet p).filter (fun e => !e.holding)).length 0)
      [.arbiter] (onPort p (fun x => { x with withdrawn := true })) s (ClaimsReleased p s) := by
  obtain ⟨r, hr⟩ := hheld
  have hsome : (((s.claimSet p).filter (fun e => e.holding)).map (fun e => e.claim.tag)).isEmpty = false := by
    cases hh : (s.claims r).holder with
    | none => simp [RegionClaims.heldBy, hh] at hr
    | some h =>
      have hmem := holder_mem_claimSet (p := p) hh (by simpa [RegionClaims.heldBy, hh] using hr)
      rw [Bool.eq_false_iff, Ne, List.isEmpty_iff, List.map_eq_nil_iff, List.filter_eq_nil_iff]
      exact fun hn => hn _ hmem rfl
  have hact : onWithdraw p q (frameArrives p s) = ((frameArrives p s).withdrawnBy p, .deferred (.withdraw q
      (((s.claimSet p).filter (fun e => e.holding)).map (fun e => e.claim.tag)) ((s.claimSet p).filter (fun e => !e.holding)).length 0)) := by
    simp only [onWithdraw, frameArrives_claimSet, hsome]
    rfl
  refine defers_of hT rfl hact only_withdrawnBy port_withdrawnBy (claimsReleased_of fun r => ?_)
  refine (claims_of_arbiter (s := (frameArrives p s).withdrawnBy p) (by rw [pump_arbiter, setPort_arbiter]) r).trans ?_
  rw [claims_withdrawnBy, frameArrives_claims]

theorem answers_resume (hT : Taken p 25 s) (q : Byte) :
    Answers (.resume p q) p q 25 (doneWith []) [] (onPort p (fun x => { x with withdrawn := false })) s (fun _ => True) :=
  answers_of hT (by decide) (by decide) rfl rfl (by simp) (port_onPort (fun x => { x with withdrawn := false })) trivial

end Withdraw

/-- Settles O14: a deferred Withdraw counts each of its holders at its region's evaluation, and what else the tick tells its port leaves it. -/
theorem claimsAreReleasedAndWithdrawn : Obligations.ClaimsAreReleasedAndWithdrawn := by
  refine ⟨fun p q tag s hT => ⟨fun r pos w hc => ?_, fun r pos h hc => ?_, fun hc => ?_⟩, fun p q s => ⟨fun hT hno => ?_, fun hT hheld => ?_,
    fun hT => ?_⟩,
    fun t0 p q tags removed left front back s ht hreq hother hne hnodup hmarked => ?_⟩
  · exact answers_releaseWaiting hT hc q
  · exact answers_releaseHolder hT hc q
  · exact answers_unmoved hT (by decide) (by decide) rfl (by simp [onRelease, hc]; rfl)
  · exact answers_withdraw hT hno q
  · obtain ⟨t, hx, hclaims, hO, hf⟩ := defers_withdraw hT hheld q
    exact ⟨_, _, t, hx, ⟨hclaims, rfl, rfl⟩, hO, hf⟩
  · exact answers_resume hT q
  · obtain ⟨hrequests, a, hnewest, hseq, hcode, houtcome, hadjusted, hfields⟩ := (withdraw_timerTick hreq hother hne hnodup hmarked).sent
    refine ⟨_, exec_frameTimerExpiry ht, ?_, fun hL r g h hg hview hh hp hm => holder_timerTick hL hg hview hh hp hm, a, ?_, hseq, hcode, houtcome,
      hadjusted, hfields⟩
    · rw [port_pump, hrequests]
    · rw [port_pump, hnewest]

end Sys2Proof.Machine
end


section
/-! PROOF. Picture inputs: their frames (O40), their settings and the monitors' (O10). -/

namespace Sys2Proof.Machine

/-! ### Events and requests, told by the state they leave -/

/-- An event that comes about: what is to be shown of what it does. -/
theorem leads_of {i : Instr} {s u : State} {parts : List Part} {f : PortId → Port → Port} {P : State → Prop}
    (hx : exec i s = .next (pump u)) (hO : Only parts s u) (hf : ∀ n, u.port n = f n (s.port n)) (hP : P (pump u)) :
    Leads i s s parts f P :=
  ⟨pump u, hx, hP, only_pump hO, fun n => by rw [port_pump, hf]⟩

/-- An event that is not due changes nothing. -/
theorem leads_unmoved {i : Instr} {s : State} (hx : exec i s = .next (pump s)) : Leads i s s [] untouched (fun _ => True) :=
  leads_of hx (only_refl ..) (fun _ => rfl) trivial

/-- An answered request is answered where less is asked of its next state. -/
theorem Answers.imp {i : Instr} {p : PortId} {q : Byte} {code : Nat} {r : Reply} {parts : List Part} {f : PortId → Port → Port} {s : State}
    {P Q : State → Prop} (h : Answers i p q code r parts f s P) (hPQ : ∀ t, P t → Q t) : Answers i p q code r parts f s Q := by
  obtain ⟨t, hx, hP, hrest⟩ := h
  exact ⟨t, hx, hPQ t hP, hrest⟩

/-! ### The elements of a bank, once the transmitters have looked -/

@[simp] theorem input_sendAnswer (p : PortId) (q : Byte) (code : Nat) (c : Bool) (r : Reply) (s : State) (i : InputId) :
    (sendAnswer p q code c r s).input i = s.input i := by cases i <;> rfl
@[simp] theorem monitor_sendAnswer (p : PortId) (q : Byte) (code : Nat) (c : Bool) (r : Reply) (s : State) (m : MonitorId) :
    (sendAnswer p q code c r s).monitor m = s.monitor m := rfl

/-! ### Held frames (R57) -/

@[simp] theorem monitor_setInput (s : State) (i : InputId) (x : PictureInput) (m : MonitorId) : (s.setInput i x).monitor m = s.monitor m := by
  cases i <;> rfl

@[simp] theorem port_setInput (s : State) (i : InputId) (x : PictureInput) (n : PortId) : (s.setInput i x).port n = s.port n := by
  cases i <;> rfl

@[simp] theorem input_setMonitor (s : State) (m : MonitorId) (x : Monitor) (i : InputId) : (s.setMonitor m x).input i = s.input i := by
  cases i <;> rfl

@[simp] theorem input_lower (m : MonitorId) (s : State) (i : InputId) : (lower m s).input i = s.input i := by
  cases i <;> rfl

@[simp] theorem monitor_dropHeld (i : InputId) (s : State) (m : MonitorId) : (dropHeld i s).monitor m = s.monitor m := by
  unfold dropHeld
  split <;> simp

theorem input_dropHeld (i n : InputId) (s : State) :
    (dropHeld i s).input n = if n = i ∧ s.treatedLost i = false then { s.input i with held := none } else s.input n := by
  unfold dropHeld
  by_cases h : s.treatedLost i = true
  · simp [h]
  · simp [h, input_setInput]

@[simp] theorem monitor_dropHeldAll (s : State) (m : MonitorId) : (dropHeldAll s).monitor m = s.monitor m := by simp [dropHeldAll]

/-- Each input keeps its held frame while it is treated as Lost, and no longer. -/
theorem input_dropHeldAll (s : State) (i : InputId) :
    (dropHeldAll s).input i = if (s.monitor (monLost i)).reported then s.input i else { s.input i with held := none } := by
  have hlost (n : InputId) : (dropHeld n s).treatedLost .pb = (s.monitor (monLost .pb)).reported := by simp [State.treatedLost]
  rw [dropHeldAll, input_dropHeld, hlost, input_dropHeld, input_dropHeld]
  cases i <;> simp [State.treatedLost] <;> split <;> simp_all

@[simp] theorem ports_dropHeldAll (s : State) : (dropHeldAll s).ports = s.ports := by simp [dropHeldAll, ports_dropHeld]

/-! ### A frame of a picture input (R54, R55) -/

/-- A tile of a frame laid out row by row stands at its row times the width, and its column. -/
theorem getElem?_flatMap_rows {α : Type} (f : Nat → Nat → α) {w c r : Nat} (hc : c < w) (h : Nat) (hr : r < h) :
    ((List.range h).flatMap (fun y => (List.range w).map (f y)))[r * w + c]? = some (f r c) := by
  induction h with
  | zero => omega
  | succ h ih =>
    have hlen : ((List.range h).flatMap (fun y => (List.range w).map (f y))).length = h * w := by simp [List.length_flatMap]
    rw [List.range_succ, List.flatMap_append, List.flatMap_singleton]
    rcases Nat.lt_succ_iff_lt_or_eq.mp hr with hlt | rfl
    · have : r * w + c < h * w := by nlinarith
      rw [List.getElem?_append_left (by omega), ih hlt]
    · rw [List.getElem?_append_right (by omega), hlen, Nat.add_sub_cancel_left]
      simp [hc]

/-- The tiles kept of a complete frame are those it had at their places (R54). -/
theorem cropTiles_at {width height c r : Nat} {tiles : List Nat} (hlen : tiles.length = width * height)
    (hc : c < (cropTiles width height tiles).width) (hr : r < (cropTiles width height tiles).height) :
    (cropTiles width height tiles).tiles[r * (cropTiles width height tiles).width + c]? = tiles[r * width + c]? := by
  have hc' : c < min 48 width := hc
  have hr' : r < min 16 height := hr
  have hat : r * width + c < tiles.length := by
    have hrow : (r + 1) * width ≤ height * width := Nat.mul_le_mul_right width (by omega)
    rw [hlen, Nat.mul_comm width]
    rw [Nat.succ_mul] at hrow
    omega
  refine (getElem?_flatMap_rows (fun y x => tiles.getD (y * width + x) 0) hc' _ hr').trans ?_
  simp [List.getD_eq_getElem?_getD, hat]

theorem monitor_inputArrival {width height : Nat} (h : ¬(width = 0 ∨ height = 0)) (i : InputId) (tiles : List Nat) (s : State) (m : MonitorId) :
    (inputArrival i width height tiles s).monitor m
      = if m = monLost i then { s.monitor (monLost i) with condition := false } else s.monitor m := by
  simp only [inputArrival, if_neg h, monitor_dropHeld, lower, monitor_setMonitor, monitor_setInput]

/-- The frame is the latest one, and of the reasons to hold a frame only a latched flag is left. -/
theorem input_inputArrival {width height : Nat} (h : ¬(width = 0 ∨ height = 0)) (i : InputId) (tiles : List Nat) (s : State) (n : InputId) :
    (inputArrival i width height tiles s).input n
      = if n = i then
          { s.input i with latest := some (cropTiles width height tiles), arrival := s.comp.frame
                           held := if (s.monitor (monLost i)).latched then (s.input i).held else none }
        else s.input n := by
  have hlost (x : PictureInput) : (lower (monLost i) (s.setInput i x)).treatedLost i = (s.monitor (monLost i)).latched := by
    simp [State.treatedLost, Monitor.reported, lower]
  simp only [inputArrival, if_neg h, input_dropHeld, hlost, input_lower, input_setInput]
  by_cases hn : n = i
  · cases hl : (s.monitor (monLost i)).latched <;> simp [hn, State.frame]
  · simp [hn]

/-- Settles O40: the frame replaces the latest one before Lost clears, and a held frame goes with the last reason to hold it. -/
theorem inputFramesReplaceTheLatest : Obligations.InputFramesReplaceTheLatest := by
  intro i s
  refine ⟨fun width height tiles hw hh hlen => ?_, fun width height tiles hzero => ?_, leads_unmoved rfl⟩
  · have hsize : ¬(width = 0 ∨ height = 0) := by omega
    have hports : (inputArrival i width height tiles s).ports = s.ports := by
      simp [inputArrival, hsize, ports_dropHeld, lower]
    refine leads_of rfl (only_inputArrival ..) (fun n => port_of_ports hports n) ?_
    simp only [input_pump, monitor_pump, input_inputArrival hsize, monitor_inputArrival hsize, if_pos]
    exact ⟨⟨_, rfl, rfl, rfl, fun c r hc hr => cropTiles_at hlen hc hr⟩, trivial, trivial, trivial, fun n hn => if_neg hn, trivial,
      fun m hm => if_neg hm⟩
  · refine leads_unmoved ?_
    show Host.Outcome.next (pump (inputArrival i width height tiles s)) = _
    rw [inputArrival, if_pos hzero]

/-! ### SetMonitor, ClearFaults and SetInput (R55, R60, R61) -/

theorem answers_setMonitor {p : PortId} {s : State} (hT : Taken p 15 s) (q : Byte) (m : MonitorId) (enable latch : Option Bool) :
    Answers (.setMonitor p q (.known m) enable latch) p q 15 (doneWith []) [.monitors, .inputs] untouched s
      (fun t => t.monitor m = ((frameArrives p s).monitor m).withSettings enable latch
        ∧ (∀ n, n ≠ m → t.monitor n = (frameArrives p s).monitor n)
        ∧ ∀ i, t.input i = if (t.monitor (monLost i)).reported then s.input i else { s.input i with held := none }) := by
  refine answers_of hT (by decide) (by decide) rfl rfl (by simp) (fun n => port_of_ports (by simp) n) ?_
  simp only [monitor_pump, monitor_sendAnswer, monitor_dropHeldAll, monitor_setMonitor, input_pump, input_sendAnswer, input_dropHeldAll,
    input_setMonitor, frameArrives_input]
  exact ⟨if_pos trivial, fun n hn => if_neg hn, fun _ => trivial⟩

/-- A pass over monitors that names each at most once clears those it names. -/
theorem get_clearLatches (ms : List MonitorId) (hms : ms.Nodup) (v : Vector Monitor 36) (n : MonitorId) :
    (clearLatches ms v).get n = if n ∈ ms then (v.get n).cleared else v.get n := by
  unfold clearLatches
  induction ms generalizing v with
  | nil => simp
  | cons m rest ih =>
    obtain ⟨hm, hrest⟩ := List.nodup_cons.mp hms
    rw [List.foldl_cons, ih hrest, vector_get_set]
    by_cases hn : n = m
    · subst hn; simp [hm]
    · simp [hn]

/-- The monitors a ClearFaults names (R61). -/
def clearedMonitors : Option MonitorId → List MonitorId
  | none => allMonitors
  | some m => [m]

theorem clearedMonitors_nodup (monitor : Option MonitorId) : (clearedMonitors monitor).Nodup := by
  cases monitor
  · exact allMonitors_nodup
  · exact List.nodup_singleton _

theorem mem_clearedMonitors (monitor : Option MonitorId) (m : MonitorId) : m ∈ clearedMonitors monitor ↔ monitor = none ∨ monitor = some m := by
  cases monitor <;> simp [clearedMonitors, mem_allMonitors, eq_comm]

theorem clearedMonitors_eq_filter (monitor : Option MonitorId) :
    clearedMonitors monitor = allMonitors.filter (fun m => monitor.isNone || decide (monitor = some m)) := by
  cases monitor with
  | none => simp [clearedMonitors]
  | some m => revert m; decide

/-- The latched flags of the monitors listed are cleared (R61). -/
def State.clearMonitors (s : State) (ms : List MonitorId) : State := { s with monitors := clearLatches ms s.monitors }

theorem monitor_clearMonitors (s : State) {ms : List MonitorId} (hms : ms.Nodup) (m : MonitorId) :
    (s.clearMonitors ms).monitor m = if m ∈ ms then (s.monitor m).cleared else s.monitor m := get_clearLatches ms hms s.monitors m

@[simp] theorem input_clearMonitors (s : State) (ms : List MonitorId) (i : InputId) : (s.clearMonitors ms).input i = s.input i := by
  cases i <;> rfl

theorem only_clearMonitors (s : State) (ms : List MonitorId) : Only [.monitors, .inputs] s (s.clearMonitors ms) :=
  (only_monitors (by simp) _).mpr only_rfl

theorem onClearFaults_known (monitor : Option MonitorId) (s : State) :
    onClearFaults (monitor.map .known) s
      = (dropHeldAll (s.clearMonitors (clearedMonitors monitor)),
          .done [nat ((clearedMonitors monitor).filter (fun m => (s.monitor m).latched)).length]) := by
  cases monitor <;> rfl

theorem answers_clearFaults {p : PortId} {s : State} (hT : Taken p 16 s) (q : Byte) (monitor : Option MonitorId) :
    Answers (.clearFaults p q (monitor.map .known)) p q 16
      (doneWith [nat ((clearedMonitors monitor).filter (fun m => (s.monitor m).latched)).length]) [.monitors, .inputs] untouched s
      (fun t => (∀ m, t.monitor m = if m ∈ clearedMonitors monitor then ((frameArrives p s).monitor m).cleared else (frameArrives p s).monitor m)
        ∧ ∀ i, t.input i = if (t.monitor (monLost i)).reported then s.input i else { s.input i with held := none }) := by
  have hasked := onClearFaults_known monitor (frameArrives p s)
  simp only [(frameArrives_monitor_settings p s _).1] at hasked
  refine answers_of hT (by decide) (by decide) rfl hasked ((only_dropHeldAll (by simp)).mpr (only_clearMonitors ..))
    (fun n => port_of_ports (ports_dropHeldAll _) n) ?_
  simp only [monitor_pump, monitor_sendAnswer, monitor_dropHeldAll, input_pump, input_sendAnswer, input_dropHeldAll, input_clearMonitors,
    frameArrives_input]
  exact ⟨monitor_clearMonitors _ (clearedMonitors_nodup monitor), fun _ => trivial⟩

theorem answers_setInput {p : PortId} {s : State} (hT : Taken p 14 s) (q : Byte) (i : InputId) (limit : Nat) :
    Answers (.setInput p q (.known i) limit) p q 14 (doneIf (decide (limit < 1 ∨ 60 < limit)) [nat (stored 1 60 0 (some limit))]) [.inputs]
      untouched s
      (fun t => t.input i = { s.input i with limit := stored 1 60 0 (some limit) } ∧ ∀ n, n ≠ i → t.input n = s.input n) := by
  have hstored : clamp 1 60 limit = stored 1 60 0 (some limit) := clampOr_eq_stored (by decide) 0 (some limit)
  have hhits : clampHits 1 60 limit = decide (limit < 1 ∨ 60 < limit) := by
    rw [clampHits, decide_eq_decide, clamp]
    omega
  have hasked : onSetInput (.known i) limit (frameArrives p s)
      = ((frameArrives p s).setInput i { s.input i with limit := stored 1 60 0 (some limit) },
          .reply (doneIf (decide (limit < 1 ∨ 60 < limit)) [nat (stored 1 60 0 (some limit))])) := by
    simp only [onSetInput, hstored, hhits, frameArrives_input]
    rfl
  refine answers_of hT (by decide) (by decide) rfl hasked (by simp) (fun n => by simp [untouched]) ?_
  simp only [input_pump, input_sendAnswer, input_setInput, frameArrives_input, if_true]
  exact ⟨trivial, fun n hn => if_neg hn⟩

/-- Settles O10: each request writes its monitors or its input, and a held frame goes where its input is treated as Lost no more. -/
theorem monitorAndInputRequestsAct : Obligations.MonitorAndInputRequestsAct := by
  refine ⟨fun p q m enable latch s hT => ?_, fun p q monitor s hT => ?_, fun p q i limit s hT => answers_setInput hT q i limit⟩
  · refine (answers_setMonitor hT q m enable latch).imp fun t ⟨hself, hrest⟩ => ⟨?_, hrest⟩
    obtain ⟨hlatched, henable, hlatch⟩ := frameArrives_monitor_settings p s m
    rw [hself]
    rcases latch with _ | _ | _ <;> simp only [Monitor.withSettings, hlatched, henable, hlatch, Option.getD]
  · have h := answers_clearFaults hT q monitor
    have hcomm : (fun m => (s.monitor m).latched && (monitor.isNone || decide (monitor = some m)))
        = fun m => (monitor.isNone || decide (monitor = some m)) && (s.monitor m).latched := funext fun m => Bool.and_comm ..
    simp only [mem_clearedMonitors] at h
    rw [clearedMonitors_eq_filter, List.filter_filter, hcomm] at h
    refine h.imp fun t ⟨hmon, hin⟩ => ⟨fun m => ?_, hin⟩
    rw [hmon m, ← (frameArrives_monitor_settings p s m).2.2]
    rfl

end Sys2Proof.Machine
end


section
/-! PROOF. RotationCommit: the first spot at fault, and what a build that passes becomes (O22). -/

namespace Sys2Proof.Machine

/-! ### The first of a numbered list -/

theorem find?_numbered_none {α : Type} {p : α → Bool} {l : List α} (h : ∀ x ∈ l, p x = false) :
    ((List.range l.length).zip l).find? (fun e => p e.2) = none := by
  rw [List.find?_eq_none]
  intro e he
  simp [h e.2 (List.of_mem_zip he).2]

theorem find?_numbered_some {α : Type} {p : α → Bool} {front back : List α} {x : α} (hx : p x = true) (h : ∀ y ∈ front, p y = false) :
    ((List.range (front ++ x :: back).length).zip (front ++ x :: back)).find? (fun e => p e.2) = some (front.length, x) := by
  rw [List.length_append, List.range_add, List.zip_append (by simp), List.find?_append, find?_numbered_none h, Option.none_or,
    List.length_cons, List.range_succ_eq_map]
  simp [hx]

/-! ### What a commit looks for in a spot (R50, R124) -/

/-- A commit refuses a spot: its contract is not in the plan, its asset is not Complete, or, where a commit compares them, its dimensions differ
(R50, R124). -/
def spotRefused (s : State) (plan : Plan) (x : Spot) : Bool :=
  !plan.contracts.any (fun c => decide (c.id = x.contract)) || (s.assets.complete x.asset).isNone
    || (spotMisfits s x && Config.commitComparesDimensions)

theorem badSpot_eq (s : State) (plan : Plan) :
    badSpot s plan = ((List.range plan.spots.length).zip plan.spots).find? (fun e => spotRefused s plan e.2) := rfl

theorem toRegion_eq_some {n : Nat} {r : RegionId} : toRegion n = some r ↔ r.val = n := by
  unfold toRegion
  split
  · simp [Fin.ext_iff, eq_comm]
  · next h =>
    simp only [reduceCtorEq, false_iff]
    omega

/-- The asset of a spot, where it is Complete, has the size of every defined region of the spot's set (R50). -/
def SpotFits (s : State) (x : Spot) : Prop :=
  ∀ e r g, s.assets.complete x.asset = some e → r.val ∈ x.regions → s.region r = some g → e.width = g.width ∧ e.height = g.height

theorem spotMisfits_iff (s : State) (x : Spot) : spotMisfits s x = true ↔ ¬SpotFits s x := by
  unfold spotMisfits
  split
  · next hnone => simp [SpotFits, hnone]
  next e he =>
  rw [List.any_eq_true]
  constructor
  · rintro ⟨n, hn, hmisfit⟩ hfits
    split at hmisfit
    · cases hmisfit
    next r hr =>
    split at hmisfit
    · cases hmisfit
    next g hg =>
    obtain ⟨hw, hh⟩ := hfits e r g he (by rwa [toRegion_eq_some.mp hr]) hg
    simp [hw, hh] at hmisfit
  · intro hmisfit
    simp only [SpotFits, not_forall] at hmisfit
    obtain ⟨f, r, g, hf, hr, hg, hdiffer⟩ := hmisfit
    obtain rfl : e = f := Option.some.inj (he.symm.trans hf)
    refine ⟨r.val, hr, ?_⟩
    rw [toRegion_eq_some.mpr rfl]
    simpa [hg, imp_iff_not_or] using hdiffer

theorem spotRefused_iff (s : State) (plan : Plan) (x : Spot) :
    spotRefused s plan x = true ↔ (∀ c ∈ plan.contracts, c.id ≠ x.contract) ∨ s.assets.complete x.asset = none
      ∨ ¬SpotFits s x ∧ Config.commitComparesDimensions = true := by
  simp [spotRefused, spotMisfits_iff, or_assoc]

theorem spotRefused_eq_false_iff (s : State) (plan : Plan) (x : Spot) :
    spotRefused s plan x = false ↔ (∃ c ∈ plan.contracts, c.id = x.contract) ∧ (s.assets.complete x.asset).isSome = true
      ∧ (SpotFits s x ∨ Config.commitComparesDimensions = false) := by
  rw [← Bool.not_eq_true, spotRefused_iff]
  simp only [not_or, not_and_or, not_not, not_forall, Bool.not_eq_true, Option.isSome_iff_ne_none, ne_eq, exists_prop]

/-! ### A commit that passes (R124, R125) -/

theorem frameArrives_badSpot (p : PortId) (s : State) (plan : Plan) : badSpot (frameArrives p s) plan = badSpot s plan := by
  simp [badSpot, spotMisfits]

theorem ownBuild_of_owner {p : PortId} {s : State} {b : Build} (hb : s.rotation.build = some b) (hp : b.owner = p) : ownBuild p s = .ok b := by
  simp [ownBuild, hb, hp]

theorem onRotationCommit_bad {p : PortId} {s : State} {b : Build} {n : Nat} {x : Spot} (hown : ownBuild p s = .ok b)
    (hbad : badSpot s b.plan = some (n, x)) :
    onRotationCommit p s = (s, .reply ⟨.badValue, false, [.field .spotId, nat x.id, nat (n + 1)]⟩) := by
  simp only [onRotationCommit, hown, hbad]

theorem onRotationCommit_good {p : PortId} {s : State} {b : Build} (hown : ownBuild p s = .ok b) (hbad : badSpot s b.plan = none) :
    onRotationCommit p s
      = if s.live then
          ({ s with rotation := { s.rotation with build := none, staged := some b.plan } }, .done [.named 1])
        else
          (replaceRotation b.plan causeCommit (setBuild none s), .done [.named 0, nat (droppedContracts s.rotation b.plan).length]) := by
  simp only [onRotationCommit, hown, hbad]
  rfl

/-- A replaced rotation starts anew, but for the accounts carried (R125). -/
theorem rotation_replaceRotation (plan : Plan) (cause : Nat) (s : State) :
    (replaceRotation plan cause s).rotation
      = { s.rotation with
          contracts := carriedContracts s.rotation plan, spots := plan.spots, pointer := 0, current := Vector.replicate 33 none
          offering := (replaceRotation plan cause s).rotation.offering } := by
  have h := (offered_settleAll .rotation { notifySponsors ((droppedContracts s.rotation plan).map (contractReport s.frame cause)) s with
    rotation := { (notifySponsors ((droppedContracts s.rotation plan).map (contractReport s.frame cause)) s).rotation with
      contracts := carriedContracts s.rotation plan, spots := plan.spots, pointer := 0, current := Vector.replicate 33 none } }).rotation
  simp only [notifySponsors_rotation] at h
  simp only [replaceRotation, notifySponsors_rotation]
  exact h

theorem answers_rotationCommit_refused {p : PortId} {s : State} (hT : Taken p 42 s) (q : Byte) {b : Build}
    (hb : s.rotation.build = some b) (hp : b.owner = p) {front back : List Spot} {x : Spot} (hspots : b.plan.spots = front ++ x :: back)
    (hfront : ∀ y ∈ front, spotRefused s b.plan y = false) (hx : spotRefused s b.plan x = true) :
    Answers (.rotationCommit p q) p q 42 ⟨.badValue, false, [.field .spotId, nat x.id, nat (front.length + 1)]⟩ [] untouched s
      (fun _ => True) := by
  have hown : ownBuild p (frameArrives p s) = .ok b := ownBuild_of_owner (by simpa using hb) hp
  have hbad : badSpot (frameArrives p s) b.plan = some (front.length, x) := by
    rw [frameArrives_badSpot, badSpot_eq, hspots]
    exact find?_numbered_some hx hfront
  exact answers_unmoved hT (by decide) (by decide) rfl (onRotationCommit_bad hown hbad)

/-- What a RotationCommit in Setup makes of the rotation, and its answer (R124, R125). -/
theorem rotationCommit_replaces {p : PortId} {s : State} (hT : Taken p 42 s) (q : Byte) {b : Build} (hm : s.canvas.mode = .setup)
    (hown : ownBuild p (frameArrives p s) = .ok b) (hbad : badSpot (frameArrives p s) b.plan = none) :
    ∃ t, exec (.rotationCommit p q) s = .next t
      ∧ t.rotation = { s.rotation with
          contracts := carriedContracts s.rotation b.plan, spots := b.plan.spots, build := none, pointer := 0
          current := Vector.replicate 33 none, offering := t.rotation.offering }
      ∧ ∃ a, (t.port p).newest = some a ∧ a.seq = q ∧ a.code = 42 ∧ a.outcome = .done
          ∧ a.fields = [.named 0, nat (droppedContracts s.rotation b.plan).length] := by
  have hlive : (frameArrives p s).live = false := by simp [live_of_setup hm]
  have hgood := onRotationCommit_good hown hbad
  rw [hlive, if_neg Bool.false_ne_true, frameArrives_rotation] at hgood
  refine ⟨_, exec_of_reply hT (by decide) (by decide) rfl hgood, ?_, ?_⟩
  · have hrot := rotation_replaceRotation b.plan causeCommit (setBuild none (frameArrives p s))
    simp only [pump_rotation, sendAnswer_rotation]
    refine hrot.trans ?_
    rw [show (setBuild none (frameArrives p s)).rotation = { s.rotation with build := none } from by simp [setBuild]]
    rfl
  · obtain ⟨a, hnewest, hseq, hcode, houtcome, -, hfields⟩ := newest_answered p q 42
      ⟨.done, false, [.named 0, nat (droppedContracts s.rotation b.plan).length]⟩
      (replaceRotation b.plan causeCommit (setBuild none (frameArrives p s)))
    exact ⟨a, hnewest, hseq, hcode, houtcome, hfields⟩

/-- Settles O22: the search for the first refused spot decides between the refusal and the two ways a build is taken. -/
theorem rotationCommitStagesOrReplaces : Obligations.RotationCommitStagesOrReplaces := by
  intro p q b s hT hb hp fits sound
  have hown : ownBuild p (frameArrives p s) = .ok b := ownBuild_of_owner (by simpa using hb) hp
  refine ⟨fun hsound => ?_, fun front x back hspots hfront hx => ?_⟩
  · have hbad : badSpot (frameArrives p s) b.plan = none := by
      rw [frameArrives_badSpot]
      exact find?_numbered_none fun x hx => (spotRefused_eq_false_iff ..).mpr (hsound x hx)
    refine ⟨fun hm => ?_, fun hm => ?_⟩
    · have hgood := onRotationCommit_good hown hbad
      rw [if_pos (by simp [State.live, hm])] at hgood
      exact answers_of hT (by decide) (by decide) rfl hgood ((only_rotation (by decide) _).mpr only_rfl) (fun _ => rfl) (by simp)
    · obtain ⟨t, hexec, hrot, hanswer⟩ := rotationCommit_replaces hT q hm hown hbad
      refine ⟨t, hexec, ?_, ?_, ?_, ?_, fun r => ?_, ?_, hanswer⟩
      · rw [hrot]
      · rw [hrot]
      · rw [hrot]
      · rw [hrot]
      · rw [State.currentSpot, hrot]
        simp [Vector.get_eq_getElem]
      · rw [hrot]
        rfl
  · exact answers_rotationCommit_refused hT q hb hp hspots (fun y hy => (spotRefused_eq_false_iff ..).mpr (hfront y hy))
      ((spotRefused_iff ..).mpr hx)

end Sys2Proof.Machine
end


section
/-! SUPPORT. What a frame tick makes of the compositor, the inputs and the links (R48, R52, R55, R75). -/

namespace Sys2Proof.Machine

-- The proofs are checked one after another: side by side they ask for more threads than the memory limit leaves.
set_option Elab.async false

/-! ### The compositor (R48, R52) -/

/-- Of the compositor, only the map kept of the frame before differs. -/
def CompKept (s t : State) : Prop := t.comp = { s.comp with previous := t.comp.previous }

theorem CompKept.trans {s t u : State} (h : CompKept s t) (k : CompKept t u) : CompKept s u := by
  unfold CompKept at *
  rw [k, h]

theorem compKept_of_only {parts : List Part} {s t : State} (h : Only parts s t) (hc : .comp ∉ parts := by simp) : CompKept s t := by
  rw [CompKept, h.2 .comp hc]

theorem compKept_takeRecord (d : DeliveryRecord) (s : State) : CompKept s (takeRecord d s) := by
  unfold takeRecord
  simp only
  split
  · split <;> rfl
  · rfl

theorem compKept_forceClose (k : LinkId) (s : State) : CompKept s (forceClose k s) := by
  have hset (m : MonitorId) (b : Bool) (t : State) : Only [.monitors] t (settleMonitor m b t) := by simp
  unfold forceClose
  split
  · rfl
  · have hresult : CompKept s (changeLink k (Link.result false) s) := compKept_of_only (parts := [.links, .monitors]) (by simp)
    refine hresult.trans ?_
    unfold closeFrame
    extract_lets l d t u
    have ht : CompKept _ t := compKept_takeRecord d _
    have hu : CompKept t u := compKept_of_only ((hset ..).trans (hset ..))
    exact ht.trans hu

theorem compKept_forceCloseAll (s : State) : CompKept s (forceCloseAll s) := by
  unfold forceCloseAll
  generalize allLinks = l
  induction l generalizing s with
  | nil => rfl
  | cons k rest ih => exact (compKept_forceClose k s).trans (ih _)

/-- The part when the evaluations of a tick at `n` have ended and the engines have offered again: the map is built from it (R49). -/
def State.judged (n : Nat) (s : State) : State := reoffer (forceCloseAll s).dueOffers (evaluateAll (s.begun n))

theorem frameTick_eq_compose (n : Nat) (s : State) : frameTick n s = compose (s.judged n) := rfl

theorem only_evaluateAll (s : State) : Only [.canvas, .arbiter, .rotation, .messages] s (evaluateAll s) :=
  (within_foldl_evaluate (V := nobody) allRegions allRegions_nodup (List.Subset.refl _) fun n _ => ⟨apart_nobody _, passApart_nobody n _⟩).only

theorem only_judged (n : Nat) (s : State) : Only [.canvas, .arbiter, .rotation, .messages] (s.begun n) (s.judged n) :=
  (only_evaluateAll _).trans ((only_reoffer _).mono (by simp))

theorem comp_begun (n : Nat) (s : State) :
    (s.begun n).comp
      = { s.comp with frame := s.comp.frame + 1, lastTick := n, timerStart := n, previous := (forceCloseAll s).comp.previous } := by
  have h : Only [.links, .monitors, .inputs] (advance n (forceCloseAll s)) (s.begun n) := by simp [State.begun]
  have hclose : (forceCloseAll s).comp = _ := compKept_forceCloseAll s
  rw [h.comp, advance, hclose]

theorem compose_comp (s : State) : (compose s).comp = { s.comp with map := some (buildMap s), previous := s.comp.map } := by
  have h : Only [.monitors] { s with comp := { s.comp with map := some (buildMap s), previous := s.comp.map }, score := s.score.useFlash }
      (compose s) := by simp [compose]
  rw [h.comp]

theorem comp_frameTick (n : Nat) (s : State) :
    (frameTick n s).comp
      = { s.comp with frame := s.comp.frame + 1, lastTick := n, timerStart := n, map := some (buildMap (s.judged n)), previous := s.comp.map } := by
  rw [frameTick_eq_compose, compose_comp, (only_judged n s).comp, comp_begun]

theorem frame_judged (n : Nat) (s : State) : (s.judged n).frame = s.comp.frame + 1 := by
  rw [State.frame, (only_judged n s).comp, comp_begun]

/-- What a tick leaves alone until the map is built. -/
theorem only_judged_all (n : Nat) (s : State) :
    Only [.canvas, .arbiter, .comp, .inputs, .monitors, .links, .rotation, .exposure, .messages] s (s.judged n) :=
  ((begun_begun n s).only.mono (by simp)).trans ((only_judged n s).mono (by simp))

theorem only_frameTick_parts (n : Nat) (s : State) :
    Only [.canvas, .arbiter, .comp, .inputs, .monitors, .links, .score, .rotation, .exposure, .messages] s (frameTick n s) := by
  rw [frameTick_eq_compose]
  exact ((only_judged_all n s).mono (by simp)).trans (only_compose.mono (by simp))

/-- A map built in a score flash uses a flash frame (R101). -/
theorem score_frameTick (n : Nat) (s : State) : (frameTick n s).score = s.score.useFlash := by
  have h : Only [.monitors] { s.judged n with
      comp := { (s.judged n).comp with map := some (buildMap (s.judged n)), previous := (s.judged n).comp.map }
      score := (s.judged n).score.useFlash } (compose (s.judged n)) := by simp [compose]
  have hscore : (s.judged n).score = s.score := (only_judged_all n s).2 .score (by simp)
  rw [frameTick_eq_compose, h.2 .score (by simp), hscore]

/-! ### The canvas (R33, R34) -/

/-- Of the canvas, only the regions differ. -/
def CanvasKept (s t : State) : Prop := t.canvas = { s.canvas with regions := t.canvas.regions }

theorem CanvasKept.trans {s t u : State} (h : CanvasKept s t) (k : CanvasKept t u) : CanvasKept s u := by
  unfold CanvasKept at *
  rw [k, h]

theorem canvasKept_of_only {parts : List Part} {s t : State} (h : Only parts s t) (hc : .canvas ∉ parts := by simp) : CanvasKept s t := by
  rw [CanvasKept, h.2 .canvas hc]

theorem canvasKept_evaluate (r : RegionId) (s : State) : CanvasKept s (evaluate r s) := by
  unfold evaluate
  split
  · rfl
  next g hg =>
  split
  · rfl
  have hcount : Only [.rotation, .messages] s (countPass r (countSpot r g s)) := by simp
  obtain ⟨_, -, -, hcase⟩ := arbitrate_does ((region_of_canvas hcount.canvas r).trans hg)
  have harbitrate : CanvasKept (countPass r (countSpot r g s)) (arbitrate r g (countPass r (countSpot r g s))).1 := by
    rcases hcase with ⟨hc, -⟩ | ⟨-, hc⟩ <;> rw [CanvasKept, hc]
    rfl
  have hact (v : Verdict) (u : State) : Only [.arbiter, .rotation, .messages] u (noteWaiting r (messageAct r g v (rotationAct r g v u))) := by
    simpa [noteWaiting] using (only_rotationAct r g v).trans (only_messageAct r g v)
  exact ((canvasKept_of_only hcount).trans harbitrate).trans (canvasKept_of_only (hact ..))

theorem canvasKept_evaluateAll (s : State) : CanvasKept s (evaluateAll s) := by
  unfold evaluateAll
  generalize allRegions = l
  induction l generalizing s with
  | nil => rfl
  | cons r rest ih => exact (canvasKept_evaluate r s).trans (ih _)

theorem canvasKept_judged (n : Nat) (s : State) : CanvasKept s (s.judged n) :=
  ((canvasKept_of_only (begun_begun n s).only).trans (canvasKept_evaluateAll _)).trans (canvasKept_of_only (only_reoffer _))

theorem canvasKept_frameTick (n : Nat) (s : State) : CanvasKept s (frameTick n s) := by
  rw [frameTick_eq_compose]
  exact (canvasKept_judged n s).trans (canvasKept_of_only only_compose)

/-! ### The inputs (R55, R57) -/

/-- The frame of a tick is that of its inputs' Lost tests. -/
theorem frame_inputTick (i : InputId) (s : State) : (inputTick i s).frame = s.frame := by
  have h : Only [.inputs, .monitors] s (inputTick i s) := by simp
  rw [State.frame, h.comp, State.frame]

/-- An input that is late goes Lost, and unless a latched flag held a frame already, its latest one is held (R55, R57). -/
theorem inputTick_late {b : State} {i : InputId} (hlate : inputLate (b.input i) b.frame = true)
    (hcond : (b.monitor (monLost i)).condition = false) :
    ((inputTick i b).monitor (monLost i)).condition = true
      ∧ (inputTick i b).input i
          = { b.input i with lostAt := b.frame
                             held := if (b.monitor (monLost i)).latched then (b.input i).held else (b.input i).latest } := by
  have hlost : b.treatedLost i = (b.monitor (monLost i)).latched := by simp [State.treatedLost, Monitor.reported, hcond]
  rw [inputTick, if_pos (by simp [hlate, hcond]), condition_raise, input_raise, input_setInput_self, hlost]
  exact ⟨if_pos rfl, rfl⟩

/-- An input's Lost test reads its input, its monitor and the frame. -/
theorem inputTick_congr {a b : State} {i : InputId} (hin : a.input i = b.input i) (hmon : a.monitor (monLost i) = b.monitor (monLost i))
    (hframe : a.frame = b.frame) :
    (inputTick i a).monitor (monLost i) = (inputTick i b).monitor (monLost i) ∧ (inputTick i a).input i = (inputTick i b).input i := by
  simp only [inputTick, State.treatedLost, hin, hmon, hframe]
  split
  · refine ⟨by simp only [monitor_raise, monitor_setInput, hmon], ?_⟩
    rw [input_raise, input_raise, input_setInput_self, input_setInput_self]
    rfl
  · exact ⟨hmon, hin⟩

/-- Each input's Lost test is its own. -/
theorem inputTicks_at (i : InputId) (b : State) :
    (inputTick .pb (inputTick .pa b)).monitor (monLost i) = (inputTick i b).monitor (monLost i)
      ∧ (inputTick .pb (inputTick .pa b)).input i = (inputTick i b).input i := by
  cases i with
  | pa => exact inputTick_other (by decide)
  | pb =>
    obtain ⟨hmon, hin⟩ := inputTick_other (b := b) (i := .pb) (j := .pa) (by decide)
    exact inputTick_congr hin hmon (frame_inputTick ..)

theorem monitor_advance (n : Nat) (s : State) (m : MonitorId) : (advance n s).monitor m = s.monitor m := rfl

theorem input_advance (n : Nat) (s : State) (i : InputId) : (advance n s).input i = s.input i := by cases i <;> rfl

theorem frame_advance (n : Nat) (s : State) : (advance n s).frame = s.comp.frame + 1 := rfl

theorem input_of_inputs {s t : State} (h : t.inputs = s.inputs) (i : InputId) : t.input i = s.input i := by
  cases i <;> simp [State.input, h]

theorem monitor_of_monitors {s t : State} (h : t.monitors = s.monitors) (m : MonitorId) : t.monitor m = s.monitor m := by
  simp [State.monitor, h]

/-- The compositor's part of a tick leaves the Lost conditions alone. -/
theorem monitor_compose_lost (s : State) (i : InputId) : (compose s).monitor (monLost i) = s.monitor (monLost i) := by
  have hshort (j : InputId) : monLost i ≠ monShort j := by cases i <;> cases j <;> decide
  have hsettle (j : InputId) (u : State) : (settleShort j u).monitor (monLost i) = u.monitor (monLost i) := by
    unfold settleShort
    split
    · rw [monitor_raise, if_neg fun h => hshort j h.1]
    · rw [lower, monitor_setMonitor, if_neg (hshort j)]
  rw [compose, hsettle, hsettle]
  rfl

/-- After the inputs' Lost tests a tick leaves their Lost monitors and the inputs alone. -/
theorem input_frameTick (n : Nat) (s : State) (i : InputId) :
    (frameTick n s).monitor (monLost i) = (inputTick i (advance n (forceCloseAll s))).monitor (monLost i)
      ∧ (frameTick n s).input i = (inputTick i (advance n (forceCloseAll s))).input i := by
  have hjudged := only_judged n s
  have hlinks : Behind (inputTick .pb (inputTick .pa (advance n (forceCloseAll s)))) (s.begun n) := behind_linksTick _
  obtain ⟨hmon, hin⟩ := inputTicks_at i (advance n (forceCloseAll s))
  rw [frameTick_eq_compose, monitor_compose_lost, monitor_of_monitors (hjudged.2 .monitors (by simp)), hlinks.lost i, hmon,
    input_of_inputs (only_compose.2 .inputs (by simp)), input_of_inputs (hjudged.2 .inputs (by simp)),
    input_of_inputs (hlinks.only.2 .inputs (by simp)), hin]
  exact ⟨rfl, rfl⟩

/-- What a tick makes of an input that goes Lost at it (R55, R57). -/
theorem input_frameTick_late {s : State} {i : InputId} (n : Nat) (hlate : inputLate (s.input i) (s.comp.frame + 1) = true)
    (hcond : (s.monitor (monLost i)).condition = false) :
    ((frameTick n s).monitor (monLost i)).condition = true
      ∧ (frameTick n s).input i
          = { s.input i with lostAt := s.comp.frame + 1
                             held := if (s.monitor (monLost i)).latched then (s.input i).held else (s.input i).latest } := by
  have hbehind := behind_forceCloseAll s
  have hmon : (advance n (forceCloseAll s)).monitor (monLost i) = s.monitor (monLost i) := by rw [monitor_advance, hbehind.lost]
  have hin : (advance n (forceCloseAll s)).input i = s.input i := by
    rw [input_advance, input_of_inputs (hbehind.only.2 .inputs (by simp))]
  have hframe : (advance n (forceCloseAll s)).frame = s.comp.frame + 1 := by rw [frame_advance, hbehind.frame]
  obtain ⟨hrises, hheld⟩ := inputTick_late (b := advance n (forceCloseAll s)) (i := i) (by rw [hin, hframe, hlate]) (by rw [hmon, hcond])
  rw [hin, hmon, hframe] at hheld
  rw [(input_frameTick n s i).1, (input_frameTick n s i).2]
  exact ⟨hrises, hheld⟩

/-! ### The links (R73, R75) -/

theorem link_changeLink (k n : LinkId) (f : Link → Link) (s : State) :
    (changeLink k f s).link n = if n = k then f (s.link k) else s.link n := by
  have h : Only [.monitors] (s.setLink k (f (s.link k))) (changeLink k f s) := by
    simp only [changeLink]
    split <;> simp
  rw [State.link, h.2 .links (by simp)]
  exact link_setLink ..

/-- Every link is Down or not as it was, and has its last status from the frame it had it from. -/
def LinksStand (s t : State) : Prop := ∀ n, (t.link n).down = (s.link n).down ∧ (t.link n).lastStatus = (s.link n).lastStatus

theorem LinksStand.trans {s t u : State} (h : LinksStand s t) (k : LinksStand t u) : LinksStand s u :=
  fun n => ⟨(k n).1.trans (h n).1, (k n).2.trans (h n).2⟩

theorem lastStatus_endSlot (l : Link) : l.endSlot.lastStatus = l.lastStatus := by
  unfold Link.endSlot
  split <;> rfl

theorem lastStatus_result (ack : Bool) (l : Link) : (l.result ack).lastStatus = l.lastStatus := by
  unfold Link.result
  split
  · rfl
  · simp only
    split
    · split <;> rfl
    · split
      · rfl
      · unfold Link.nacked
        simp only
        split <;> rfl

theorem linksStand_setLink {k : LinkId} {x : Link} {s : State} (hd : x.down = (s.link k).down) (hs : x.lastStatus = (s.link k).lastStatus) :
    LinksStand s (s.setLink k x) := by
  intro n
  rw [link_setLink]
  split
  · next hn => exact ⟨hn ▸ hd, hn ▸ hs⟩
  · exact ⟨rfl, rfl⟩

theorem linksStand_of_only {parts : List Part} {s t : State} (h : Only parts s t) (hl : .links ∉ parts := by simp) : LinksStand s t := by
  intro n
  rw [State.link, h.2 .links hl]
  exact ⟨rfl, rfl⟩

theorem linksStand_forceClose (k : LinkId) (s : State) : LinksStand s (forceClose k s) := by
  unfold forceClose
  split
  · exact fun _ => ⟨rfl, rfl⟩
  · have hresult : LinksStand s (changeLink k (Link.result false) s) := by
      intro n
      rw [link_changeLink]
      split
      · next hn => exact hn ▸ ⟨(link_result ..).2, lastStatus_result ..⟩
      · exact ⟨rfl, rfl⟩
    refine hresult.trans ?_
    unfold closeFrame
    extract_lets l d t u
    have hrecord : LinksStand _ ((changeLink k (Link.result false) s).setLink k { l with record := some d }) :=
      linksStand_setLink (link_endSlot _).2 (lastStatus_endSlot _)
    have ht : LinksStand _ t := hrecord.trans (linksStand_of_only (parts := [.rotation, .exposure, .comp]) (by simp [t]))
    have hu : LinksStand t u := linksStand_of_only (parts := [.monitors]) (by simp [u])
    exact (ht.trans hu).trans (linksStand_setLink rfl rfl)

theorem linksStand_forceCloseAll (s : State) : LinksStand s (forceCloseAll s) := by
  unfold forceCloseAll
  generalize allLinks = l
  induction l generalizing s with
  | nil => exact fun _ => ⟨rfl, rfl⟩
  | cons k rest ih => exact (linksStand_forceClose k s).trans (ih _)

theorem link_linkTick (k n : LinkId) (s : State) : (linkTick k s).link n = if n = k then (s.link k).tick s.frame else s.link n := by
  have h : Only [.monitors] (s.setLink k ((s.link k).tick s.frame)) (linkTick k s) := by
    simp only [linkTick]
    split <;> simp
  rw [State.link, h.2 .links (by simp)]
  exact link_setLink ..

theorem frame_linkTick (k : LinkId) (s : State) : (linkTick k s).frame = s.frame := (behind_linkTick k s).frame

theorem link_foldl_linkTick (ks : List LinkId) (hks : ks.Nodup) (s : State) (n : LinkId) :
    (ks.foldl (fun t k => linkTick k t) s).link n = if n ∈ ks then (s.link n).tick s.frame else s.link n := by
  induction ks generalizing s with
  | nil => simp
  | cons k rest ih =>
    obtain ⟨hk, hrest⟩ := List.nodup_cons.mp hks
    rw [List.foldl_cons, ih hrest, link_linkTick, frame_linkTick]
    by_cases hn : n = k
    · subst hn; simp [hk]
    · simp [hn]

theorem link_linksTick (s : State) (n : LinkId) : (linksTick s).link n = (s.link n).tick s.frame := by
  rw [linksTick, link_foldl_linkTick _ allLinks_nodup, if_pos (mem_allLinks n)]

/-- A tick leaves a link as its own part of the tick makes it of the link that has closed its frame. -/
theorem link_frameTick (n : Nat) (s : State) (k : LinkId) :
    (frameTick n s).link k = ((forceCloseAll s).link k).tick (s.comp.frame + 1) := by
  have hafter : (frameTick n s).links = (s.begun n).links := by
    rw [frameTick_eq_compose]
    exact (only_compose.2 .links (by simp)).trans ((only_judged n s).2 .links (by simp))
  have hbefore : Only [.comp, .inputs, .monitors] (forceCloseAll s) (inputTick .pb (inputTick .pa (advance n (forceCloseAll s)))) := by simp
  rw [State.link, hafter]
  refine (link_linksTick _ k).trans ?_
  rw [frame_inputTick, frame_inputTick, State.link, hbefore.2 .links (by simp)]
  show ((forceCloseAll s).link k).tick ((forceCloseAll s).comp.frame + 1) = _
  rw [(behind_forceCloseAll s).frame]

/-- A link that goes Down at a tick (R75, R76). -/
theorem link_tick_goesDown {f : FrameNo} {l : Link} (h : l.goesDown f = true) :
    (l.tick f).down = true ∧ (l.tick f).hold = 0 ∧ (l.tick f).room = true ∧ (l.tick f).probe = true := by
  simp only [Link.tick, h, if_true]
  split <;> exact ⟨rfl, rfl, rfl, rfl⟩

end Sys2Proof.Machine
end


section
/-! PROOF. Frame ticks and genlock (O32), and what ends or goes wrong at them (O39). -/

namespace Sys2Proof.Machine

-- The proofs are checked one after another: side by side they ask for more threads than the memory limit leaves.
set_option Elab.async false

/-! ### Ticks (R45, R47, R48) -/

/-- A tick, as it leaves the frame, the maps and everything that it does not touch. -/
structure TickDone (s t : State) : Prop where
  frame : t.comp.frame = s.comp.frame + 1
  map : ∃ m, t.comp.map = some m ∧ m.frame = s.comp.frame + 1
  previous : t.comp.previous = s.comp.map
  clock : t.clock = s.clock
  captures : t.captures = s.captures
  mode : t.canvas.mode = s.canvas.mode
  colours : t.canvas.colours = s.canvas.colours
  pending : t.pending = s.pending
  records : SameRecords s t

theorem buildMap_frame (s : State) : (buildMap s).frame = s.frame := rfl

theorem tickDone_frameTick (n : Nat) (s : State) : TickDone s (frameTick n s) := by
  have hcomp := comp_frameTick n s
  have honly := only_frameTick_parts n s
  have hcanvas : (frameTick n s).canvas = _ := canvasKept_frameTick n s
  have hframe : (buildMap (s.judged n)).frame = s.comp.frame + 1 := by rw [buildMap_frame, frame_judged]
  exact ⟨by rw [hcomp], ⟨buildMap (s.judged n), by rw [hcomp], hframe⟩, by rw [hcomp], honly.2 .clock (by simp), honly.2 .captures (by simp),
    by rw [hcanvas], by rw [hcanvas], honly.1, (ticked_frameTick n s).records⟩

/-- The compositor may have been written before the tick, but for its frame and its map. -/
theorem TickDone.of {s u t : State} (h : TickDone u t) (hu : Only [.comp, .monitors] s u) (hframe : u.comp.frame = s.comp.frame)
    (hmap : u.comp.map = s.comp.map) : TickDone s t := by
  obtain ⟨hf, hm, hp, hk, hx, hmode, hcolours, hpending, hrecords⟩ := h
  rw [hframe] at hf hm
  have hcanvas := hu.canvas
  exact ⟨hf, hm, hp.trans hmap, hk.trans (hu.2 .clock (by simp)), hx.trans (hu.2 .captures (by simp)), by rw [hmode, hcanvas],
    by rw [hcolours, hcanvas], hpending.trans hu.1, (sameRecords_of_canvas hcanvas).trans hrecords⟩

/-- The transmitters touch nothing of it (R195). -/
theorem TickDone.pump {s t : State} (h : TickDone s t) : TickDone s (pump t) :=
  ⟨h.frame, h.map, h.previous, h.clock, h.captures, h.mode, h.colours, h.pending, h.records⟩

theorem lockTo_comp (n : Nat) (s : State) : (lockTo n s).comp = { s.comp with lastEdge := n, locked := true } := by
  unfold lockTo
  split <;> rfl

theorem ports_lockTo (n : Nat) (s : State) : (lockTo n s).ports = s.ports := by
  unfold lockTo
  split <;> rfl

/-- An edge clears the Genlock condition that stood in Freerun (R47). -/
theorem lockTo_clears {s : State} (n : Nat) (h : s.comp.locked = false) : ((lockTo n s).monitor monGenlock).condition = false := by
  rw [lockTo, if_neg (by simp [h]), condition_lower, if_pos rfl]

/-- An edge that time has reached. -/
theorem genlockEdge_reached {t0 : Nat} {s : State} (htick : s.comp.lastTick ≤ t0) (hedge : s.comp.lastEdge ≤ t0)
    (htimer : s.comp.timerStart ≤ t0) :
    genlockEdge t0 s
      = if edgeTicks s t0 then frameTick t0 (lockTo t0 s) else lockTo t0 { s with comp := { s.comp with timerStart := t0 } } := by
  have hseen : ¬t0 < s.comp.seen := by
    simp only [Compositor.seen]
    omega
  rw [genlockEdge, if_neg hseen]

theorem leads_timer_early {t0 : Nat} {s : State} (h : t0 < s.comp.timerStart + (if s.ratesel then 166667 else 200000)) :
    Leads (.frameTimerExpiry t0) s s [] untouched (fun _ => True) := by
  refine leads_unmoved ?_
  show Host.Outcome.next (pump (timerExpiry t0 s)) = _
  have hdue : timerDue s t0 = false := decide_eq_false (Nat.not_le.mpr h)
  rw [timerExpiry, hdue, if_neg Bool.false_ne_true]

/-- An edge too early for a tick restarts the timer and locks (R45, R47). -/
theorem leads_edge_early {t0 : Nat} {s : State} (htick : s.comp.lastTick ≤ t0) (hedge : s.comp.lastEdge ≤ t0) (htimer : s.comp.timerStart ≤ t0)
    (h : 2 * (t0 - s.comp.lastTick) < (if s.ratesel then 166667 else 200000)) :
    Leads (.genlockEdge t0) s s [.comp, .monitors] untouched (fun t =>
      t.comp = { s.comp with timerStart := t0, lastEdge := t0, locked := true }
        ∧ (s.comp.locked = false → (t.monitor monGenlock).condition = false)) := by
  have hnot : edgeTicks s t0 = false := decide_eq_false (Nat.not_le.mpr h)
  have hexec : exec (.genlockEdge t0) s = .next (pump (lockTo t0 { s with comp := { s.comp with timerStart := t0 } })) := by
    show Host.Outcome.next (pump (genlockEdge t0 s)) = _
    rw [genlockEdge_reached htick hedge htimer, hnot, if_neg Bool.false_ne_true]
  refine leads_of hexec (by simp) (fun n => port_of_ports (ports_lockTo ..) n) ⟨?_, fun hfree => ?_⟩
  · rw [pump_comp, lockTo_comp]
  · exact lockTo_clears t0 hfree

/-- Settles O32: both causes make the same tick, the edge after it has locked the part. -/
theorem ticksAdvanceTheFrame : Obligations.TicksAdvanceTheFrame := by
  intro t0 s ticked period
  have hticked {t : State} (h : TickDone s t) : ticked t :=
    ⟨h.frame, h.map, h.previous, h.clock, h.captures, h.mode, h.colours, h.pending, h.records⟩
  refine ⟨fun hdue => ?_, leads_timer_early, fun htick hedge htimer hhalf => ?_, leads_edge_early⟩
  · refine ⟨_, exec_frameTimerExpiry hdue, hticked (tickDone_frameTick ..).pump, ?_⟩
    rw [pump_comp, timerTick, comp_frameTick]
    exact ⟨rfl, rfl, rfl, rfl⟩
  · have hyes : edgeTicks s t0 = true := decide_eq_true hhalf
    have hexec : exec (.genlockEdge t0) s = .next (pump (frameTick t0 (lockTo t0 s))) := by
      show Host.Outcome.next (pump (genlockEdge t0 s)) = _
      rw [genlockEdge_reached htick hedge htimer, if_pos hyes]
    have hlock := lockTo_comp t0 s
    refine ⟨_, hexec, hticked ((tickDone_frameTick ..).of (by simp) (by rw [hlock]) (by rw [hlock])).pump, ?_⟩
    rw [pump_comp, comp_frameTick, hlock]
    exact ⟨rfl, rfl, rfl, rfl⟩

/-! ### Events that a tick brings about (R55, R75, R101) -/

/-- An event that is due takes the tick of the frame timer. -/
theorem exec_tickIf {i : Instr} {due : Bool} {s : State} (hx : exec i s = .next (pump (tickIf due s))) (h : due = true) :
    exec i s = .next (pump (timerTick s)) := by
  rw [hx, tickIf, if_pos h]

theorem tickDone_timerTick (s : State) : TickDone s (timerTick s) := by
  unfold timerTick
  exact tickDone_frameTick ..

/-- The last flash frame is used (R101). -/
theorem scoreFlashEnd_ends {s : State} (h : s.score.flashLeft = 1) :
    ∃ t, exec .scoreFlashEnd s = .next t ∧ t.comp.frame = s.comp.frame + 1
      ∧ t.score = { s.score with flashLeft := 0, flashUsed := s.score.flashUsed + 1 } := by
  refine ⟨_, exec_tickIf rfl (decide_eq_true h), (tickDone_timerTick s).pump.frame, ?_⟩
  rw [pump_score, timerTick, score_frameTick, Score.useFlash, if_pos (by omega), h]

/-- An input that is late goes Lost (R55, R57). -/
theorem inputLost_rises {s : State} {i : InputId} (hlate : (s.input i).limit < framesSince (s.comp.frame + 1) (s.input i).arrival)
    (hcond : (s.monitor (monLost i)).condition = false) :
    ∃ t, exec (.inputLost i) s = .next t ∧ t.comp.frame = s.comp.frame + 1
      ∧ (t.monitor (monLost i)).condition = true ∧ (t.input i).lostAt = s.comp.frame + 1 ∧ (t.input i).latest = (s.input i).latest
      ∧ (t.input i).held = if (s.monitor (monLost i)).latched then (s.input i).held else (s.input i).latest := by
  have hl : inputLate (s.input i) (s.comp.frame + 1) = true := decide_eq_true hlate
  have hdue : lostRises s i = true := by
    simp only [lostRises, hcond, Bool.not_false, Bool.and_true]
    exact hl
  obtain ⟨hrises, hinput⟩ := input_frameTick_late (s.comp.timerStart + s.period) hl hcond
  refine ⟨_, exec_tickIf rfl hdue, (tickDone_timerTick s).pump.frame, ?_⟩
  rw [monitor_pump, input_pump, timerTick, hinput]
  exact ⟨hrises, rfl, rfl, rfl⟩

/-- A link with no status in eight frames goes Down, and its condition with it, as `MonitorLaw` has it (R75, R79). -/
theorem linkDown_falls {s : State} {k : LinkId} (hup : (s.link k).down = false)
    (hlate : 8 < framesSince (s.comp.frame + 1) (s.link k).lastStatus) :
    ∃ t, exec (.linkDown k) s = .next t ∧ t.comp.frame = s.comp.frame + 1
      ∧ (t.link k).down = true ∧ (t.link k).hold = 0 ∧ (t.link k).room = true ∧ (t.link k).probe = true
      ∧ (t.monitor (monDown k)).condition = true := by
  have hdue : linkFalls s k = true := by
    simp only [linkFalls, Link.goesDown, hup, Bool.not_false, Bool.true_and]
    exact decide_eq_true hlate
  obtain ⟨hdown, hstatus⟩ := linksStand_forceCloseAll s k
  have hgoes : ((forceCloseAll s).link k).goesDown (s.comp.frame + 1) = true := by
    rw [Link.goesDown, hdown, hstatus]
    exact hdue
  have hlink : (timerTick s).link k = ((forceCloseAll s).link k).tick (s.comp.frame + 1) := by rw [timerTick, link_frameTick]
  obtain ⟨hfalls, hhold, hroom, hprobe⟩ := link_tick_goesDown hgoes
  have hpresent : (timerTick s).present (.down k) = true := by
    simp only [State.present, hlink, (link_tick ..).1, hfalls, Bool.and_self]
  refine ⟨_, exec_tickIf rfl hdue, (tickDone_timerTick s).pump.frame, ?_⟩
  rw [link_pump, monitor_pump, hlink]
  refine ⟨hfalls, hhold, hroom, hprobe, ?_⟩
  rcases (steady_timerTick s).monitors.follows (.down k) with ⟨-, hsame⟩ | hcond
  · rw [hpresent, State.present, hup, Bool.and_false] at hsame
    cases hsame
  · exact hcond.trans hpresent

/-! ### Genlock lost (R46, R60) -/

/-- A condition that rises, and tells the director port where it was not reported before (R60). -/
theorem port_raise_absent {m : MonitorId} {s : State} (hcond : (s.monitor m).condition = false) (r : Option RegionId) (n : PortId) :
    (raise m r s).port n
      = (if (s.monitor m).latched = false ∧ (s.monitor m).enable = true then noted [s.director] (sourceFault m s.frame r) else untouched) n
          (s.port n) := by
  have hreported : (s.monitor m).reported = (s.monitor m).latched := by simp [Monitor.reported, hcond]
  simp only [raise, hcond, hreported, Bool.false_eq_true, if_false, Bool.and_eq_true, Bool.not_eq_true']
  split
  · rw [port_notify, noted]
    simp only [List.mem_singleton]
    rfl
  · rfl

theorem leads_genlockLost {t0 : Nat} {s : State} (hlocked : s.comp.locked = true)
    (hdue : s.comp.lastEdge + 3 * (if s.ratesel then 166667 else 200000) ≤ t0) (hcond : (s.monitor monGenlock).condition = false) :
    Leads (.genlockLost t0) s s [.comp, .monitors]
      (if (s.monitor monGenlock).latched = false ∧ (s.monitor monGenlock).enable = true then
        noted [s.director] { kind := .sourceFault, fields := [.named 4, .num s.comp.frame.toNat, .absent] } else untouched)
      (fun t => t.comp = { s.comp with locked := false }
        ∧ t.monitor monGenlock = { (s.monitor monGenlock) with
            condition := true, latched := (s.monitor monGenlock).latched || (s.monitor monGenlock).latch }
        ∧ ∀ m, m ≠ monGenlock → t.monitor m = s.monitor m) := by
  have hloss : lossDue s t0 = true := by
    rw [lossDue, hlocked, Bool.true_and]
    exact decide_eq_true hdue
  have hu : genlockLoss t0 s = raise monGenlock none { s with comp := { s.comp with locked := false } } := by
    rw [genlockLoss, if_pos hloss]
  have hcomp : (genlockLoss t0 s).comp = { s.comp with locked := false } := by
    have h : Only [.monitors] { s with comp := { s.comp with locked := false } } (genlockLoss t0 s) := by simp [hu]
    rw [h.comp]
  refine leads_of rfl (only_genlockLoss t0) (fun n => ?_) ⟨?_, ?_, fun m hm => ?_⟩
  · rw [hu]
    exact port_raise_absent (s := { s with comp := { s.comp with locked := false } }) hcond none n
  · rw [pump_comp, hcomp]
  · rw [monitor_pump, hu, monitor_raise, if_pos ⟨rfl, hcond⟩]
    rfl
  · rw [monitor_pump, hu, monitor_raise, if_neg fun h => hm h.1]
    rfl

theorem leads_genlockLost_early {t0 : Nat} {s : State} (h : t0 < s.comp.lastEdge + 3 * (if s.ratesel then 166667 else 200000)) :
    Leads (.genlockLost t0) s s [] untouched (fun _ => True) := by
  refine leads_unmoved ?_
  show Host.Outcome.next (pump (genlockLoss t0 s)) = _
  have hloss : lossDue s t0 = false := by
    rw [lossDue, Bool.and_eq_false_iff]
    exact .inr (decide_eq_false (Nat.not_le.mpr h))
  rw [genlockLoss, hloss, if_neg Bool.false_ne_true]

/-- Settles O39: the first three take the tick in which they come about, the last is a step of its own. -/
theorem flashesEndAndFaultsRise : Obligations.FlashesEndAndFaultsRise :=
  ⟨fun _ => ⟨scoreFlashEnd_ends, fun _ => inputLost_rises, fun _ => linkDown_falls⟩,
    fun _ _ => ⟨leads_genlockLost, leads_genlockLost_early⟩⟩

end Sys2Proof.Machine
end


section
/-! PROOF. The views of the Clock Unit: their texts, and the line of glyphs a tick's map has for them (O36). -/

namespace Sys2Proof.Machine

-- The proofs are checked one after another: side by side they ask for more threads than the memory limit leaves.
set_option Elab.async false

/-! ### Numbers in decimal (R102, R103) -/

theorem decimalOf_lt_ten {n : Nat} (h : n < 10) : decimalOf n = [48 + n] := by
  simp [decimalOf, Nat.toDigits_of_lt_base h, Nat.toNat_digitChar_of_lt_ten h]

theorem decimalOf_ge_ten {n : Nat} (h : 10 ≤ n) : decimalOf n = decimalOf (n / 10) ++ [48 + n % 10] := by
  simp [decimalOf, Nat.toDigits_of_base_le (by decide) h, Nat.toNat_digitChar_of_lt_ten (Nat.mod_lt n (by decide))]

/-- As many digits as the number has are enough. -/
theorem digits_eq_decimalOf (fuel : Nat) {n : Nat} (h : n < 10 ^ (fuel + 1)) : digits (fuel + 1) n = decimalOf n := by
  induction fuel generalizing n with
  | zero => rw [digits, if_pos (by simpa using h), decimalOf_lt_ten (by simpa using h)]
  | succ fuel ih =>
    rw [digits]
    split
    · next hlt => rw [decimalOf_lt_ten hlt]
    · next hge => rw [ih (by rw [Nat.pow_succ] at h; omega), decimalOf_ge_ten (Nat.not_lt.mp hge)]

theorem decimal_eq {n : Nat} (h : n < 10 ^ 10) : decimal n = decimalOf n := digits_eq_decimalOf 9 h

theorem tenths_eq {ms : Nat} (h : ms < 10 ^ 10) : tenths ms = tenthsOf ms := by
  have hsec : ms / 100 / 10 = ms / 1000 := Nat.div_div_eq_div_mul ms 100 10
  rw [tenths, tenthsOf, hsec, decimal_eq (by omega), decimalOf_lt_ten (Nat.mod_lt _ (by decide)), List.append_assoc]
  rfl

/-! ### What the views show (R102, R103) -/

theorem ceilDiv_thousand (n : Nat) : ceilDiv n 1000 = (n + 999) / 1000 := rfl

theorem mainClockText_eq {k : Nat} (h : k ≤ 5999999) :
    mainClockText k
      = if 60000 ≤ k then
          decimalOf ((k + 999) / 1000 / 60) ++ [58, 48 + (k + 999) / 1000 % 60 / 10, 48 + (k + 999) / 1000 % 60 % 10]
        else tenthsOf k := by
  have hten : (k + 999) / 1000 % 60 / 10 % 10 = (k + 999) / 1000 % 60 / 10 := Nat.mod_eq_of_lt (by omega)
  rw [mainClockText, ceilDiv_thousand, twoDigits, hten, decimal_eq (by omega), tenths_eq (by omega), List.append_assoc]
  rfl

theorem possessionText_eq {p : Nat} (h : p ≤ 99999) :
    possessionText p = if 5000 ≤ p then decimalOf ((p + 999) / 1000) else tenthsOf p := by
  rw [possessionText, ceilDiv_thousand, decimal_eq (by omega), tenths_eq (by omega)]

theorem scoreText_eq {x : Score} (hh : x.home ≤ 999) (ha : x.away ≤ 999) :
    scoreText x
      = (if x.arrow = .home then [60] else []) ++ decimalOf x.home ++ [45] ++ decimalOf x.away ++ (if x.arrow = .away then [62] else []) := by
  rw [scoreText, decimal_eq (by omega), decimal_eq (by omega)]

theorem viewText_period {k : Clock} (x : Score) (h : k.period ≤ 9) : viewText k x .period = [48 + k.period] := by
  rw [viewText, decimal_eq (by omega), decimalOf_lt_ten (by omega)]

/-! ### A line of glyphs (R104) -/

/-- The advance width of the glyph at a place of a line. -/
def lineAdvance (widths codes : List Nat) (i : Nat) : Nat := widths.getD (codes.getD i 0) 0

/-- The room the glyphs before a place take. -/
def lineBefore (widths codes : List Nat) (i : Nat) : Nat := ((List.range i).map (lineAdvance widths codes)).sum

/-- The glyph at a place of a line whose left edge is `left`. -/
def placedGlyph (a : Assets) (set : Nat) (widths codes : List Nat) (top left i : Nat) : Glyph :=
  { code := codes.getD i 0, left := ((left + lineBefore widths codes i : Nat) : Int), top := top, advance := lineAdvance widths codes i
    drawing := a.drawing set (codes.getD i 0) }

theorem lineBefore_zero (widths codes : List Nat) : lineBefore widths codes 0 = 0 := rfl

theorem lineAdvance_cons_succ (widths : List Nat) (code : Nat) (rest : List Nat) (i : Nat) :
    lineAdvance widths (code :: rest) (i + 1) = lineAdvance widths rest i := rfl

theorem lineBefore_cons_succ (widths : List Nat) (code : Nat) (rest : List Nat) (i : Nat) :
    lineBefore widths (code :: rest) (i + 1) = advanceIn widths code + lineBefore widths rest i := by
  rw [lineBefore, List.range_succ_eq_map, List.map_cons, List.sum_cons, List.map_map]
  rfl

theorem placedGlyph_cons_succ (a : Assets) (set : Nat) (widths : List Nat) (code : Nat) (rest : List Nat) (top left i : Nat) :
    placedGlyph a set widths (code :: rest) top left (i + 1) = placedGlyph a set widths rest top (left + advanceIn widths code) i := by
  simp only [placedGlyph, lineAdvance_cons_succ, lineBefore_cons_succ, Nat.add_assoc, List.getD_cons_succ]

theorem lineWidth_eq (widths codes : List Nat) : lineWidth widths codes = lineBefore widths codes codes.length := by
  rw [lineWidth, ← List.sum_eq_foldl]
  induction codes with
  | nil => rfl
  | cons code rest ih => rw [List.length_cons, lineBefore_cons_succ, List.map_cons, List.sum_cons, ih]

/-- A laid line has the glyphs with an advance width, each at its place. -/
theorem layLine_eq (a : Assets) (set : Nat) (widths : List Nat) (top left : Nat) (codes : List Nat) :
    layLine a set widths top left codes
      = ((List.range codes.length).filter (fun i => decide (0 < lineAdvance widths codes i))).map (placedGlyph a set widths codes top left) := by
  induction codes generalizing left with
  | nil => rfl
  | cons code rest ih =>
    have htail : (((List.range rest.length).map Nat.succ).filter (fun i => decide (0 < lineAdvance widths (code :: rest) i))).map
          (placedGlyph a set widths (code :: rest) top left)
        = layLine a set widths top ((left + advanceIn widths code : Nat) : Int) rest := by
      rw [ih, List.filter_map, List.map_map]
      exact List.map_congr_left fun i _ => placedGlyph_cons_succ ..
    have hfirst : lineAdvance widths (code :: rest) 0 = advanceIn widths code := rfl
    rw [List.length_cons, List.range_succ_eq_map, List.filter_cons, hfirst]
    by_cases hw : advanceIn widths code = 0
    · rw [if_neg (by simp [hw]), htail, hw, layLine]
      exact if_pos hw
    · rw [if_pos (by simp; omega), List.map_cons, htail, layLine]
      refine (if_neg hw).trans (congrArg (· :: _) ?_)
      simp [placedGlyph, hfirst, lineBefore_zero]

/-- The line as a region shows it: cut where it leaves the region (R104). -/
theorem cutLine_layLine (a : Assets) (set : Nat) (widths : List Nat) (top left px : Nat) (codes : List Nat) :
    cutLine px (layLine a set widths top left codes)
      = ((List.range codes.length).filter (fun i =>
          decide (0 < lineAdvance widths codes i ∧ left + lineBefore widths codes i < px))).map (placedGlyph a set widths codes top left) := by
  rw [layLine_eq, cutLine, List.filter_map, List.filter_filter]
  refine congrArg _ (List.filter_congr fun i _ => ?_)
  rw [Function.comp, ← Bool.decide_and, ← Bool.decide_and, decide_eq_decide]
  simp only [placedGlyph]
  omega

/-! ### A region with a view at a tick (R49, R50) -/

/-- A region with a view, as the map of a tick is built: its record and what it shows are those before the tick, and it has no holder. -/
structure Viewing (r : RegionId) (g : Region) (s v : State) : Prop where
  region : v.region r = some g
  holder : (v.claims r).holder = none
  colours : v.canvas.colours = s.canvas.colours
  assets : v.assets = s.assets
  clock : v.clock = s.clock
  score : v.score = s.score

theorem viewing_judged {r : RegionId} {g : Region} {s : State} (hg : s.region r = some g) (hview : g.view ≠ .none)
    (hh : (s.claims r).holder = none) (n : Nat) : Viewing r g s (s.judged n) := by
  obtain ⟨u, hu, hend⟩ := frameTick_at n (elsewhere_nobody r s)
  have hstill : evaluate r u = u := by
    rw [evaluate, hu.region, hg]
    exact if_pos (decide_eq_true hview)
  rw [hstill] at hend
  have honly := only_judged_all n s
  have hcanvas : (s.judged n).canvas = _ := canvasKept_judged n s
  refine ⟨?_, ?_, by rw [hcanvas], honly.2 .assets (by simp), honly.2 .clock (by simp), honly.2 .score (by simp)⟩
  · have hafter := hend.region
    rwa [frameTick_eq_compose, region_of_canvas only_compose.canvas, hu.region, hg] at hafter
  · have hkept := hend.kept.holder
    rw [frameTick_eq_compose, claims_of_arbiter only_compose.arbiter, hu.claims] at hkept
    refine Option.eq_none_iff_forall_ne_some.mpr fun c hc => ?_
    obtain ⟨h, hsome, -⟩ := hkept c hc
    rw [hh] at hsome
    cases hsome

/-- The left edge of a line: centred, or the region's where the line is wider (R104). -/
def lineStart (px line : Nat) : Nat := if line ≤ px then (px - line) / 2 else 0

theorem lineStart_eq (px line : Nat) : (px - line) / 2 = lineStart px line := by
  unfold lineStart
  split
  · rfl
  · omega

/-- The glyphs of a line that a region of `px` pixels shows, each with its drawing in the set whose header page is `first` (R104, R170). -/
def shownLine (a : Assets) (first : Nat) (widths codes : List Nat) (top px : Nat) : List Glyph :=
  let left := lineStart px (lineBefore widths codes codes.length)
  ((List.range codes.length).filter (fun i => decide (0 < lineAdvance widths codes i ∧ left + lineBefore widths codes i < px))).map (fun i =>
    { code := codes.getD i 0, left := ((left + lineBefore widths codes i : Nat) : Int), top := top, advance := lineAdvance widths codes i
      drawing := a.copyOf (first + 1 + codes.getD i 0 / 8) })

theorem advances_eq {a : Assets} {set : Nat} {e : AssetRecord} {h : Header} (he : a.complete set = some e) (hh : a.copyOf e.first = .header h) :
    a.advances set = h.widths := by simp only [Assets.advances, he, hh]

theorem viewGlyphs_eq {s : State} {g : Region} {set : Nat} {e : AssetRecord} {h : Header} (hset : g.glyphSet = some set)
    (he : s.assets.complete set = some e) (hh : s.assets.copyOf e.first = .header h) :
    viewGlyphs s g
      = if g.view = .score ∧ 0 < s.score.flashLeft ∧ s.score.flashUsed / 8 % 2 = 1 then []
        else shownLine s.assets e.first h.widths (viewText s.clock s.score g.view) ((64 * g.height - 64) / 2) (64 * g.width) := by
  have hflash : flashHides s.score = true ↔ 0 < s.score.flashLeft ∧ s.score.flashUsed / 8 % 2 = 1 := by simp [flashHides]
  have hplaced (codes : List Nat) (top left i : Nat) : placedGlyph s.assets set h.widths codes top left i
      = { code := codes.getD i 0, left := ((left + lineBefore h.widths codes i : Nat) : Int), top := top
          advance := lineAdvance h.widths codes i, drawing := s.assets.copyOf (e.first + 1 + codes.getD i 0 / 8) } := by
    simp only [placedGlyph, Assets.drawing, he]
  simp only [viewGlyphs, hset, hflash]
  split
  · rfl
  · rw [advances_eq he hh, lineWidth_eq, lineTop, Nat.mul_comm g.width, Nat.mul_comm g.height, lineStart_eq (64 * g.width), cutLine_layLine]
    exact List.map_congr_left fun i _ => hplaced ..

/-! ### A plane that shows a view (R50 to R52, R104) -/

theorem covers_iff (y : Plane) (c w : Nat) : y.covers c w = true ↔ inTiles y.col y.row y.width y.height c w := by
  simp [Plane.covers, inTiles, and_assoc]

theorem supplies_view {y : Plane} {v : ViewBinding} {blanked : Bool} {glyphs : List Glyph} {fill : Nat} {colour : Colour}
    (hp : y.presentable = true) (hy : y.content = .view v blanked glyphs fill colour) (c w : Nat) :
    y.supplies c w = (y.covers c w && !blanked) := by
  simp [Plane.supplies, Plane.transparent, hp, hy]

theorem content_view {m : ComposedMap} {y : Plane} {v : ViewBinding} {glyphs : List Glyph} {fill : Nat} {colour : Colour} {c w : Nat}
    (hm : m.supplier c w = y) (hy : y.content = .view v false glyphs fill colour) :
    m.content c w = .view v (glyphs.filter (fun x => x.onTile (c - y.col) (w - y.row))) fill colour := by
  simp [ComposedMap.content, Plane.at, Plane.transparent, hm, hy]

theorem onTile_eq (x : Glyph) (c w : Nat) :
    x.onTile c w
      = decide (x.left < 64 * (c : Int) + 64 ∧ 64 * (c : Int) < x.left + x.advance ∧ x.top < 64 * w + 64 ∧ 64 * w < x.top + 64) := by
  simp [Glyph.onTile, Bool.and_assoc]

theorem fillColour_eq {s : State} {n : Nat} {f : Fin 8} (h : f.val = n) : s.fillColour n = s.colour f := by
  subst h
  exact dif_pos f.isLt

theorem possessionBlanked_iff (k : Clock) : possessionBlanked k = true ↔ k.state = .running ∧ k.main < k.possession := by
  simp [possessionBlanked]

/-- The plane of a region with a view whose glyph set is Complete (R4, R49). -/
theorem planeOf_viewing {r : RegionId} {g : Region} {set : Nat} {e : AssetRecord} {s v : State} (hv : Viewing r g s v) (hview : g.view ≠ .none)
    (hset : g.glyphSet = some set) (he : s.assets.complete set = some e) (hkind : e.kind = .glyphSet) :
    (planeOf v r g).presentable = true
      ∧ (planeOf v r g).content
          = .view g.view (decide (g.view = .possession) && possessionBlanked s.clock) (viewGlyphs v g) g.fill (s.fillColour g.fill) := by
  have hfixed : g.fixed = true := decide_eq_true hview
  have hcomplete : v.assets.isComplete .glyphSet set = true := by simp [Assets.isComplete, hv.assets, he, hkind]
  have hcolour : v.fillColour g.fill = s.fillColour g.fill := by simp [State.fillColour, State.colour, hv.colours]
  simp only [planeOf, regionContent, hv.holder, hfixed, if_true, viewContent, hset, hcomplete, hcolour, hv.clock, and_self]

/-- Settles O36: the texts digit by digit; the plane is read from the state in which the tick builds its map, where its region is untouched. -/
theorem viewsAreWrittenAndBlanked : Obligations.ViewsAreWrittenAndBlanked := by
  refine ⟨fun k x hmain hposs hperiod hhome haway =>
    ⟨mainClockText_eq hmain, possessionText_eq hposs, scoreText_eq hhome haway, viewText_period x hperiod⟩, ?_⟩
  intro t0 r g set e h s hdue hr hg hview hset hh he hkind hheader f hf codes advance line left glyphs onTile
  have hv := viewing_judged hg hview hh (s.comp.timerStart + s.period)
  obtain ⟨hpresent, hcontent⟩ := planeOf_viewing hv hview hset he hkind
  have hglyphs : viewGlyphs (s.judged (s.comp.timerStart + s.period)) g = glyphs := by
    rw [viewGlyphs_eq hset (by rw [hv.assets, he]) (by rw [hv.assets, hheader]), hv.assets, hv.clock, hv.score]
    rfl
  have hmap : (pump (timerTick s)).comp.map = some (buildMap (s.judged (s.comp.timerStart + s.period))) := by
    rw [pump_comp, timerTick, comp_frameTick]
  rw [hglyphs, fillColour_eq hf] at hcontent
  generalize s.judged (s.comp.timerStart + s.period) = v at hv hpresent hcontent hmap
  refine ⟨_, buildMap v, planeOf v r g, exec_frameTimerExpiry hdue, hmap, mem_planesOf.mpr ⟨r, g, hr, hv.region, rfl⟩, rfl, hpresent,
    fun z hz hzr => ?_, fun hblank c w => ?_, fun hblank c w => ?_⟩
  · obtain ⟨n, k, -, hk, rfl⟩ := mem_planesOf.mp hz
    obtain rfl : n = r := hzr
    obtain rfl : g = k := Option.some.inj (hv.region.symm.trans hk)
    rfl
  · obtain ⟨hposs, hrunning⟩ := hblank
    rw [supplies_view hpresent hcontent, (possessionBlanked_iff _).mpr hrunning, decide_eq_true hposs]
    exact Bool.and_false _
  · have hbare : (decide (g.view = .possession) && possessionBlanked s.clock) = false := by
      rw [← Bool.not_eq_true, Bool.and_eq_true, decide_eq_true_eq, possessionBlanked_iff]
      exact hblank
    rw [hbare] at hcontent
    refine ⟨?_, fun hsupplier _ => ?_⟩
    · rw [supplies_view hpresent hcontent, Bool.not_false, Bool.and_true]
      exact covers_iff ..
    · rw [content_view hsupplier hcontent]
      simp only [onTile_eq]
      rfl

end Sys2Proof.Machine
end


section
/-! SUPPORT. What a result, the end of a slot and the opening of the next make of one link, and the steps that change one link alone (R64 to R72). -/

namespace Sys2Proof.Machine

/-! ### Results, field by field (R71, R72, R76) -/

theorem result_idle {l : Link} (ack : Bool) (h : l.packet = none) : l.result ack = l := by
  simp only [Link.result, h]

theorem result_probe {l : Link} {x : Packet} (ack : Bool) (h : l.packet = some x) (hx : x.probe = true) :
    l.result ack = { l with packet := none, nacks := if ack then l.nacks else l.nacks + 1 } := by
  simp only [Link.result, h, hx, if_true]
  cases ack <;> rfl

theorem result_ack {l : Link} {x : Packet} (h : l.packet = some x) (hx : x.probe = false) :
    l.result true = { l with
      packet := none, tile := l.tile + 1, attempts := 0, acked := l.acked ++ [l.tile]
      pacing := if l.attempts = 1 then l.pacing - 1 else l.pacing
      forcedIdle := decide (0 < (if l.attempts = 1 then l.pacing - 1 else l.pacing)) } := by
  simp only [Link.result, h, hx]
  rfl

/-- A Nack before the fourth leaves the tile to be sent again (R71). -/
theorem result_nack_again {l : Link} {x : Packet} (h : l.packet = some x) (hx : x.probe = false) (hlt : l.attempts < 4) :
    l.result false = { l with packet := none, nacks := l.nacks + 1, pacing := 31, forcedIdle := true } := by
  simp only [Link.result, h, hx, Link.nacked, Nat.not_le.mpr hlt]
  rfl

/-- The fourth Nack of a tile spends it (R71). -/
theorem result_nack_last {l : Link} {x : Packet} (h : l.packet = some x) (hx : x.probe = false) (hge : 4 ≤ l.attempts) :
    l.result false = { l with
      packet := none, nacks := l.nacks + 1, pacing := 31, forcedIdle := true, tile := l.tile + 1, attempts := 0, spent := true } := by
  simp only [Link.result, h, hx, Link.nacked, hge]
  rfl

theorem result_nack {l : Link} {x : Packet} (h : l.packet = some x) (hx : x.probe = false) :
    l.result false = { l with
      packet := none, nacks := l.nacks + 1, pacing := 31, forcedIdle := true
      tile := if l.attempts < 4 then l.tile else l.tile + 1
      attempts := if l.attempts < 4 then l.attempts else 0
      spent := if l.attempts < 4 then l.spent else true } := by
  split_ifs with hlt
  · exact result_nack_again h hx hlt
  · exact result_nack_last h hx (Nat.not_lt.mp hlt)

/-! ### Slots (R64 to R67, R70) -/

/-- The link once the slot open before, if one was, has ended and the next is open: a hold counts down, except in the slot in which it was
set (R70). -/
def Link.reopened (l : Link) : Link :=
  { l with
    slotOpen := true
    slot := if l.slotOpen then l.slot + 1 else l.slot
    hold := if l.slotOpen = true ∧ l.holdFresh = false then l.hold - 1 else l.hold
    holdFresh := l.holdFresh && !l.slotOpen }

theorem endSlot_opened (l : Link) : ({ l.endSlot with slotOpen := true } : Link) = l.reopened := by
  unfold Link.endSlot Link.reopened
  rcases l.slotOpen.eq_false_or_eq_true with h | h
  · rcases l.holdFresh.eq_false_or_eq_true with hf | hf <;> simp [h, hf]
  · simp [h]

/-- Whether a packet starts in a slot does not hang on the slot's being open already. -/
theorem openSlot_endSlot (k : LinkId) (map : Option ComposedMap) (l : Link) : l.endSlot.openSlot k map = l.reopened.openSlot k map := by
  rw [← endSlot_opened]
  rfl

theorem endSlot_open {l : Link} (h : l.slotOpen = true) :
    l.endSlot = { l with slotOpen := false, slot := l.slot + 1, hold := if l.holdFresh then l.hold else l.hold - 1, holdFresh := false } :=
  if_pos h

/-- The conditions of R66, in a frame whose map is built. -/
theorem mayStart_iff {l : Link} {m : ComposedMap} (hm : l.frame = some m.frame) :
    l.mayStart (some m) l.forcedIdle = true ↔
      l.down = false ∧ l.probe = false ∧ l.quiet = false ∧ l.pattern.getD (l.slot % 8) false = true ∧ l.forcedIdle = false ∧ l.hold = 0
        ∧ (l.room = true ∨ l.mode = .oneAhead ∧ l.overrun = true) ∧ l.tile < 96 := by
  have hflow : l.flowPermits = true ↔ l.room = true ∨ l.mode = .oneAhead ∧ l.overrun = true := by
    unfold Link.flowPermits
    cases l.mode <;> simp
  simp [Link.mayStart, Link.mapReady, Link.sendSlot, hm, hflow, and_assoc]

/-- The conditions of R76, in a frame whose map is built. -/
theorem mayProbe_iff {l : Link} {m : ComposedMap} (hm : l.frame = some m.frame) :
    l.mayProbe (some m) = true ↔ l.down = true ∧ l.probe = true ∧ l.probeSent = false ∧ l.pattern.getD (l.slot % 8) false = true := by
  simp [Link.mayProbe, Link.mapReady, Link.sendSlot, hm, and_assoc]

theorem tile_of_mayStart {l : Link} {map : Option ComposedMap} {forced : Bool} (h : l.mayStart map forced = true) : l.tile < 96 := by
  simp only [Link.mayStart, Bool.and_eq_true, decide_eq_true_eq] at h
  exact h.2

theorem openSlot_starts {k : LinkId} {m : ComposedMap} {l : Link} (h : l.mayStart (some m) l.forcedIdle = true) :
    l.openSlot k (some m) = { l with
      slotOpen := true, forcedIdle := false, attempts := l.attempts + 1, started := l.started + 1, overrun := l.room
      packet := some (makePacket k m l.tile l.group false) } := if_pos h

/-- A link that may send its probe is Down, and so may start no tile. -/
theorem openSlot_probes {k : LinkId} {m : ComposedMap} {l : Link} (h : l.mayProbe (some m) = true) :
    l.openSlot k (some m) = { l with
      slotOpen := true, forcedIdle := false, probeSent := true, started := l.started + 1
      packet := some (makePacket k m 0 l.group true) } := by
  have hdown : l.down = true := by
    simp only [Link.mayProbe, Bool.and_eq_true] at h
    obtain ⟨⟨⟨⟨hdown, -⟩, -⟩, -⟩, -⟩ := h
    exact hdown
  have hstart : ¬l.mayStart (some m) l.forcedIdle = true := by simp [Link.mayStart, hdown]
  exact (if_neg hstart).trans (if_pos h)

theorem openSlot_idle {k : LinkId} {m : ComposedMap} {l : Link} (hs : ¬l.mayStart (some m) l.forcedIdle = true)
    (hp : ¬l.mayProbe (some m) = true) : l.openSlot k (some m) = { l with slotOpen := true, forcedIdle := false } :=
  (if_neg hs).trans (if_neg hp)

/-- A packet of a chain tile: its eight chunks from the group reported on, cut from the tile's place in the map (R63, R67). -/
theorem makePacket_eq (k : LinkId) (m : ComposedMap) {tile : Nat} (h : tile < 96) (group : Nat) (probe : Bool) :
    makePacket k m tile group probe
      = { tile := tile, frame := m.frame, probe := probe, content := m.content (tile % 48) (2 * k.val + tile / 48)
          chunks := [0, 1, 2, 3, 4, 5, 6, 7].map (fun n =>
            { group := group ^^^ n, rows := [0, 1, 2, 3, 4, 5, 6, 7].map (fun i => 8 * i + (group ^^^ n)), last := decide (n = 7) }) } := by
  have hplace : chainTile k.val tile = (tile % 48, 2 * k.val + tile / 48) := by
    unfold chainTile
    split <;> simp only [Prod.mk.injEq] <;> omega
  simp only [makePacket, hplace]
  rfl

/-- What opening a slot leaves of a link. -/
theorem openSlot_kept (k : LinkId) (map : Option ComposedMap) (l : Link) :
    (l.openSlot k map).hold = l.hold ∧ (l.openSlot k map).slot = l.slot ∧ (l.openSlot k map).slotOpen = true
      ∧ (l.openSlot k map).spent = l.spent := by
  unfold Link.openSlot
  simp only
  split
  · exact ⟨rfl, rfl, rfl, rfl⟩
  · split
    · exact ⟨rfl, rfl, rfl, rfl⟩
    · split <;> exact ⟨rfl, rfl, rfl, rfl⟩

/-- What a result leaves of a link. -/
theorem result_kept (ack : Bool) (l : Link) :
    (l.result ack).hold = l.hold ∧ (l.result ack).slot = l.slot ∧ (l.result ack).slotOpen = l.slotOpen
      ∧ (l.result ack).holdFresh = l.holdFresh := by
  rcases hp : l.packet with _ | x
  · rw [result_idle ack hp]
    exact ⟨rfl, rfl, rfl, rfl⟩
  · cases hx : x.probe
    · cases ack
      · rw [result_nack hp hx]
        exact ⟨rfl, rfl, rfl, rfl⟩
      · rw [result_ack hp hx]
        exact ⟨rfl, rfl, rfl, rfl⟩
    · rw [result_probe ack hp hx]
      exact ⟨rfl, rfl, rfl, rfl⟩

/-! ### Steps that change one link alone -/

/-- A link changes, and no Retry condition rises: no tile of it is spent, or the condition is present already (R71, R79). -/
theorem changeLink_eq_setLink {k : LinkId} {f : Link → Link} {s : State}
    (h : (f (s.link k)).spent = true → (s.monitor (monRetry k)).condition = true) : changeLink k f s = s.setLink k (f (s.link k)) := by
  simp only [changeLink]
  split
  · next hs =>
    have hcond : ((s.setLink k (f (s.link k))).monitor (monRetry k)).condition = true := h hs
    rw [raise, if_pos hcond]
  · rfl

/-- An event leads where less is asked of its next state. -/
theorem Leads.imp {i : Instr} {s base : State} {parts : List Part} {f : PortId → Port → Port} {P Q : State → Prop}
    (h : Leads i s base parts f P) (hPQ : ∀ t, P t → Q t) : Leads i s base parts f Q := by
  obtain ⟨t, hx, hP, hrest⟩ := h
  exact ⟨t, hx, hPQ t hP, hrest⟩

theorem leads_setLink {i : Instr} {s : State} {k : LinkId} {x : Link} (hx : exec i s = .next (pump (s.setLink k x))) :
    Leads i s s [.links] untouched (fun t => t.link k = x ∧ ∀ n, n ≠ k → t.link n = s.link n) :=
  leads_of hx (by simp) (fun _ => rfl) ⟨link_setLink_self .., fun n hn => (link_setLink ..).trans (if_neg hn)⟩

/-- A link that has closed every frame but the one it is sending has none to close (R73). -/
theorem forceClose_of_toClose {k : LinkId} {s : State} (h : (s.link k).toClose s.frame = none) : forceClose k s = s := by
  rw [forceClose, h]

theorem toClose_current {f : FrameNo} {l : Link} (h : l.frame = some f) : l.toClose f = none := by simp [Link.toClose, h]

theorem toClose_unbegun {f : FrameNo} {l : Link} (h : l.frame = none) : l.toClose f = none := by simp [Link.toClose, h]

theorem slotStart_eq {k : LinkId} {s : State} (h : (s.link k).frame = some s.comp.frame) :
    slotStart k s = changeLink k (fun l => (l.result false).reopened.openSlot k s.comp.map) s := by
  have hclose : forceClose k s = s := forceClose_of_toClose (toClose_current h)
  have hframe : ¬(s.link k).frame.isNone = true := by simp [h]
  simp only [slotStart, hclose, if_neg hframe, openSlot_endSlot]

/-- A slot starts in the current frame, and what it makes of the link is all it does. -/
theorem leads_slotStart {k : LinkId} {l x : Link} {s : State} (hl : s.link k = l) (hframe : l.frame = some s.comp.frame)
    (hx : (l.result false).reopened.openSlot k s.comp.map = x) (hspent : x.spent = true → (s.monitor (monRetry k)).condition = true) :
    Leads (.slotStart k) s s [.links] untouched (fun t => t.link k = x ∧ ∀ n, n ≠ k → t.link n = s.link n) := by
  subst hl hx
  refine leads_setLink ?_
  show Host.Outcome.next (pump (slotStart k s)) = _
  rw [slotStart_eq hframe, changeLink_eq_setLink hspent]

end Sys2Proof.Machine
end


section
/-! PROOF. The start of a slot (O41). -/

namespace Sys2Proof.Machine

section SlotStart
variable {k : LinkId} {m : ComposedMap} {l : Link} {s : State}

/-- The slot of a link with no packet in progress, in a frame whose map is built. -/
theorem leads_slotStart_free {x : Link} (hl : s.link k = l) (hframe : l.frame = some s.comp.frame) (hmap : s.comp.map = some m)
    (hspent : l.spent = true → (s.monitor (monRetry k)).condition = true) (hp : l.packet = none)
    (hx : l.reopened.openSlot k (some m) = x) :
    Leads (.slotStart k) s s [.links] untouched (fun t => t.link k = x ∧ ∀ n, n ≠ k → t.link n = s.link n) := by
  refine leads_slotStart hl hframe (by rw [result_idle false hp, hmap, hx]) fun h => hspent ?_
  obtain ⟨-, -, -, hkept⟩ := openSlot_kept k (some m) l.reopened
  rwa [← hx, hkept] at h

/-- A packet that got no status in its slot is Nacked, so that nothing starts in the slot after it (R68, R72). -/
theorem leads_slotStart_nacked {x : Packet} (hl : s.link k = l) (hframe : l.frame = some s.comp.frame) (hmap : s.comp.map = some m)
    (hspent : l.spent = true → (s.monitor (monRetry k)).condition = true) (hp : l.packet = some x) (hx : x.probe = false)
    (hup : l.down = false) (hlast : l.attempts < 4 ∨ (s.monitor (monRetry k)).condition = true) :
    Leads (.slotStart k) s s [.links] untouched (fun t =>
      t.link k = { l.reopened with
          packet := none, forcedIdle := false, nacks := l.nacks + 1, pacing := 31
          tile := if l.attempts < 4 then l.tile else l.tile + 1
          attempts := if l.attempts < 4 then l.attempts else 0
          spent := if l.attempts < 4 then l.spent else true }
      ∧ ∀ n, n ≠ k → t.link n = s.link n) := by
  refine leads_slotStart hl hframe ?_ fun h => ?_
  · rw [result_nack hp hx, hmap]
    exact openSlot_idle (by simp [Link.mayStart, Link.reopened]) (by simp [Link.mayProbe, Link.reopened, hup])
  · rcases hlast with hlt | hcond
    · exact hspent ((if_pos hlt).symm.trans h)
    · exact hcond

/-- A probe that got no status in its slot is Nacked, and was the only packet of its frame (R76). -/
theorem leads_slotStart_probeNacked {x : Packet} (hl : s.link k = l) (hframe : l.frame = some s.comp.frame) (hmap : s.comp.map = some m)
    (hspent : l.spent = true → (s.monitor (monRetry k)).condition = true) (hp : l.packet = some x) (hx : x.probe = true)
    (hsent : l.probeSent = true) (hlast : l.down = true ∨ l.quiet = true) :
    Leads (.slotStart k) s s [.links] untouched (fun t =>
      t.link k = { l.reopened with packet := none, forcedIdle := false, nacks := l.nacks + 1 } ∧ ∀ n, n ≠ k → t.link n = s.link n) := by
  refine leads_slotStart hl hframe ?_ hspent
  rw [result_probe false hp hx, hmap]
  refine openSlot_idle ?_ (by simp [Link.mayProbe, Link.reopened, hsent])
  rcases hlast with h | h <;> simp [Link.mayStart, Link.reopened, h]

/-- A hold of 1 ends with its slot (R70). -/
theorem linkHoldEnd_is_slotStart (hl : s.link k = l) (hframe : l.frame = some s.comp.frame) (hopen : l.slotOpen = true)
    (hold : l.hold = 1) (hfresh : l.holdFresh = false) :
    ∃ t, exec (.linkHoldEnd k) s = .next t ∧ exec (.slotStart k) s = .next t
      ∧ (t.link k).hold = 0 ∧ (t.link k).slot = l.slot + 1 ∧ (t.link k).slotOpen = true ∧ ∀ n, n ≠ k → t.link n = s.link n := by
  have hends : (s.link k).holdEnds = true := by simp [Link.holdEnds, hl, hopen, hold, hfresh]
  have hslot : exec (.linkHoldEnd k) s = .next (pump (slotStart k s)) := by
    show Host.Outcome.next (pump (if (s.link k).holdEnds = true then slotStart k s else s)) = _
    rw [if_pos hends]
  refine ⟨pump (slotStart k s), hslot, rfl, ?_⟩
  obtain ⟨rhold, rslot, ropen, rfresh⟩ := result_kept false l
  obtain ⟨ohold, oslot, oopen, -⟩ := openSlot_kept k s.comp.map (l.result false).reopened
  have hlink (n : LinkId) : (pump (slotStart k s)).link n = if n = k then (l.result false).reopened.openSlot k s.comp.map else s.link n := by
    rw [link_pump, slotStart_eq (hl.symm ▸ hframe), link_changeLink, hl]
  rw [hlink k, if_pos rfl, ohold, oslot]
  refine ⟨?_, ?_, oopen, fun n hn => (hlink n).trans (if_neg hn)⟩
  · simp [Link.reopened, rhold, ropen, rfresh, hopen, hold, hfresh]
  · simp [Link.reopened, rslot, ropen, hopen]

end SlotStart

/-- Settles O41: each clause is one branch of `Link.openSlot`, on the link as its result and the end of its slot have left it. -/
theorem slotsStartPacketsAsAllowed : Obligations.SlotsStartPacketsAsAllowed := by
  intro k m l l1 s hl hframe hmap hm hspent hl1 send may mayProbe chunks
  obtain rfl : l1 = l.reopened := hl1
  have hmf : l.reopened.frame = some m.frame := by rw [hm]; exact hframe
  have hmay : l.reopened.mayStart (some m) l.reopened.forcedIdle = true ↔ may := mayStart_iff hmf
  have hmayProbe : l.reopened.mayProbe (some m) = true ↔ mayProbe := mayProbe_iff hmf
  refine ⟨fun hp h => ?_, fun hp h => ?_, fun hp hs hpr => ?_, fun x => leads_slotStart_nacked hl hframe hmap hspent,
    fun x => leads_slotStart_probeNacked hl hframe hmap hspent, fun hopen hfresh hold => linkHoldEnd_is_slotStart hl hframe hopen hold hfresh⟩
  · have hstart := hmay.mpr h
    refine leads_slotStart_free hl hframe hmap hspent hp ((openSlot_starts hstart).trans ?_)
    rw [makePacket_eq k m (tile_of_mayStart hstart), hm]
    rfl
  · refine leads_slotStart_free hl hframe hmap hspent hp ((openSlot_probes (hmayProbe.mpr h)).trans ?_)
    rw [makePacket_eq k m (by decide), hm]
    rfl
  · exact leads_slotStart_free hl hframe hmap hspent hp (openSlot_idle (hmay.not.mpr hs) (hmayProbe.not.mpr hpr))

end Sys2Proof.Machine
end


section
/-! PROOF. Receiver statuses, and slots that end with none (O42). -/

namespace Sys2Proof.Machine

/-! ### What a status makes of one link (R68, R76) -/

/-- The link once a status is taken in frame `f`: it comes Up, the packet's own status is its result, and the report is kept. -/
def Link.heard (ack room : Bool) (group : Fin 8) (hold : Byte) (afterLast : Bool) (f : FrameNo) (l : Link) : Link :=
  (if afterLast then l.comeUp.result ack else l.comeUp).applyStatus room group.val hold.toNat f

theorem statusTaken_eq (k : LinkId) (ack room : Bool) (group : Fin 8) (hold : Byte) (afterLast : Bool) (s : State) :
    statusTaken k ack room group hold afterLast s
      = changeLink k (Link.heard ack room group hold afterLast s.comp.frame) (if (s.link k).down then lower (monDown k) s else s) := rfl

theorem comeUp_up {l : Link} (h : l.down = false) : l.comeUp = l := by simp [Link.comeUp, h]

theorem comeUp_down {l : Link} (h : l.down = true) : l.comeUp = { l with down := false, pacing := 0, overrun := false, quiet := true } :=
  if_pos h

theorem comeUp_packet (l : Link) : l.comeUp.packet = l.packet := by
  unfold Link.comeUp
  split <;> rfl

/-! ### Statuses on a link that is Up, and on one that is Down -/

section Status
variable {k : LinkId} {l x : Link} {ack room : Bool} {group : Fin 8} {hold : Byte} {afterLast : Bool} {s : State}

theorem exec_receiverStatus_up (hl : s.link k = l) (hup : l.down = false) :
    exec (.receiverStatus k ack room group hold afterLast) s
      = .next (pump (changeLink k (Link.heard ack room group hold afterLast s.comp.frame) s)) := by
  show Host.Outcome.next (pump (statusTaken ..)) = _
  rw [statusTaken_eq, hl, hup, if_neg Bool.false_ne_true]

/-- A status on a link that is Up changes the link alone, where it raises no Retry condition. -/
theorem leads_status_up (hl : s.link k = l) (hup : l.down = false) (hx : l.heard ack room group hold afterLast s.comp.frame = x)
    (hspent : x.spent = true → (s.monitor (monRetry k)).condition = true) :
    Leads (.receiverStatus k ack room group hold afterLast) s s [.links] untouched
      (fun t => t.link k = x ∧ ∀ n, n ≠ k → t.link n = s.link n) := by
  subst hl hx
  exact leads_setLink (by rw [exec_receiverStatus_up rfl hup, changeLink_eq_setLink hspent])

/-- The first spent tile raises the Retry condition, which tells the director port where it was not reported before (R60, R71, R79). -/
theorem leads_status_spends (hl : s.link k = l) (hup : l.down = false) (hx : l.heard ack room group hold afterLast s.comp.frame = x)
    (hspent : x.spent = true) (hcond : (s.monitor (monRetry k)).condition = false) :
    Leads (.receiverStatus k ack room group hold afterLast) s s [.links, .monitors]
      (if (s.monitor (monRetry k)).latched = false ∧ (s.monitor (monRetry k)).enable = true then
        noted [s.director] (sourceFault (monRetry k) s.frame none) else untouched)
      (fun t => t.link k = x ∧ t.monitor (monRetry k) = (s.monitor (monRetry k)).rise
        ∧ (∀ m, m ≠ monRetry k → t.monitor m = s.monitor m) ∧ ∀ n, n ≠ k → t.link n = s.link n) := by
  subst hl hx
  have hlink (n : LinkId) := link_changeLink k n (Link.heard ack room group hold afterLast s.comp.frame) s
  have hraise : changeLink k (Link.heard ack room group hold afterLast s.comp.frame) s
      = raise (monRetry k) none (s.setLink k ((s.link k).heard ack room group hold afterLast s.comp.frame)) := if_pos hspent
  refine leads_of (exec_receiverStatus_up rfl hup) (by simp) (fun n => ?_) ?_
  · rw [hraise]
    exact port_raise_absent (s := s.setLink k _) hcond none n
  · refine ⟨(hlink k).trans (if_pos rfl), ?_, fun m hm => ?_, fun n hn => (hlink n).trans (if_neg hn)⟩
    · rw [monitor_pump, hraise]
      exact (monitor_raise ..).trans (if_pos ⟨rfl, hcond⟩)
    · rw [monitor_pump, hraise]
      exact (monitor_raise ..).trans (if_neg fun h => hm h.1)

/-- The first status on a Down link brings it Up, and clears its Down condition (R76, R79). -/
theorem leads_status_down (hl : s.link k = l) (hdown : l.down = true) (hx : l.heard ack room group hold afterLast s.comp.frame = x)
    (hspent : x.spent = false) :
    Leads (.receiverStatus k ack room group hold afterLast) s s [.links, .monitors] untouched
      (fun t => t.link k = x ∧ t.monitor (monDown k) = { s.monitor (monDown k) with condition := false }
        ∧ (∀ m, m ≠ monDown k → t.monitor m = s.monitor m) ∧ ∀ n, n ≠ k → t.link n = s.link n) := by
  subst hl hx
  have hstatus : exec (.receiverStatus k ack room group hold afterLast) s
      = .next (pump ((lower (monDown k) s).setLink k ((s.link k).heard ack room group hold afterLast s.comp.frame))) := by
    show Host.Outcome.next (pump (statusTaken ..)) = _
    have hquiet : (((lower (monDown k) s).link k).heard ack room group hold afterLast s.comp.frame).spent = true →
        ((lower (monDown k) s).monitor (monRetry k)).condition = true := fun h => absurd (hspent.symm.trans h) Bool.false_ne_true
    rw [statusTaken_eq, if_pos hdown, changeLink_eq_setLink hquiet]
    rfl
  refine leads_of hstatus (by simp) (fun _ => rfl) ⟨link_setLink_self .., monitor_setMonitor_self .., fun m hm => ?_, fun n hn => ?_⟩
  · exact (monitor_setMonitor ..).trans (if_neg hm)
  · exact (link_setLink ..).trans (if_neg hn)

end Status

/-- A packet's slot that ends with no status is a Nack (R68). -/
theorem leads_slotEnd {k : LinkId} {l x : Link} {y : Packet} {s : State} (hl : s.link k = l) (hp : l.packet = some y)
    (hx : (l.result false).endSlot = x) (hspent : x.spent = true → (s.monitor (monRetry k)).condition = true) :
    Leads (.slotEndNoStatus k) s s [.links] untouched (fun t => t.link k = x ∧ ∀ n, n ≠ k → t.link n = s.link n) := by
  subst hl hx
  refine leads_setLink ?_
  show Host.Outcome.next (pump (slotEnd k s)) = _
  rw [slotEnd, if_pos (by simp [hp]), changeLink_eq_setLink hspent]

/-- Settles O42: each clause is one shape of `Link.heard`; a status on a Down link lowers Down, and a fourth Nack may raise Retry. -/
theorem statusAcksNacksAndRevives : Obligations.StatusAcksNacksAndRevives := by
  intro k l x room group hold s hl
  have unspent {y : Link} (h : y.spent = false) : y.spent = true → (s.monitor (monRetry k)).condition = true :=
    fun ht => absurd (h.symm.trans ht) Bool.false_ne_true
  have hspends (hup : l.down = false) (hp : l.packet = some x) (hx : x.probe = false) (hge : 4 ≤ l.attempts) :
      l.heard false room group hold true s.comp.frame = { l with
        packet := none, tile := l.tile + 1, attempts := 0, spent := true, nacks := l.nacks + 1, pacing := 31, forcedIdle := true
        room := room, group := group.val, hold := hold.toNat, holdFresh := l.slotOpen, lastStatus := s.comp.frame } := by
    rw [Link.heard, comeUp_up hup, if_pos rfl, result_nack_last hp hx hge]
    rfl
  refine ⟨fun hup hp hx hs => ⟨?_, fun hlt => ⟨?_, fun hopen => ?_⟩, fun hge hcond => ?_, fun hge hcond => ?_⟩,
    fun hdown hp hx hs ack => ?_, fun hup hs ack => ?_, fun hdown hs ack => ?_⟩
  · refine leads_status_up hl hup ?_ (unspent hs)
    rw [Link.heard, comeUp_up hup, if_pos rfl, result_ack hp hx]
    rfl
  · refine leads_status_up hl hup ?_ (unspent hs)
    rw [Link.heard, comeUp_up hup, if_pos rfl, result_nack_again hp hx hlt]
    rfl
  · refine leads_slotEnd hl hp ?_ (unspent hs)
    rw [result_nack_again hp hx hlt]
    exact endSlot_open hopen
  · refine (leads_status_up hl hup (hspends hup hp hx hge) fun _ => hcond).imp fun t ⟨hlink, hrest⟩ => ?_
    rw [hlink]
    exact ⟨rfl, rfl, rfl, rfl, rfl, hrest⟩
  · exact leads_status_spends hl hup (hspends hup hp hx hge) rfl hcond
  · refine leads_status_down hl hdown ?_ hs
    rw [Link.heard, if_pos rfl, result_probe ack ((comeUp_packet l).trans hp) hx, comeUp_down hdown]
    rfl
  · refine leads_status_up hl hup ?_ (unspent hs)
    rw [Link.heard, comeUp_up hup]
    rfl
  · have hspent : (l.heard ack room group hold false s.comp.frame).spent = false := by
      rw [Link.heard, comeUp_down hdown]
      exact hs
    refine (leads_status_down hl hdown rfl hspent).imp fun t ⟨hlink, hmon, _, hrest⟩ => ⟨?_, by rw [hmon], hrest⟩
    rw [hlink, Link.heard, comeUp_down hdown]
    rfl

end Sys2Proof.Machine
end


section
/-! SUPPORT. The close of a frame on one link, and what waits for it at a tick (R73, R74, R77). -/

namespace Sys2Proof.Machine

/-! ### One link closes its frame and begins the next (R71, R73, R77) -/

/-- The link once it has closed frame `f` and begun frame `now`, with its delivery record kept. -/
def Link.closed (k : LinkId) (f now : FrameNo) (l : Link) : Link :=
  { l.reopened with
    frame := some now, slot := 0, slotOpen := false, mode := l.armed.mode.getD l.mode, pattern := l.armed.pattern.getD l.pattern
    armed := .none, tile := 0, attempts := 0, acked := [], spent := false, started := 0, nacks := 0
    record := some (l.makeRecord k f) }

/-- The end of a slot changes the slot and the hold count alone. -/
theorem endSlot_kept (l : Link) (k : LinkId) (f : FrameNo) : l.endSlot.makeRecord k f = l.makeRecord k f ∧ l.endSlot.spent = l.spent := by
  unfold Link.endSlot
  split <;> exact ⟨rfl, rfl⟩

theorem begin_endSlot (k : LinkId) (f now : FrameNo) (l : Link) :
    ({ l.endSlot with record := some (l.makeRecord k f) } : Link).begin now = l.closed k f now := by
  rw [Link.closed, ← endSlot_opened]
  unfold Link.endSlot
  split <;> rfl

/-- The part as a link hands over the record of its frame. -/
def State.recorded (k : LinkId) (f : FrameNo) (s : State) : State :=
  s.setLink k { (s.link k).endSlot with record := some ((s.link k).makeRecord k f) }

theorem closeFrame_eq (k : LinkId) (f : FrameNo) (s : State) :
    closeFrame k f s =
      let d := (s.link k).makeRecord k f
      let u := settleMonitor (monRetry k) (s.link k).spent
        (settleMonitor (monIncomplete k) (!d.stale.isEmpty) (takeRecord d (s.recorded k f)))
      u.setLink k ((u.link k).begin s.frame) := by
  obtain ⟨hrecord, hspent⟩ := endSlot_kept (s.link k) k f
  simp only [closeFrame, State.recorded, hrecord, hspent]

theorem link_closeFrame (k n : LinkId) (f : FrameNo) (s : State) :
    (closeFrame k f s).link n = if n = k then (s.link k).closed k f s.frame else s.link n := by
  rw [closeFrame_eq]
  extract_lets d u
  have hlinks : Only [.monitors, .rotation, .exposure, .comp] (s.recorded k f) u := by simp [u]
  have hlink (j : LinkId) : u.link j = (s.recorded k f).link j := by rw [State.link, hlinks.2 .links (by simp)]; rfl
  rw [link_setLink, hlink k, hlink n, State.recorded, link_setLink_self, link_setLink, begin_endSlot]
  split <;> rfl

/-- After the record is handed over, only the link and its two monitors change. -/
theorem only_closeFrame (k : LinkId) (f : FrameNo) (s : State) :
    Only [.links, .monitors] (takeRecord ((s.link k).makeRecord k f) (s.recorded k f)) (closeFrame k f s) := by
  rw [closeFrame_eq]
  simp

theorem condition_settleMonitor (m n : MonitorId) (b : Bool) (s : State) :
    ((settleMonitor m b s).monitor n).condition = if n = m then b else (s.monitor n).condition := by
  cases b
  · exact condition_lower m n s
  · exact condition_raise m n none s

theorem monIncomplete_ne_monRetry (k : LinkId) : monIncomplete k ≠ monRetry k := by
  intro h
  have := congrArg Fin.val h
  simp only [monIncomplete, monRetry] at this
  omega

theorem condition_closeFrame (k : LinkId) (f : FrameNo) (s : State) :
    ((closeFrame k f s).monitor (monIncomplete k)).condition = !((s.link k).makeRecord k f).stale.isEmpty
      ∧ ((closeFrame k f s).monitor (monRetry k)).condition = (s.link k).spent := by
  rw [closeFrame_eq]
  extract_lets d u
  have hset (x : Link) (m : MonitorId) : (u.setLink k x).monitor m = u.monitor m := rfl
  simp only [hset, u, condition_settleMonitor, if_pos, if_neg (monIncomplete_ne_monRetry k), d, and_self]

theorem link_forceClose_other {k n : LinkId} (h : n ≠ k) (s : State) : (forceClose k s).link n = s.link n := by
  unfold forceClose
  split
  · rfl
  · rw [link_closeFrame, if_neg h, link_changeLink, if_neg h]

/-- Other links that close their frames leave alone a link that has none to close. -/
theorem link_forceCloseAll {k : LinkId} {s : State} (h : (s.link k).toClose s.frame = none) : (forceCloseAll s).link k = s.link k := by
  have hone (n : LinkId) (u : State) (hu : (u.link k).toClose u.frame = none) : (forceClose n u).link k = u.link k := by
    by_cases hn : k = n
    · subst hn
      rw [forceClose_of_toClose hu]
    · exact link_forceClose_other hn u
  unfold forceCloseAll
  generalize allLinks = l
  induction l generalizing s with
  | nil => rfl
  | cons n rest ih =>
    have hlink := hone n s h
    have hframe : (forceClose n s).frame = s.frame := (behind_forceClose n s).frame
    rw [List.foldl_cons, ih (by rw [hlink, hframe, h]), hlink]

/-! ### FRAME_CLOSE (R73) -/

section Close
variable {k : LinkId} {f : FrameNo} {l : Link} {s : State}

theorem toClose_past {now : FrameNo} (hframe : l.frame = some f) (hpast : f ≠ now) : l.toClose now = some f := by
  simp [Link.toClose, hframe, hpast]

/-- A link with no packet in progress closes the frame it was sending. -/
theorem exec_frameClose (hl : s.link k = l) (hp : l.packet = none) (hframe : l.frame = some f) (hpast : f ≠ s.comp.frame) :
    exec (.frameClose k) s = .next (pump (closeFrame k f (changeLink k (Link.result false) s))) := by
  have hclose : (s.link k).toClose s.frame = some f := toClose_past (hl.symm ▸ hframe) hpast
  show Host.Outcome.next (pump (frameClose k s)) = _
  rw [frameClose, if_neg (by simp [hl, hp]), forceClose, hclose]

theorem link_closing (hl : s.link k = l) (hp : l.packet = none) (n : LinkId) : (changeLink k (Link.result false) s).link n = s.link n := by
  rw [link_changeLink]
  split
  · next hn => rw [hn, hl, result_idle false hp]
  · rfl

theorem link_closed (hl : s.link k = l) (hp : l.packet = none) (n : LinkId) :
    (closeFrame k f (changeLink k (Link.result false) s)).link n = if n = k then l.closed k f s.comp.frame else s.link n := by
  have hframe : (changeLink k (Link.result false) s).frame = s.comp.frame := (behind_changeLink ..).frame
  rw [link_closeFrame, link_closing hl hp, link_closing hl hp, hl, hframe]

end Close
end Sys2Proof.Machine
end


section
/-! PROOF. SetLinkMode, and the frame its settings wait for (O11). -/

namespace Sys2Proof.Machine

/-! ### The settings a request gives (R77) -/

theorem patternOf_known (l : List Bool) : patternOf (l.map .known) = some l := by
  induction l with
  | nil => rfl
  | cons b rest ih => simp only [List.map_cons, patternOf, ih]

theorem patternOf_unknown {l : List (Named Bool)} {c : Nat} (h : .unknown c ∈ l) : patternOf l = none := by
  induction l with
  | nil => cases h
  | cons x rest ih =>
    cases x with
    | unknown => rfl
    | known b =>
      have hrest : .unknown c ∈ rest := by simpa using h
      simp only [patternOf, ih hrest]

theorem linkSettings_accepts {mode : Option FlowMode} {pattern : Option (List Bool)} (h : ∀ l, pattern = some l → l.length = 8 ∧ true ∈ l) :
    linkSettings (mode.map .known) (pattern.map (List.map .known)) = .ok ⟨mode, pattern⟩ := by
  have hpattern : linkSettings.linkPattern mode (pattern.map (List.map .known)) = .ok ⟨mode, pattern⟩ := by
    cases pattern with
    | none => rfl
    | some l => simp [linkSettings.linkPattern, patternOf_known, h l rfl]
  cases mode <;> exact hpattern

/-- A flow mode that is known, or none, leaves the pattern to be checked. -/
theorem linkSettings_refuses_pattern {mode : Option (Named FlowMode)} {l : List (Named Bool)} (hmode : ∀ d, mode ≠ some (.unknown d))
    (h : ∀ p, patternOf l = some p → ¬(p.length = 8 ∧ true ∈ p)) : linkSettings mode (some l) = .error .cadencePattern := by
  have hpattern (m : Option FlowMode) : linkSettings.linkPattern m (some l) = .error .cadencePattern := by
    simp only [linkSettings.linkPattern]
    split
    · rfl
    · next p hp => exact if_neg (by simpa using h p hp)
  rcases mode with _ | _ | d
  · exact hpattern none
  · exact hpattern _
  · exact absurd rfl (hmode d)

theorem linkSettings_refuses_mode (c : Nat) (pattern : Option (List (Named Bool))) :
    linkSettings (some (.unknown c)) pattern = .error .flowMode := rfl

/-! ### The links that take them -/

/-- The links a SetLinkMode names (R77). -/
def linksNamed : LinkSel → List LinkId
  | .one k => [k]
  | .all => allLinks

theorem linksNamed_nodup (sel : LinkSel) : (linksNamed sel).Nodup := by
  cases sel
  · exact List.nodup_singleton _
  · exact allLinks_nodup

theorem mem_linksNamed (sel : LinkSel) (k : LinkId) : k ∈ linksNamed sel ↔ sel = .all ∨ sel = .one k := by
  cases sel <;> simp [linksNamed, mem_allLinks, eq_comm]

/-- The settings wait on the links listed. -/
def State.settingsWait (ks : List LinkId) (set : LinkSettings) (s : State) : State :=
  ks.foldl (fun t k => t.setLink k { t.link k with waiting := set.over (t.link k).waiting }) s

theorem link_settingsWait {ks : List LinkId} (hks : ks.Nodup) (set : LinkSettings) (s : State) (n : LinkId) :
    (s.settingsWait ks set).link n = if n ∈ ks then { s.link n with waiting := set.over (s.link n).waiting } else s.link n := by
  unfold State.settingsWait
  induction ks generalizing s with
  | nil => simp
  | cons k rest ih =>
    obtain ⟨hk, hrest⟩ := List.nodup_cons.mp hks
    rw [List.foldl_cons, ih hrest, link_setLink]
    by_cases hn : n = k
    · subst hn; simp [hk]
    · simp [hn]

theorem ports_settingsWait (ks : List LinkId) (set : LinkSettings) (s : State) : (s.settingsWait ks set).ports = s.ports := by
  unfold State.settingsWait
  induction ks generalizing s with
  | nil => rfl
  | cons k rest ih => exact ih _

section Accepted
variable {mode : Option (Named FlowMode)} {pattern : Option (List (Named Bool))}

theorem onSetLinkMode_takes {set : LinkSettings} (h : linkSettings mode pattern = .ok set) (sel : LinkSel) (s : State) :
    onSetLinkMode (.known sel) mode pattern s = (s.settingsWait (linksNamed sel) set, .done []) := by
  cases sel <;> simp only [onSetLinkMode, h] <;> rfl

theorem onSetLinkMode_refuses {x : FieldName} (h : linkSettings mode pattern = .error x) (sel : LinkSel) (s : State) :
    onSetLinkMode (.known sel) mode pattern s = (s, .badValue x) := by
  simp only [onSetLinkMode, h]

end Accepted

theorem over_eq (a b : LinkSettings) :
    a.over b = { mode := if a.mode.isSome then a.mode else b.mode, pattern := if a.pattern.isSome then a.pattern else b.pattern } := by
  simp only [LinkSettings.over, orElse_eq_ite]

section Request
variable {p : PortId} {s : State} {mode : Option (Named FlowMode)} {pattern : Option (List (Named Bool))}

theorem answers_setLinkMode (hT : Taken p 17 s) (q : Byte) (sel : LinkSel) {set : LinkSettings} (h : linkSettings mode pattern = .ok set) :
    Answers (.setLinkMode p q (.known sel) mode pattern) p q 17 (doneWith []) [.links] untouched s
      (fun t => ∀ k, t.link k = if k ∈ linksNamed sel then { s.link k with waiting := set.over (s.link k).waiting } else s.link k) := by
  have hasked := onSetLinkMode_takes h sel (frameArrives p s)
  refine answers_of hT (by decide) (by decide) rfl hasked (only_foldl (fun k u => by simp) _)
    (fun n => port_of_ports (ports_settingsWait ..) n) fun k => ?_
  have hlink := link_settingsWait (linksNamed_nodup sel) set (frameArrives p s) k
  rwa [frameArrives_link] at hlink

theorem answers_setLinkMode_refused (hT : Taken p 17 s) (q : Byte) (sel : LinkSel) {x : FieldName} (h : linkSettings mode pattern = .error x) :
    Answers (.setLinkMode p q (.known sel) mode pattern) p q 17 (refusesField x) [] untouched s (fun _ => True) :=
  answers_unmoved hT (by decide) (by decide) rfl (onSetLinkMode_refuses h sel _)

end Request

/-! ### The next frame (R64, R73, R77) -/

/-- What a tick makes of the settings of a link: what waits is armed over what is armed already, and is in force where the tick begins the
link's first frame. -/
theorem link_tick_settings (f : FrameNo) (l : Link) :
    (l.tick f).waiting = .none ∧ (l.tick f).packet = l.packet
      ∧ (l.frame.isSome = true → (l.tick f).frame = l.frame ∧ (l.tick f).mode = l.mode ∧ (l.tick f).pattern = l.pattern
          ∧ (l.tick f).armed = l.waiting.over l.armed)
      ∧ (l.frame = none → (l.tick f).frame = some f ∧ (l.tick f).mode = (l.waiting.over l.armed).mode.getD l.mode
          ∧ (l.tick f).pattern = (l.waiting.over l.armed).pattern.getD l.pattern ∧ (l.tick f).armed = .none) := by
  unfold Link.tick
  cases hframe : l.frame <;> cases l.goesDown f <;> simp [hframe, Link.begin]

section Tick
variable {t0 : Nat} {k : LinkId} {l : Link} {s : State}

/-- A link with no frame to close meets a tick alone. -/
theorem link_timerTick (hl : s.link k = l) (h : l.toClose s.comp.frame = none) : (pump (timerTick s)).link k = l.tick (s.comp.frame + 1) := by
  have hkept : (forceCloseAll s).link k = s.link k := link_forceCloseAll (by rw [hl]; exact h)
  rw [link_pump, timerTick, link_frameTick, hkept, hl]

theorem frame_timerTick (s : State) : (pump (timerTick s)).comp.frame = s.comp.frame + 1 := by rw [pump_comp, timerTick, comp_frameTick]

/-- The settings armed at a tick are in force when the link begins its next frame. -/
theorem settings_wait_for_frameClose (hl : s.link k = l) (hframe : l.frame = some s.comp.frame) :
    ((pump (timerTick s)).link k).mode = l.mode ∧ ((pump (timerTick s)).link k).pattern = l.pattern
      ∧ ((pump (timerTick s)).link k).armed = l.waiting.over l.armed ∧ ((pump (timerTick s)).link k).waiting = .none
      ∧ (l.packet = none → ∃ u, exec (.frameClose k) (pump (timerTick s)) = .next u ∧ (u.link k).frame = some (pump (timerTick s)).comp.frame
          ∧ (u.link k).mode = (l.waiting.over l.armed).mode.getD l.mode
          ∧ (u.link k).pattern = (l.waiting.over l.armed).pattern.getD l.pattern ∧ (u.link k).armed = .none) := by
  have hlink := link_timerTick hl (toClose_current hframe)
  obtain ⟨hwaiting, hpacket, hsending, -⟩ := link_tick_settings (s.comp.frame + 1) l
  obtain ⟨hsame, hmode, hpattern, harmed⟩ := hsending (by simp [hframe])
  rw [hlink]
  refine ⟨hmode, hpattern, harmed, hwaiting, fun hp => ?_⟩
  have hpast : s.comp.frame ≠ (pump (timerTick s)).comp.frame := by
    rw [frame_timerTick]
    simp
  refine ⟨_, exec_frameClose hlink (hpacket.trans hp) (hsame.trans hframe) hpast, ?_⟩
  rw [link_pump, link_closed hlink (hpacket.trans hp), if_pos rfl]
  simp only [Link.closed, hmode, hpattern, harmed, and_self]

/-- The first tick begins a link's first frame, with what waits in force. -/
theorem settings_begin_at_tick (hl : s.link k = l) (hframe : l.frame = none) :
    ((pump (timerTick s)).link k).mode = (l.waiting.over l.armed).mode.getD l.mode
      ∧ ((pump (timerTick s)).link k).pattern = (l.waiting.over l.armed).pattern.getD l.pattern
      ∧ ((pump (timerTick s)).link k).armed = .none ∧ ((pump (timerTick s)).link k).waiting = .none
      ∧ ((pump (timerTick s)).link k).frame = some (pump (timerTick s)).comp.frame := by
  have hlink := link_timerTick hl (toClose_unbegun hframe)
  obtain ⟨hwaiting, -, -, hfirst⟩ := link_tick_settings (s.comp.frame + 1) l
  obtain ⟨hbegun, hmode, hpattern, harmed⟩ := hfirst hframe
  rw [hlink, frame_timerTick]
  exact ⟨hmode, hpattern, harmed, hwaiting, hbegun⟩

end Tick

/-- Settles O11: the request writes the waiting settings alone, a tick arms them, and the frame begun next takes them. -/
theorem linkSettingsWaitForTheNextFrame : Obligations.LinkSettingsWaitForTheNextFrame := by
  refine ⟨fun p q sel mode pattern s hT => ⟨fun h => ?_, fun l hl h => ?_⟩, fun p q sel mode pattern s hT => ⟨fun c => ?_, fun c hc => ?_,
    fun l c hmode hl hc => ?_⟩, ?_⟩
  · refine (answers_setLinkMode hT q sel (linkSettings_accepts h)).imp fun t ht k => ?_
    simp only [ht k, mem_linksNamed, over_eq]
  · subst hl
    refine answers_setLinkMode_refused hT q sel (linkSettings_refuses_pattern ?_ fun p hp => ?_)
    · cases mode <;> simp
    · rw [patternOf_known, Option.some.injEq] at hp
      exact hp ▸ h
  · exact answers_unmoved hT (by decide) (by decide) rfl rfl
  · exact answers_setLinkMode_refused hT q sel (hc ▸ linkSettings_refuses_mode c pattern)
  · have hnone := patternOf_unknown hc
    exact answers_setLinkMode_refused hT q sel (hl ▸ linkSettings_refuses_pattern hmode (by simp [hnone]))
  · intro t0 k l s hdue hl due
    have hover : l.waiting.over l.armed = due := over_eq ..
    refine ⟨fun hframe => ⟨_, exec_frameTimerExpiry hdue, ?_⟩, fun hframe => ⟨_, exec_frameTimerExpiry hdue, ?_⟩⟩
    · rw [← hover]
      exact settings_wait_for_frameClose hl hframe
    · rw [← hover]
      exact settings_begin_at_tick hl hframe

end Sys2Proof.Machine
end


section
/-! PROOF. The delivery record of a closed frame, and the tally (O43). -/

namespace Sys2Proof.Machine

/-! ### A record is handed over (R74, R139) -/

theorem stale_nonempty_iff (d : DeliveryRecord) : (!d.stale.isEmpty) = true ↔ ∃ i, i < 96 ∧ i ∉ d.delivered := by
  simp [DeliveryRecord.stale, List.filter_eq_nil_iff]

/-- A record joins the others, or is the last of its frame to be tallied. -/
theorem takeRecord_cases (d : DeliveryRecord) (s : State) :
    (∃ e, takeRecord d s = { s with exposure := e }) ∨ ∃ m records e, takeRecord d s = tally m records { s with exposure := e } := by
  unfold takeRecord
  simp only
  split
  · split
    · exact .inr ⟨_, _, _, rfl⟩
    · exact .inl ⟨_, rfl⟩
  · exact .inl ⟨_, rfl⟩

/-- The last of a frame's eight records: the tally is taken, and the records of the frame are released. -/
theorem takeRecord_tallies {d : DeliveryRecord} {m : ComposedMap} {others : List DeliveryRecord} {s : State}
    (hothers : others = s.exposure.records.filter (fun x => decide (x.frame = d.frame))) (hseven : others.length = 7)
    (hprevious : s.comp.previous = some m) (hm : m.frame = d.frame) :
    takeRecord d s
      = tally m (others ++ [d])
          { s with exposure := { s.exposure with records := s.exposure.records.filter (fun x => !decide (x.frame = d.frame)) } } := by
  have hmine : (s.exposure.records ++ [d]).filter (fun x => decide (x.frame = d.frame)) = others ++ [d] := by simp [hothers]
  have hrest : (s.exposure.records ++ [d]).filter (fun x => !decide (x.frame = d.frame))
      = s.exposure.records.filter (fun x => !decide (x.frame = d.frame)) := by simp
  simp only [takeRecord, hmine, hrest, keptMap, hprevious, hm, List.length_append, hseven, if_true]
  rfl

/-! ### One account (R138, R142, R143) -/

theorem frameCredit_le (m : ComposedMap) (records : List DeliveryRecord) (c : Contract) : frameCredit m records c ≤ 256 := Nat.min_le_left ..

/-- An account within its range loses nothing by a tally, gains at most 256 units, and in Setup none. -/
theorem tallyContract_gains {c : Contract} (hc : c.accrued ≤ 4294967295) (live : Bool) (m : ComposedMap) (records : List DeliveryRecord) :
    (tallyContract live m records c).terms = c.terms ∧ c.accrued ≤ (tallyContract live m records c).accrued
      ∧ (tallyContract live m records c).accrued ≤ c.accrued + 256
      ∧ (live = false → (tallyContract live m records c).accrued = c.accrued) ∧ (tallyContract live m records c).history = c.history
      ∧ (tallyContract live m records c).cut = c.cut ∧ (tallyContract live m records c).shown = c.shown := by
  unfold tallyContract
  split
  · cases live
    · exact ⟨rfl, Nat.le_refl _, Nat.le_add_right .., fun _ => rfl, rfl, rfl, rfl⟩
    · have hcredit := frameCredit_le m records c
      refine ⟨rfl, ?_, ?_, nofun, rfl, rfl, rfl⟩
      · show c.accrued ≤ min 4294967295 (c.accrued + frameCredit m records c)
        omega
      · show min 4294967295 (c.accrued + frameCredit m records c) ≤ c.accrued + 256
        omega
  · exact ⟨rfl, Nat.le_refl _, Nat.le_add_right .., fun _ => rfl, rfl, rfl, rfl⟩

/-! ### The credit of a frame (R141, R142) -/

/-- Of the elements of a list with a key each of its own, those of one key are the first of that key. -/
theorem filter_key_eq_find? {α β : Type} [DecidableEq β] (key : α → β) (b : β) {l : List α} (h : (l.map key).Nodup) :
    l.filter (fun x => decide (key x = b)) = (l.find? (fun x => decide (key x = b))).toList := by
  induction l with
  | nil => rfl
  | cons x rest ih =>
    obtain ⟨hx, hrest⟩ := List.nodup_cons.mp h
    by_cases hb : key x = b
    · have hnone : rest.filter (fun y => decide (key y = b)) = [] := by
        simp only [List.filter_eq_nil_iff, decide_eq_true_eq]
        exact fun y hy hyb => hx (List.mem_map.mpr ⟨y, hy, hyb.trans hb.symm⟩)
      simp [hb, hnone]
    · simp [hb, ih hrest]

/-- The tiles of a region that it supplied and a link delivered, by the one plane it has in a map (R141). -/
theorem visibleTiles_eq {m : ComposedMap} (h : (m.planes.map (fun x => x.region)).Nodup) (records : List DeliveryRecord) (r : RegionId) :
    visibleTiles m records r
      = ((m.planes.filter (fun x => decide (x.region = r))).flatMap (fun x =>
          x.tiles.filter (fun c => decide ((m.supplier c.1 c.2).region = r) && deliveredIn records c.1 c.2))).length := by
  rw [filter_key_eq_find? (fun x : Plane => x.region) r h, visibleTiles]
  split
  · next hnone => rw [hnone]; rfl
  · next x hx => rw [hx, Option.toList_some, List.flatMap_singleton]; rfl

theorem frameCredit_eq (m : ComposedMap) (records : List DeliveryRecord) (c : Contract) :
    frameCredit m records c
      = min 256 ((m.spots.filter (fun e => decide (e.contract = c.terms.id))).map (fun e =>
          if c.terms.qmin ≤ 256 * visibleTiles m records e.region / e.tiles then 256 * visibleTiles m records e.region / e.tiles else 0)).sum := by
  rw [frameCredit, List.sum_eq_foldl]
  rfl

theorem tallyContract_eq (m : ComposedMap) (records : List DeliveryRecord) (s : State) (c : Contract) :
    tallyContract s.live m records c
      = if m.spots.any (fun e => decide (e.contract = c.terms.id)) = true then
          if s.canvas.mode = .live then
            { c with accrued := min 4294967295 (c.accrued + frameCredit m records c), lastCredit := some (frameCredit m records c, m.frame) }
          else { c with lastCredit := some (0, m.frame) }
        else c := by
  simp only [tallyContract, inSpotList, State.live, decide_eq_true_eq]
  rfl

/-! ### FRAME_CLOSE (R73, R74, R79, R139) -/

section Close
variable {k : LinkId} {f : FrameNo} {l : Link} {s : State}

/-- The close of a frame hands over its record, and beside that touches links and monitors alone. -/
theorem closing_hands_over (hl : s.link k = l) (hp : l.packet = none) :
    ∃ a, Only [.links, .monitors] s a
      ∧ Only [.links, .monitors] (takeRecord { frame := f, link := k, delivered := l.acked, started := l.started, nacks := l.nacks } a)
          (closeFrame k f (changeLink k (Link.result false) s)) := by
  have hclose := only_closeFrame k f (changeLink k (Link.result false) s)
  rw [link_closing hl hp, hl] at hclose
  exact ⟨_, by simp [State.recorded], hclose⟩

theorem condition_closing (hl : s.link k = l) (hp : l.packet = none) :
    let t := closeFrame k f (changeLink k (Link.result false) s)
    ((t.monitor (monIncomplete k)).condition = true ↔ ∃ i, i < 96 ∧ i ∉ l.acked) ∧ (t.monitor (monRetry k)).condition = l.spent := by
  obtain ⟨hincomplete, hretry⟩ := condition_closeFrame k f (changeLink k (Link.result false) s)
  rw [link_closing hl hp, hl] at hincomplete hretry
  exact ⟨by rw [hincomplete, stale_nonempty_iff]; rfl, hretry⟩

/-- Of the rotation, the accounts alone may change, each by what its contract earned. -/
theorem rotation_closing (hl : s.link k = l) (hp : l.packet = none) :
    let t := closeFrame k f (changeLink k (Link.result false) s)
    t.rotation = { s.rotation with contracts := t.rotation.contracts }
      ∧ (t.rotation.contracts = s.rotation.contracts
        ∨ ∃ m records, t.rotation.contracts = s.rotation.contracts.map (tallyContract s.live m records)) := by
  obtain ⟨a, hbefore, hafter⟩ := closing_hands_over (f := f) hl hp
  have hrotation : a.rotation = s.rotation := hbefore.2 .rotation (by simp)
  have hlive : a.live = s.live := by rw [State.live, hbefore.canvas]; rfl
  intro t
  have ht : t.rotation = (takeRecord _ a).rotation := hafter.2 .rotation (by simp)
  rcases takeRecord_cases _ a with ⟨e, he⟩ | ⟨m, records, e, he⟩
  · rw [ht, he]
    exact ⟨by rw [← hrotation], .inl (by rw [← hrotation])⟩
  · rw [ht, he, ← hrotation, ← hlive]
    exact ⟨rfl, .inr ⟨m, records, rfl⟩⟩

theorem contracts_closing (hl : s.link k = l) (hp : l.packet = none) (hlaw : RotationLaw s) :
    List.Forall₂
      (fun c d => d.terms = c.terms ∧ c.accrued ≤ d.accrued ∧ d.accrued ≤ c.accrued + 256
        ∧ (s.canvas.mode = .setup → d.accrued = c.accrued) ∧ d.history = c.history ∧ d.cut = c.cut ∧ d.shown = c.shown)
      s.rotation.contracts (closeFrame k f (changeLink k (Link.result false) s)).rotation.contracts := by
  obtain ⟨-, -, -, -, -, -, haccounts, -⟩ := hlaw
  obtain ⟨-, hsame | ⟨m, records, htally⟩⟩ := rotation_closing (f := f) hl hp
  · rw [hsame, List.forall₂_same]
    exact fun c _ => ⟨rfl, Nat.le_refl _, Nat.le_add_right .., fun _ => rfl, rfl, rfl, rfl⟩
  · rw [htally, List.forall₂_map_right_iff, List.forall₂_same]
    intro c hc
    obtain ⟨-, -, hrange, -⟩ := haccounts c hc
    obtain ⟨hterms, hge, hle, hsetup, hrest⟩ := tallyContract_gains hrange s.live m records
    exact ⟨hterms, hge, hle, fun hmode => hsetup (live_of_setup hmode), hrest⟩

/-- The last of a frame's eight links to close it has the tally taken. -/
theorem closing_tallies {m : ComposedMap} {others : List DeliveryRecord} (hl : s.link k = l) (hp : l.packet = none)
    (hothers : others = s.exposure.records.filter (fun x => decide (x.frame = f))) (hseven : others.length = 7)
    (hprevious : s.comp.previous = some m) (hm : m.frame = f) :
    let t := closeFrame k f (changeLink k (Link.result false) s)
    let records := others ++ [{ frame := f, link := k, delivered := l.acked, started := l.started, nacks := l.nacks }]
    t.exposure = { lastTallied := some f, records := s.exposure.records.filter (fun x => !decide (x.frame = f)) }
      ∧ t.comp = { s.comp with previous := none }
      ∧ t.rotation = { s.rotation with contracts := s.rotation.contracts.map (tallyContract s.live m records) } := by
  obtain ⟨a, hbefore, hafter⟩ := closing_hands_over (f := f) hl hp
  have hexposure : a.exposure = s.exposure := hbefore.2 .exposure (by simp)
  have hlive : a.live = s.live := by rw [State.live, hbefore.canvas]; rfl
  rw [takeRecord_tallies (by rw [hexposure]; exact hothers) hseven (by rw [hbefore.comp]; exact hprevious) hm] at hafter
  intro t records
  refine ⟨?_, ?_, ?_⟩
  · rw [show t.exposure = _ from hafter.2 .exposure (by simp), ← hexposure, ← hm]
    rfl
  · rw [show t.comp = _ from hafter.comp, ← hbefore.comp]
    rfl
  · rw [show t.rotation = _ from hafter.2 .rotation (by simp), ← hbefore.2 .rotation (by simp), ← hlive]
    rfl

end Close

/-- Settles O43: the link's own part, its two monitors, and what `takeRecord` makes of the record; a credit is summed over the spot list. -/
theorem frameCloseRecordsTheDelivery : Obligations.FrameCloseRecordsTheDelivery := by
  refine ⟨fun k f l s hl hp hframe hpast => ?_, ?_⟩
  · have hlink (n : LinkId) : (pump (closeFrame k f (changeLink k (Link.result false) s))).link n
        = if n = k then l.closed k f s.comp.frame else s.link n := by rw [link_pump, link_closed hl hp]
    have hself := (hlink k).trans (if_pos rfl)
    obtain ⟨hincomplete, hretry⟩ := condition_closing (f := f) hl hp
    obtain ⟨hrotation, -⟩ := rotation_closing (f := f) hl hp
    refine ⟨_, exec_frameClose hl hp hframe hpast, ?_⟩
    rw [hself, pump_rotation, monitor_pump, monitor_pump]
    refine ⟨rfl, rfl, rfl, rfl, rfl, rfl, rfl, rfl, rfl, rfl, rfl, rfl, rfl, rfl, rfl, rfl, rfl, rfl,
      fun n hn => (hlink n).trans (if_neg hn), hincomplete, hretry, ?_, hrotation, contracts_closing hl hp⟩
    simp [closeFrame]
  · intro k f l m others s hl hp hframe hpast hothers hseven hprevious hm hnodup records shown visible credit
    obtain ⟨hexposure, hcomp, hrotation⟩ := closing_tallies hl hp hothers hseven hprevious hm
    refine ⟨_, exec_frameClose hl hp hframe hpast, ?_⟩
    rw [pump_exposure, pump_comp, pump_rotation]
    refine ⟨hexposure, hcomp, ?_⟩
    have hvisible (e : SpotEntry) : visibleTiles m records e.region = visible e := visibleTiles_eq hnodup records e.region
    have hcredit (c : Contract) : frameCredit m records c = credit c := by
      rw [frameCredit_eq]
      simp only [hvisible]
      rfl
    refine hrotation.trans (congrArg (fun x => { s.rotation with contracts := x }) (List.map_congr_left fun c _ => ?_))
    rw [tallyContract_eq, hm, hcredit]

end Sys2Proof.Machine
end

section
/-! SUPPORT. What the operations of the Clock Unit make of the clock record, and what a capture event makes of the Capture Slots (R84 to R98,
R109, R110). -/

namespace Sys2Proof.Machine

-- The proofs are checked one after another: side by side they ask for more threads than the memory limit leaves.
set_option Elab.async false

/-! ### The clock record, operation by operation (R84 to R98) -/

/-- One ms of a Running clock (R84, R85). -/
theorem count_running {k : Clock} (h : k.state = .running) :
    k.count = { k with
      now := k.now + 1
      main := if (k.now + 1).toNat % 100 = 0 ∧ 0 < k.correction then k.main
        else if (k.now + 1).toNat % 100 = 0 ∧ k.correction < 0 then k.main - 2 else k.main - 1
      correction := if (k.now + 1).toNat % 100 = 0 ∧ 0 < k.correction then k.correction - 1
        else if (k.now + 1).toNat % 100 = 0 ∧ k.correction < 0 then k.correction + 1 else k.correction
      possession := k.possession - 1 } := by
  simp only [Clock.count, Clock.lowerMain, boundaryMs, h, if_true, Bool.and_eq_true, decide_eq_true_eq]
  split_ifs <;> rfl

/-- A clock that is not Running stands (R84). -/
theorem count_standing {k : Clock} (h : k.state ≠ .running) : k.count = { k with now := k.now + 1 } := if_neg h

theorem revive_eq (k : Clock) : k.revive = { k with state := if k.state = .expired ∧ 0 < k.main then .stopped else k.state } := by
  unfold Clock.revive
  split <;> rfl

theorem sound_expired (k : Clock) : ({ k with state := .expired, correction := 0 } : Clock).sound = expiredClock k := by
  cases h : k.horn <;> simp [Clock.sound, expiredClock, laterMs, msReached, msSince, h]

theorem clock_mainExpiry (s : State) : (mainExpiry s).clock = expiredClock s.clock := by
  rw [mainExpiry, tellClock_clock, clock_captureEvent, ← sound_expired]
  rfl

theorem clock_possessionExpiry (s : State) : (possessionExpiry s).clock = s.clock.sound := by
  rw [possessionExpiry, tellClock_clock, clock_captureEvent]
  rfl

/-- The clock record after a ms step: counted down, expired where that is due, and the horn's end tested (R84, R95 to R97). -/
def Clock.stepped (k : Clock) : Clock :=
  let u := if k.possessionDue then k.count.sound else k.count
  (if k.mainDue then expiredClock u else u).testHorn

theorem clock_clockStep (s : State) : (clockStep s).clock = s.clock.stepped := by
  unfold clockStep Clock.stepped
  extract_lets k t u v w
  have hu : u.clock = w := by
    unfold u w
    split
    · exact clock_possessionExpiry t
    · rfl
  have hv : v.clock = if k.mainDue then expiredClock w else w := by
    unfold v
    split
    · rw [clock_mainExpiry, hu]
    · exact hu
  exact congrArg Clock.testHorn hv

/-- The horn's test leaves all but the horn (R97). -/
theorem testHorn_eq (k : Clock) : k.testHorn = { k with horn := k.testHorn.horn } := by
  unfold Clock.testHorn
  split
  · rfl
  · split <;> rfl

/-- The clock record after a whistle edge that is taken (R98). -/
def Clock.whistled (k : Clock) : Clock :=
  { k with lastWhistle := some k.now, state := if k.whistleStop = true ∧ k.state = .running then .stopped else k.state }

/-- A whistle stops the clock where it may, and makes its capture event; with a stop it tells the clock's ports (R98). -/
theorem whistleTaken_eq (s : State) :
    whistleTaken s = if s.clock.whistleStop = true ∧ s.clock.state = .running then
        tellClock .stopped [stopWhistle] (captureEvent .whistle none (setClock s.clock.whistled s))
      else captureEvent .whistle none (setClock s.clock.whistled s) := by
  by_cases h : s.clock.whistleStop = true ∧ s.clock.state = .running
  · rw [if_pos h, Clock.whistled, if_pos h]
    exact if_pos (by simp only [Bool.and_eq_true, State.running, decide_eq_true_eq]; exact h)
  · rw [if_neg h, Clock.whistled, if_neg h]
    exact if_neg (by simp only [Bool.and_eq_true, State.running, decide_eq_true_eq]; exact h)

theorem clock_whistleTaken (s : State) : (whistleTaken s).clock = s.clock.whistled := by
  rw [whistleTaken_eq]
  split
  · rw [tellClock_clock, clock_captureEvent]
    rfl
  · rw [clock_captureEvent]
    rfl

/-! ### ClockAdjust and ClockMark, case by case (R89, R93, R94, R99) -/

theorem clampInt_eq {lo hi : Int} (h : lo ≤ hi) (n : Int) : clampInt lo hi n = if n < lo then lo else if hi < n then hi else n := by
  unfold clampInt
  split_ifs <;> omega

/-- R after a ClockAdjust, within its range (R89). -/
def adjustedMain (delta : Int) (k : Clock) : Int := clampInt 0 mainMax ((k.main : Int) + clampInt (-600000) 600000 delta)

theorem adjustedMain_range (delta : Int) (k : Clock) : 0 ≤ adjustedMain delta k ∧ adjustedMain delta k ≤ 5999999 := by
  unfold adjustedMain clampInt mainMax
  exact ⟨le_max_left .., max_le (by decide) (min_le_left ..)⟩

/-- What a ClockAdjust answers (R89). -/
def adjustAnswer (delta : Int) (k : Clock) : Ans :=
  .doneAdjusted (decide (clampInt (-600000) 600000 delta ≠ delta)
      || decide (adjustedMain delta k ≠ (k.main : Int) + clampInt (-600000) 600000 delta)) [nat (adjustedMain delta k).toNat]

theorem onClockAdjust_stores {delta : Int} {s : State} (h : ¬(s.clock.state = .running ∧ adjustedMain delta s.clock = 0)) :
    onClockAdjust delta s
      = (setClock (Clock.revive { s.clock with main := (adjustedMain delta s.clock).toNat }) s, adjustAnswer delta s.clock) := by
  have hr := adjustedMain_range delta s.clock
  have hno : ¬(s.running && decide ((adjustedMain delta s.clock).toNat = 0)) = true := by
    simp only [State.running, Bool.and_eq_true, decide_eq_true_eq]
    exact fun ⟨hrun, h0⟩ => h ⟨hrun, by omega⟩
  unfold onClockAdjust
  exact Prod.ext (if_neg hno) rfl

theorem onClockAdjust_expires {delta : Int} {s : State} (hr : s.clock.state = .running) (h0 : adjustedMain delta s.clock = 0) :
    onClockAdjust delta s = (mainExpiry (setClock { s.clock with main := 0 } s), adjustAnswer delta s.clock) := by
  have hyes : (s.running && decide ((adjustedMain delta s.clock).toNat = 0)) = true := by simp [State.running, hr, h0]
  have hset : Clock.revive { s.clock with main := (adjustedMain delta s.clock).toNat } = { s.clock with main := 0 } := by
    simp [Clock.revive, hr, h0]
  unfold onClockAdjust
  refine Prod.ext ((if_pos hyes).trans ?_) rfl
  rw [← hset]
  rfl

/-- A mark clears Unsupervised, whatever else it does (R99). -/
theorem clock_superviseClock (s : State) : (superviseClock s).clock = { s.clock with unsupervised := false } := by
  have h : Only [.monitors] (setClock { s.clock with unsupervised := false } s) (superviseClock s) := by simp [superviseClock]
  exact h.2 .clock (by decide)

/-- The clock record that a mark of `m` sets (R93, R94). -/
def Clock.marked (m : Nat) (k : Clock) : Clock := { k with main := m, correction := 0, unsupervised := false }

/-- The step of a mark of `m`, `e` from R, beyond the window, with its Resync (R93). -/
def resynced (m : Nat) (e : Int) (s : State) : State := tellClock .resync [.num e] (setClock (s.clock.marked m) (superviseClock s))

section Mark
variable {mark m : Nat} {e : Int} {s : State}

/-- What a mark does to the clock, and how it answers (R93, R94). -/
theorem onClockMark_eq (hm : m = min 5999999 mark) (he : e = (m : Int) - (s.clock.main : Int)) :
    onClockMark mark s =
      if s.clock.state = .running then
        if e.natAbs ≤ s.clock.window then
          (setClock { s.clock with correction := e, unsupervised := false } (superviseClock s),
            .doneAdjusted (decide (5999999 < mark)) [markSlew, .num e])
        else
          (if m = 0 then mainExpiry (resynced m e s) else resynced m e s, .doneAdjusted (decide (5999999 < mark)) [markStep, .num e])
      else if e.natAbs ≤ s.clock.hysteresis then
        (superviseClock s, .doneAdjusted (decide (5999999 < mark)) [markIgnored, .num e])
      else
        (setClock (s.clock.marked m).revive (superviseClock s), .doneAdjusted (decide (5999999 < mark)) [markSet, .num e]) := by
  have hhit : clampHits 0 mainMax mark = decide (5999999 < mark) := clampHits_zero ..
  have hclamp : clamp 0 mainMax mark = m := (clamp_eq_min ..).trans hm.symm
  simp only [onClockMark, hclamp, hhit, ← he, clock_superviseClock, State.running, decide_eq_true_eq]
  rfl

end Mark

/-! ### A capture event (R109, R110) -/

/-- Whether a slot is in use. -/
def slotUsed (n : Fin 2) (l : List (Fin 2 × Capture)) : Bool := l.any (fun e => decide (e.1 = n))

theorem slotUsed_iff {n : Fin 2} {l : List (Fin 2 × Capture)} : slotUsed n l = true ↔ ∃ e ∈ l, e.1 = n := by simp [slotUsed]

theorem freeSlot_eq (l : List (Fin 2 × Capture)) : freeSlot l = if !slotUsed 0 l then some 0 else if !slotUsed 1 l then some 1 else none := rfl

theorem freeSlot_none_iff {l : List (Fin 2 × Capture)} : freeSlot l = none ↔ slotUsed 0 l = true ∧ slotUsed 1 l = true := by
  rw [freeSlot_eq]
  cases slotUsed 0 l <;> cases slotUsed 1 l <;> simp

/-- The lowest-numbered slot that is not in use (R110). -/
theorem freeSlot_some_iff {l : List (Fin 2 × Capture)} {n : Fin 2} :
    freeSlot l = some n ↔ slotUsed n l = false ∧ (n = 1 → slotUsed 0 l = true) := by
  rw [freeSlot_eq]
  obtain rfl | rfl : n = 0 ∨ n = 1 := by omega
  · cases slotUsed 0 l <;> cases slotUsed 1 l <;> simp
  · cases slotUsed 0 l <;> cases slotUsed 1 l <;> simp

/-- The Capture Slots after an event that hands capture `c` to them (R110). -/
def Captures.after (x : Captures) (c : Capture) : Captures :=
  match freeSlot x.held with
  | none => { x with counter := c.number, overflow := true }
  | some slot => { x with held := x.held ++ [(slot, c)], counter := c.number }

theorem captures_captureEvent (source : CaptureSource) (port : Option PortId) (s : State) :
    (captureEvent source port s).captures = s.captures.after (captureNow source port (nextCaptureNumber s.captures.counter) s) := by
  unfold captureEvent Captures.after
  simp only
  cases freeSlot s.captures.held <;> rfl

end Sys2Proof.Machine
end

section
/-! SUPPORT. The laws of clock, score and Capture Slots, record by record, and the operations that keep them (R83, R84, R95, R100, R101, R109). -/

namespace Sys2Proof.Machine

-- The proofs are checked one after another: side by side they ask for more threads than the memory limit leaves.
set_option Elab.async false

/-! ### The clock record (R83, R84, R95) -/

/-- The ranges of the clock record (R83). -/
structure Clock.InRange (k : Clock) : Prop where
  main : k.main ≤ 5999999
  possession : k.possession ≤ 99999
  period : 1 ≤ k.period ∧ k.period ≤ 9
  correction : -5999999 ≤ k.correction ∧ k.correction ≤ 5999999
  length : 1000 ≤ k.length ∧ k.length ≤ 5999999
  possessionReset : 1000 ≤ k.possessionReset ∧ k.possessionReset ≤ 99999
  window : k.window ≤ 2000
  hysteresis : k.hysteresis ≤ 500
  hornLength : 200 ≤ k.hornLength ∧ k.hornLength ≤ 5000

/-- A Running clock has time left, an Expired one has none (R84, R95). -/
structure Clock.Lawful (k : Clock) : Prop extends k.InRange where
  running : k.state = .running → 0 < k.main
  expired : k.state = .expired → k.main = 0

theorem clockLaw_iff (s : State) : ClockLaw s ↔ s.clock.Lawful := by
  constructor
  · rintro ⟨h1, h2, h3, h4, h5, h6, h7, h8, h9, h10, h11, h12, h13, h14, hr, he⟩
    exact ⟨⟨h1, h2, ⟨h3, h4⟩, ⟨h5, h6⟩, ⟨h7, h8⟩, ⟨h9, h10⟩, h11, h12, h13, h14⟩, hr, he⟩
  · rintro ⟨⟨h1, h2, ⟨h3, h4⟩, ⟨h5, h6⟩, ⟨h7, h8⟩, ⟨h9, h10⟩, h11, h12, h13, h14⟩, hr, he⟩
    exact ⟨h1, h2, h3, h4, h5, h6, h7, h8, h9, h10, h11, h12, h13, h14, hr, he⟩

section Records
variable {k : Clock}

theorem inRange_count (h : k.InRange) : k.count.InRange := by
  by_cases hr : k.state = .running
  · rw [count_running hr]
    have hm := h.main
    have hp := h.possession
    have hc := h.correction
    refine { h with main := ?_, possession := ?_, correction := ?_ }
    · dsimp only; split_ifs <;> omega
    · dsimp only; omega
    · dsimp only; split_ifs <;> omega
  · rw [count_standing hr]
    exact { h with }

theorem inRange_sound (h : k.InRange) : k.sound.InRange := { h with }

theorem lawful_sound (h : k.Lawful) : k.sound.Lawful := { h with }

theorem lawful_testHorn (h : k.Lawful) : k.testHorn.Lawful := by
  rw [testHorn_eq]
  exact { h with }

/-- An expiry at R = 0 leaves a lawful clock (R95). -/
theorem lawful_expiredClock (h : k.InRange) (hm : k.main = 0) : (expiredClock k).Lawful :=
  { h with correction := show -5999999 ≤ (0 : Int) ∧ (0 : Int) ≤ 5999999 by decide, running := nofun, expired := fun _ => hm }

/-- Where the main expiry is not due, R has not reached 0. -/
theorem lawful_count (h : k.Lawful) (hdue : k.mainDue = false) : k.count.Lawful := by
  refine { inRange_count h.toInRange with running := fun hr => ?_, expired := fun he => ?_ }
  all_goals by_cases hk : k.state = .running
  · simpa [Clock.mainDue, hk, Nat.pos_iff_ne_zero] using hdue
  · rw [count_standing hk] at hr
    exact absurd hr hk
  · rw [count_running hk] at he
    exact nomatch hk.symm.trans he
  · rw [count_standing hk] at he ⊢
    exact h.expired he

theorem lawful_stepped (h : k.Lawful) : k.stepped.Lawful := by
  have hrange : (if k.possessionDue then k.count.sound else k.count).InRange := by
    split
    · exact inRange_sound (inRange_count h.toInRange)
    · exact inRange_count h.toInRange
  refine lawful_testHorn ?_
  split
  · next hdue =>
    refine lawful_expiredClock hrange ?_
    have hzero : k.count.main = 0 := by simp [Clock.mainDue] at hdue; exact hdue.2
    split
    · exact hzero
    · exact hzero
  · next hdue =>
    have hcount := lawful_count h (by simpa using hdue)
    split
    · exact lawful_sound hcount
    · exact hcount

/-- A clock set anew within its ranges while it is not Running becomes Stopped where it was Expired and has time again (R88, R89, R94). -/
theorem lawful_revive (h : k.InRange) (hr : k.state = .running → 0 < k.main) : k.revive.Lawful := by
  rw [revive_eq]
  refine { h with running := ?_, expired := ?_ }
  · dsimp only
    split_ifs
    · nofun
    · exact hr
  · dsimp only
    split_ifs with h0
    · nofun
    · intro he
      simp only [he, true_and] at h0
      omega

theorem count_state (k : Clock) : k.count.state = k.state := by
  by_cases hr : k.state = .running
  · rw [count_running hr]
  · rw [count_standing hr]

theorem count_main_le (k : Clock) : k.count.main ≤ k.main := by
  by_cases hr : k.state = .running
  · rw [count_running hr]
    dsimp only
    split_ifs <;> omega
  · rw [count_standing hr]

/-- No time is gained: a clock Running now was Running, with as much time or more (R83). -/
def Clock.Onward (k l : Clock) : Prop := l.state = .running → k.state = .running ∧ l.main ≤ k.main

theorem onward_stepped (k : Clock) : k.Onward k.stepped := by
  have hcount : k.Onward k.count := fun h => ⟨(count_state k).symm.trans h, count_main_le k⟩
  unfold Clock.stepped
  extract_lets u
  have hu : k.Onward u := by
    unfold u
    split
    · exact hcount
    · exact hcount
  rw [testHorn_eq]
  split
  · nofun
  · exact hu

end Records

/-! ### The score record (R100, R101) -/

/-- The ranges of the score record (R100, R101). -/
structure Score.Lawful (x : Score) : Prop where
  home : x.home ≤ 999
  away : x.away ≤ 999
  homeFouls : x.homeFouls ≤ 99
  awayFouls : x.awayFouls ≤ 99
  homeTimeouts : x.homeTimeouts ≤ 9
  awayTimeouts : x.awayTimeouts ≤ 9
  flashLength : x.flashLength ≤ 120
  flash : x.flashLeft + x.flashUsed ≤ 120

theorem scoreLaw_iff (s : State) : ScoreLaw s ↔ s.score.Lawful :=
  ⟨fun ⟨h1, h2, h3, h4, h5, h6, h7, h8⟩ => ⟨h1, h2, h3, h4, h5, h6, h7, h8⟩,
    fun ⟨h1, h2, h3, h4, h5, h6, h7, h8⟩ => ⟨h1, h2, h3, h4, h5, h6, h7, h8⟩⟩

theorem clampOr_le {lo hi held : Nat} (hlo : lo ≤ hi) (hheld : held ≤ hi) (n : Option Nat) : clampOr lo hi held n ≤ hi := by
  cases n with
  | none => exact hheld
  | some n => exact max_le hlo (min_le_left hi n)

theorem le_clampOr {lo hi held : Nat} (hheld : lo ≤ held) (n : Option Nat) : lo ≤ clampOr lo hi held n := by
  cases n with
  | none => exact hheld
  | some n => exact le_max_left lo _

theorem lawful_useFlash {x : Score} (h : x.Lawful) : x.useFlash.Lawful := by
  have hflash := h.flash
  unfold Score.useFlash
  split
  · exact { h with flash := by dsimp only; omega }
  · exact h

/-- A changed score starts the flash from its full length (R101). -/
theorem lawful_storeScore {x : Score} (h : x.Lawful) (f : ScoreFields) (a : Arrow) : (storeScore f a x).Lawful := by
  unfold storeScore
  extract_lets y
  have hy : y.Lawful :=
    ⟨clampOr_le (Nat.zero_le _) h.home _, clampOr_le (Nat.zero_le _) h.away _, clampOr_le (Nat.zero_le _) h.homeFouls _,
      clampOr_le (Nat.zero_le _) h.awayFouls _, clampOr_le (Nat.zero_le _) h.homeTimeouts _, clampOr_le (Nat.zero_le _) h.awayTimeouts _,
      h.flashLength, h.flash⟩
  split
  · exact { hy with flash := h.flashLength }
  · exact hy

/-! ### The Capture Slots (R109, R110, R114) -/

/-- The law of the Capture Slots (R109, R114). -/
structure Captures.Lawful (x : Captures) : Prop where
  few : x.held.length ≤ 2
  slots : (x.held.map (fun e => e.1)).Nodup
  numbers : ∀ e ∈ x.held, 1 ≤ e.2.number ∧ e.2.number ≤ 65535
  counter : x.counter ≤ 65535
  overflow : x.overflow = true → x.held.length = 2

theorem captureLaw_iff (s : State) : CaptureLaw s ↔ s.captures.Lawful :=
  ⟨fun ⟨h1, h2, h3, h4, h5⟩ => ⟨h1, h2, h3, h4, h5⟩, fun ⟨h1, h2, h3, h4, h5⟩ => ⟨h1, h2, h3, h4, h5⟩⟩

theorem nextCaptureNumber_range {n : Nat} (h : n ≤ 65535) : 1 ≤ nextCaptureNumber n ∧ nextCaptureNumber n ≤ 65535 := by
  unfold nextCaptureNumber
  split <;> omega

/-- Where no slot is free, two captures are held. -/
theorem length_of_full {l : List (Fin 2 × Capture)} (h0 : slotUsed 0 l = true) (h1 : slotUsed 1 l = true) : 2 ≤ l.length := by
  have hsub : [0, 1] ⊆ l.map (fun e => e.1) := by
    obtain ⟨a, ha, ha0⟩ := slotUsed_iff.mp h0
    obtain ⟨b, hb, hb1⟩ := slotUsed_iff.mp h1
    simp only [List.cons_subset, List.nil_subset, List.mem_map, and_true]
    exact ⟨⟨a, ha, ha0⟩, b, hb, hb1⟩
  simpa using (List.subperm_of_subset (by decide) hsub).length_le

/-- A capture event keeps the law (R110): a free slot leaves room for one more, and Overflow is set with both full. -/
theorem lawful_after {x : Captures} {c : Capture} (h : x.Lawful) (hc : 1 ≤ c.number ∧ c.number ≤ 65535) : (x.after c).Lawful := by
  unfold Captures.after
  cases hfree : freeSlot x.held with
  | none =>
    obtain ⟨h0, h1⟩ := freeSlot_none_iff.mp hfree
    exact { h with counter := hc.2, overflow := fun _ => Nat.le_antisymm h.few (length_of_full h0 h1) }
  | some n =>
    obtain ⟨hn, -⟩ := freeSlot_some_iff.mp hfree
    have hnew : n ∉ x.held.map (fun e => e.1) := fun hmem => by
      obtain ⟨e, he, hen⟩ := List.mem_map.mp hmem
      exact Bool.false_ne_true (hn.symm.trans (slotUsed_iff.mpr ⟨e, he, hen⟩))
    have hnodup := List.nodup_cons.mpr ⟨hnew, h.slots⟩
    have hfew : x.held.length + 1 ≤ 2 := by simpa using hnodup.length_le_card
    refine ⟨?_, ?_, fun e he => ?_, hc.2, fun ho => ?_⟩
    · simpa using hfew
    · rw [List.map_append]
      exact (List.perm_append_singleton n _).nodup_iff.mpr hnodup
    · rcases List.mem_append.mp he with he | he
      · exact h.numbers e he
      · rw [List.mem_singleton.mp he]
        exact hc
    · have := h.overflow ho
      omega

theorem lawful_captureEvent (source : CaptureSource) (port : Option PortId) {s : State} (h : s.captures.Lawful) :
    (captureEvent source port s).captures.Lawful := by
  rw [captures_captureEvent]
  exact lawful_after h (nextCaptureNumber_range h.counter)

end Sys2Proof.Machine
end

section
/-! SUPPORT. The requests that touch neither clock, score nor Capture Slots, and what the others make of the three (R86 to R101, R109 to R116). -/

namespace Sys2Proof.Machine

-- The proofs are checked one after another: side by side they ask for more threads than the memory limit leaves.
set_option Elab.async false

/-! ### Requests of the canvas and the arbiter, part by part -/

section Requests
variable {s : State}

theorem only_defineChecked (d : DefineFields) (r : RegionId) (g : Region) :
    Only [.canvas, .arbiter, .rotation, .messages] s (defineChecked d r g s).1 := by
  unfold defineChecked
  split_ifs
  · simp
  · simp
  · simp
  · split <;> simp
  · split
    · simp
    · exact only_regionChanged ..

theorem only_onDefineRegion (d : DefineFields) : Only [.canvas, .arbiter, .rotation, .messages] s (onDefineRegion d s).1 := by
  unfold onDefineRegion
  split
  · simp
  split
  · simp
  split
  · simp
  split
  · simp
  split
  · simp
  split
  · simp
  · simp
  · exact only_defineChecked ..

theorem only_onDeleteRegion (id : Nat) : Only [.canvas, .arbiter, .rotation, .messages] s (onDeleteRegion id s).1 := by
  unfold onDeleteRegion
  split
  · simp
  split
  · simp
  split_ifs
  · simp
  · simp
  · simp
  · exact only_regionChanged ..

theorem only_onSetBase (fill dwell : Option Nat) : Only [.canvas] s (onSetBase fill dwell s).1 := by
  unfold onSetBase
  split
  · simp
  · split <;> simp

theorem only_onSetFill (pattern red green blue : Nat) : Only [.canvas] s (onSetFill pattern red green blue s).1 := by
  unfold onSetFill
  split <;> simp

theorem only_onClaim (p : PortId) (region tag priority : Nat) (content : ContentField) (duration : Nat) (resume : Bool) :
    Only [.arbiter, .rotation, .messages] s (onClaim p region tag priority content duration resume s).1 := by
  unfold onClaim
  split
  · simp
  split
  · simp
  split
  · simp
  split
  · simp
  split
  · simp
  split
  · simp
  split
  · simp
  · extract_lets rank
    split_ifs
    · simp
    · simp
    · simp
    · exact (only_joinWait (by simp) ..).mpr only_rfl

theorem only_onRelease (p : PortId) (tag : Nat) : Only [.arbiter] s (onRelease p tag s).1 := by
  unfold onRelease
  split
  · simp
  · simp only
    split <;> simp

theorem only_onWithdraw (p : PortId) (q : Byte) : Only [.arbiter] s (onWithdraw p q s).1 := by
  unfold onWithdraw
  simp only
  split <;> simp

end Requests

/-! ### What a step keeps of clock, score and captures -/

/-- The clock, the score and the Capture Slots are as they were. -/
structure RecordsStay (s t : State) : Prop where
  clock : t.clock = s.clock
  score : t.score = s.score
  captures : t.captures = s.captures

theorem Only.recordsStay {parts : List Part} {s t : State} (h : Only parts s t) (hk : .clock ∉ parts := by decide)
    (hx : .score ∉ parts := by decide) (hc : .captures ∉ parts := by decide) : RecordsStay s t :=
  ⟨h.2 .clock hk, h.2 .score hx, h.2 .captures hc⟩

/-- The laws of the three survive. -/
structure RecordsLawful (s t : State) : Prop where
  clock : s.clock.Lawful → t.clock.Lawful
  score : s.score.Lawful → t.score.Lawful
  captures : s.captures.Lawful → t.captures.Lawful

theorem RecordsLawful.refl (s : State) : RecordsLawful s s := ⟨id, id, id⟩

theorem RecordsLawful.trans {s t u : State} (h : RecordsLawful s t) (k : RecordsLawful t u) : RecordsLawful s u :=
  ⟨k.clock ∘ h.clock, k.score ∘ h.score, k.captures ∘ h.captures⟩

theorem RecordsStay.lawful {s t : State} (h : RecordsStay s t) : RecordsLawful s t :=
  ⟨by rw [h.clock]; exact id, by rw [h.score]; exact id, by rw [h.captures]; exact id⟩

/-- An operation of the Clock Unit and the Capture Slots. -/
theorem Only.recordsLawful {parts : List Part} {s t : State} (h : Only parts s t) (hk : s.clock.Lawful → t.clock.Lawful)
    (hc : s.captures.Lawful → t.captures.Lawful) (hx : .score ∉ parts := by decide) : RecordsLawful s t :=
  ⟨hk, by rw [show t.score = s.score from h.2 .score hx]; exact id, hc⟩

/-- A clock Running before and after has gained no time. -/
def Clock.NoGain (k l : Clock) : Prop := k.state = .running → l.state = .running → l.main ≤ k.main

theorem Clock.Onward.noGain {k l : Clock} (h : k.Onward l) : k.NoGain l := fun _ hl => (h hl).2

/-- What every step but a few keeps: the laws, and no time is gained. -/
structure Timely (s t : State) : Prop extends RecordsLawful s t where
  noGain : s.clock.NoGain t.clock

theorem RecordsStay.timely {s t : State} (h : RecordsStay s t) : Timely s t :=
  { h.lawful with noGain := fun _ _ => by rw [h.clock] }

theorem Timely.refl (s : State) : Timely s s := RecordsStay.timely ⟨rfl, rfl, rfl⟩

theorem Timely.between {s s' t t' : State} (h : Timely s' t') (hs : RecordsStay s s') (ht : RecordsStay t' t) : Timely s t :=
  { (hs.lawful.trans h.toRecordsLawful).trans ht.lawful with
    noGain := by rw [ht.clock, ← hs.clock]; exact h.noGain }

/-- An operation that changes the clock, but neither score nor captures. -/
theorem Only.timelyClock {parts : List Part} {s t : State} (h : Only parts s t) (hk : s.clock.Lawful → t.clock.Lawful)
    (hn : s.clock.NoGain t.clock) (hx : .score ∉ parts := by decide) (hc : .captures ∉ parts := by decide) : Timely s t :=
  { h.recordsLawful hk (by rw [show t.captures = s.captures from h.2 .captures hc]; exact id) hx with noGain := hn }

/-! ### The operations of the Clock Unit (R84 to R99) -/

theorem lawful_captures_mainExpiry {s : State} (h : s.captures.Lawful) : (mainExpiry s).captures.Lawful :=
  lawful_captureEvent (s := setClock _ s) .expiry none h

theorem lawful_captures_possessionExpiry {s : State} (h : s.captures.Lawful) : (possessionExpiry s).captures.Lawful :=
  lawful_captureEvent (s := setClock _ s) .possessionExpiry none h

theorem lawful_captures_clockStep {s : State} (h : s.captures.Lawful) : (clockStep s).captures.Lawful := by
  unfold clockStep
  extract_lets k t u v
  have hu : u.captures.Lawful := by
    unfold u
    split
    · exact lawful_captures_possessionExpiry h
    · exact h
  show v.captures.Lawful
  unfold v
  split
  · exact lawful_captures_mainExpiry hu
  · exact hu

theorem onward_clockStep (s : State) : s.clock.Onward (clockStep s).clock := by
  rw [clock_clockStep]
  exact onward_stepped _

theorem recordsLawful_clockStep (s : State) : RecordsLawful s (clockStep s) :=
  Only.recordsLawful (parts := [.clock, .captures]) (by simp) (by rw [clock_clockStep]; exact lawful_stepped) lawful_captures_clockStep

theorem timely_onClockStart (s : State) : Timely s (onClockStart s).1 := by
  have hO := only_onClockStart (s := s)
  cases hc : s.clock.state with
  | running => exact by simp only [onClockStart, hc]; exact Timely.refl s
  | expired => exact by simp only [onClockStart, hc]; exact Timely.refl s
  | stopped =>
    by_cases hm : s.clock.main = 0
    · exact by simp only [onClockStart, hc, if_pos hm]; exact Timely.refl s
    · have hclock : (onClockStart s).1.clock = { s.clock with state := .running } := by
        have hset : Only [.arbiter, .messages, .rotation] s.started (settleAll .message s.started) := by simp
        rw [onClockStart_starts hc (by omega), tellClock_clock, hset.2 .clock (by decide), started_clock]
      refine hO.timelyClock (fun h => ?_) (fun hr => nomatch hc.symm.trans hr)
      rw [hclock]
      exact { h with running := fun _ => Nat.pos_of_ne_zero hm, expired := nofun }

/-- A clock that stands, and is not made Expired, is as lawful as its ranges (R87, R91). -/
theorem lawful_stopped {k : Clock} (h : k.InRange) : ({ k with state := .stopped } : Clock).Lawful :=
  { h with running := nofun, expired := nofun }

theorem timely_onClockStop (s : State) : Timely s (onClockStop s).1 := by
  refine only_onClockStop.timelyClock ?_ ?_
  all_goals unfold onClockStop; split
  · exact fun h => lawful_stopped h.toInRange
  · exact id
  · exact fun _ => nofun
  · exact fun _ _ => le_rfl

theorem timely_onClockSet (main possession : Option Nat) (s : State) : Timely s (onClockSet main possession s).1 := by
  unfold onClockSet
  split
  · exact Timely.refl s
  split
  · exact Timely.refl s
  · next hr =>
    have hstands : s.clock.state ≠ .running := by simpa [State.running] using hr
    refine Only.timelyClock (parts := [.clock]) (by simp) (fun h => ?_) (fun h => absurd h hstands)
    exact lawful_revive { h.toInRange with
      main := clampOr_le (Nat.zero_le _) h.main _
      possession := clampOr_le (Nat.zero_le _) h.possession _
      correction := show -5999999 ≤ (0 : Int) ∧ (0 : Int) ≤ 5999999 by decide } (fun h => absurd h hstands)

theorem timely_onPossessionReset (value : Option Nat) (s : State) : Timely s (onPossessionReset value s).1 :=
  (only_onPossessionReset value).timelyClock
    (fun h => { h with possession := clampOr_le (Nat.zero_le _) h.possessionReset.2 _ }) (fun _ _ => le_rfl)

theorem timely_onNextPeriod (s : State) : Timely s (onNextPeriod s).1 := by
  unfold onNextPeriod
  split
  · exact Timely.refl s
  split
  · exact Timely.refl s
  · next hr hp =>
    have hstands : s.clock.state ≠ .running := by simpa [State.running] using hr
    extract_lets k t
    have hclock : t.clock = { k with
        period := k.period + 1, main := k.length, possession := k.possessionReset, correction := 0, state := .stopped } :=
      ((only_periodBoundary (parts := [.arbiter, .rotation, .messages]) (by simp) _).mpr only_rfl).2 .clock (by simp)
    refine Only.timelyClock (parts := [.arbiter, .clock, .rotation, .messages]) (by simp [t]) (fun h => ?_) (fun h => absurd h hstands)
    rw [tellClock_clock, hclock]
    exact lawful_stopped (k := { k with period := k.period + 1, main := k.length, possession := k.possessionReset, correction := 0 })
      { h.toInRange with
        main := h.length.2
        possession := h.possessionReset.2
        period := ⟨Nat.le_add_left .., Nat.lt_of_not_le hp⟩
        correction := show -5999999 ≤ (0 : Int) ∧ (0 : Int) ≤ 5999999 by decide }

theorem timely_onScoreSet (f : ScoreFields) (s : State) : Timely s (onScoreSet f s).1 := by
  unfold onScoreSet
  split
  · exact Timely.refl s
  split
  · exact Timely.refl s
  · exact ⟨⟨id, fun h => lawful_storeScore h f _, id⟩, fun _ _ => le_rfl⟩

theorem timely_onClockConfig (f : ClockFields) (s : State) : Timely s (onClockConfig f s).1 := by
  unfold onClockConfig
  split
  · exact Timely.refl s
  · refine ⟨⟨fun h => ?_, fun h => { h with flashLength := clampOr_le (Nat.zero_le _) h.flashLength _ }, id⟩, fun _ _ => le_rfl⟩
    exact { h with
      length := ⟨le_clampOr h.length.1 _, clampOr_le (by decide) h.length.2 _⟩
      possessionReset := ⟨le_clampOr h.possessionReset.1 _, clampOr_le (by decide) h.possessionReset.2 _⟩
      window := clampOr_le (by decide) h.window _
      hysteresis := clampOr_le (by decide) h.hysteresis _
      hornLength := ⟨le_clampOr h.hornLength.1 _, clampOr_le (by decide) h.hornLength.2 _⟩ }

theorem timely_onCapture (p : PortId) (s : State) : Timely s (onCapture p s).1 := by
  have hclock : (onCapture p s).1.clock = s.clock := clock_captureEvent ..
  exact { (only_onCapture p).recordsLawful (by rw [hclock]; exact id) (lawful_captureEvent .request (some p)) with
    noGain := fun _ _ => by rw [hclock] }

theorem timely_onTakeCapture (s : State) : Timely s (onTakeCapture s).1 := by
  have hO := only_onTakeCapture (s := s)
  have hclock : (onTakeCapture s).1.clock = s.clock := hO.2 .clock (by decide)
  have hcaptures : (onTakeCapture s).1.captures = { s.captures with held := s.captures.held.tail, overflow := false } := by
    unfold onTakeCapture
    simp only
    cases s.captures.held <;> rfl
  refine { hO.recordsLawful (by rw [hclock]; exact id) (fun h => ?_) with noGain := fun _ _ => by rw [hclock] }
  rw [hcaptures]
  exact { h with
    few := by have := h.few; simp; omega
    slots := by rw [List.map_tail]; exact h.slots.tail
    numbers := fun e he => h.numbers e (List.mem_of_mem_tail he)
    overflow := nofun }

/-- The part with clock, score, captures and accounts started again (R108, R116, R137, R150). -/
def State.restarted (s : State) : State :=
  { s with
    clock := s.clock.matchReset
    score := s.score.matchReset
    captures := Captures.reset
    rotation := { s.rotation with pointer := 0, contracts := s.rotation.contracts.map Contract.matchReset } }

theorem onMatchReset_setup {s : State} (h : s.live = false) :
    onMatchReset s = (resetMessages (lower monUnsupervised s.restarted), .done []) := by
  rw [onMatchReset, if_neg (by rw [h]; exact Bool.false_ne_true), State.restarted]

theorem timely_onMatchReset (s : State) : Timely s (onMatchReset s).1 := by
  cases hl : s.live with
  | true =>
    rw [onMatchReset, if_pos hl]
    exact Timely.refl s
  | false =>
    rw [onMatchReset_setup hl]
    have ht : Timely s s.restarted := by
      refine ⟨⟨fun h => ?_, fun h => ?_, fun _ => ?_⟩, fun _ => nofun⟩
      · exact lawful_stopped (k := s.clock.matchReset) { h.toInRange with
          main := h.length.2
          possession := h.possessionReset.2
          period := show 1 ≤ 1 ∧ 1 ≤ 9 by decide
          correction := show -5999999 ≤ (0 : Int) ∧ (0 : Int) ≤ 5999999 by decide }
      · exact ⟨Nat.zero_le _, Nat.zero_le _, Nat.zero_le _, Nat.zero_le _, Nat.zero_le _, Nat.zero_le _, h.flashLength, Nat.zero_le _⟩
      · exact (captureLaw_iff .reset).mp (by unfold CaptureLaw; decide)
    refine ht.between ⟨rfl, rfl, rfl⟩ (Only.recordsStay (parts := [.arbiter, .monitors, .rotation, .messages]) (by simp))

/-! ### Silence (R99, R199) -/

/-- A port that falls silent touches no more of the clock than Unsupervised (R99). -/
theorem clock_silenceExpiry (p : PortId) (s : State) :
    (silenceExpiry p s).clock = { s.clock with unsupervised := (silenceExpiry p s).clock.unsupervised } := by
  unfold silenceExpiry
  split
  · rw [(silenced_becomeSilent p s).clock]
    split <;> rfl
  · rfl

theorem timely_silenceExpiry (p : PortId) (s : State) : Timely s (silenceExpiry p s) := by
  refine Only.timelyClock (parts := [.arbiter, .monitors, .clock, .rotation, .assets]) (by simp) (fun h => ?_) (fun _ _ => ?_)
  · rw [clock_silenceExpiry]
    exact { h with }
  · rw [clock_silenceExpiry]

theorem timely_onSetPortTimeout (port ms : Nat) (s : State) : Timely s (onSetPortTimeout port ms s).1 := by
  unfold onSetPortTimeout
  split
  · exact Timely.refl s
  · next n _ =>
    exact (timely_silenceExpiry n (s.setPort n _)).between ⟨rfl, rfl, rfl⟩ ⟨rfl, rfl, rfl⟩

/-! ### The two requests that may give a Running clock time (R89, R93) -/

/-- A request that may give a clock `k`, which becomes `l`, time while it runs: a ClockAdjust, or a mark beyond the window (R83, R89, R93). -/
def GivesTime (i : Instr) (k l : Clock) : Prop :=
  (∃ p q delta, i = .clockAdjust p q delta)
    ∨ ∃ p q mark, i = .clockMark p q mark ∧ k.window < l.main - k.main ∧ l.main ≤ min 5999999 mark

/-- What a request that reaches its block keeps. -/
structure Handed (i : Instr) (s t : State) : Prop extends RecordsLawful s t where
  gain : s.clock.NoGain t.clock ∨ GivesTime i s.clock t.clock

theorem Timely.handed {s t : State} (h : Timely s t) (i : Instr) : Handed i s t := { h with gain := .inl h.noGain }

theorem Handed.between {i : Instr} {s s' t t' : State} (h : Handed i s' t') (hs : RecordsStay s s') (ht : RecordsStay t' t) : Handed i s t :=
  { (hs.lawful.trans h.toRecordsLawful).trans ht.lawful with
    gain := by rw [ht.clock, ← hs.clock]; exact h.gain }

theorem inRange_adjusted {k : Clock} (h : k.InRange) (delta : Int) : ({ k with main := (adjustedMain delta k).toNat } : Clock).InRange :=
  { h with main := by have := adjustedMain_range delta k; dsimp only; omega }

theorem recordsLawful_onClockAdjust (delta : Int) (s : State) : RecordsLawful s (onClockAdjust delta s).1 := by
  have hO := only_onClockAdjust (s := s) delta
  by_cases hz : s.clock.state = .running ∧ adjustedMain delta s.clock = 0
  · rw [onClockAdjust_expires hz.1 hz.2] at hO ⊢
    refine hO.recordsLawful (fun h => ?_) (fun h => lawful_captures_mainExpiry (s := setClock _ s) h)
    rw [clock_mainExpiry]
    exact lawful_expiredClock (k := { s.clock with main := 0 }) { h.toInRange with main := Nat.zero_le _ } rfl
  · rw [onClockAdjust_stores hz] at hO ⊢
    refine hO.recordsLawful (fun h => lawful_revive (inRange_adjusted h.toInRange delta) fun hr => ?_) id
    have := adjustedMain_range delta s.clock
    have hne : adjustedMain delta s.clock ≠ 0 := fun h0 => hz ⟨hr, h0⟩
    dsimp only
    omega

theorem handed_onClockAdjust (p : PortId) (q : Byte) (delta : Int) (s : State) : Handed (.clockAdjust p q delta) s (onClockAdjust delta s).1 :=
  { recordsLawful_onClockAdjust delta s with gain := .inr (.inl ⟨p, q, delta, rfl⟩) }

/-- The record a mark sets is in the ranges of the clock. -/
theorem inRange_marked {k : Clock} {m mark : Nat} (h : k.InRange) (hm : m = min 5999999 mark) : (k.marked m).InRange :=
  { h with
    main := hm ▸ min_le_left ..
    correction := show -5999999 ≤ (0 : Int) ∧ (0 : Int) ≤ 5999999 by decide }

/-- A step beyond the window (R93): to 0 it expires the clock, and what it gains is beyond the window. -/
theorem handed_resynced {m mark : Nat} {e : Int} {s : State} (p : PortId) (q : Byte) (hm : m = min 5999999 mark)
    (he : e = (m : Int) - (s.clock.main : Int)) (hr : s.clock.state = .running) (hw : s.clock.window < e.natAbs) :
    Handed (.clockMark p q mark) s (if m = 0 then mainExpiry (resynced m e s) else resynced m e s) := by
  have hO : Only [.clock, .monitors] s (resynced m e s) := by simp [resynced]
  have hcaptures : (resynced m e s).captures = s.captures := hO.2 .captures (by decide)
  split
  · next h0 =>
    refine { Only.recordsLawful (parts := [.clock, .captures, .monitors]) (by simp [resynced]) (fun h => ?_) (fun h => ?_) with
      gain := .inl fun _ => ?_ }
    · rw [clock_mainExpiry]
      exact lawful_expiredClock (inRange_marked h.toInRange hm) h0
    · exact lawful_captures_mainExpiry (hcaptures ▸ h)
    · rw [clock_mainExpiry]
      nofun
  · next h0 =>
    refine { hO.recordsLawful (fun h => ?_) (hcaptures ▸ id) with gain := ?_ }
    · exact { inRange_marked h.toInRange hm with
        running := fun _ => Nat.pos_of_ne_zero h0
        expired := fun hx => nomatch hr.symm.trans hx }
    · by_cases hle : m ≤ s.clock.main
      · exact .inl fun _ _ => hle
      · refine .inr (.inr ⟨p, q, mark, rfl, ?_, hm.le⟩)
        show s.clock.window < m - s.clock.main
        omega

theorem handed_onClockMark (p : PortId) (q : Byte) (mark : Nat) (s : State) : Handed (.clockMark p q mark) s (onClockMark mark s).1 := by
  obtain ⟨e, he⟩ : ∃ e : Int, e = (min 5999999 mark : Nat) - (s.clock.main : Int) := ⟨_, rfl⟩
  rw [onClockMark_eq rfl he]
  split
  · next hr =>
    split
    · next hw =>
      refine Timely.handed (s := s) (Only.timelyClock (parts := [.clock, .monitors]) (by simp) (fun h => ?_) fun _ _ => ?_) _
      · have hwin := h.window
        exact { h with correction := show -5999999 ≤ e ∧ e ≤ 5999999 by omega }
      · exact le_rfl
    · next hw => exact handed_resynced p q rfl he hr (Nat.lt_of_not_le hw)
  · next hr =>
    split
    · refine Timely.handed (s := s) (Only.timelyClock (parts := [.clock, .monitors]) (by simp) (fun h => ?_) fun h => absurd h hr) _
      rw [clock_superviseClock]
      exact { h with }
    · refine Timely.handed (s := s) (Only.timelyClock (parts := [.clock, .monitors]) (by simp) (fun h => ?_) fun h => absurd h hr) _
      exact lawful_revive (inRange_marked h.toInRange rfl) fun h => absurd h hr

end Sys2Proof.Machine
end

section
/-! PROOF. Every step keeps clock, score and captures lawful, and a Running clock gains time only by ClockAdjust or a stepping mark (O55). -/

namespace Sys2Proof.Machine

-- The proofs are checked one after another: side by side they ask for more threads than the memory limit leaves.
set_option Elab.async false

/-! ### Requests, one and all -/

/-- What a request that touches none of the three keeps. -/
theorem Only.handed {parts : List Part} {i : Instr} {s t : State} (h : Only parts s t) (hk : .clock ∉ parts := by decide)
    (hx : .score ∉ parts := by decide) (hc : .captures ∉ parts := by decide) : Handed i s t := (h.recordsStay hk hx hc).timely.handed i

theorem handed_of_fst {i : Instr} {s t : State} (h : t = s) : Handed i s t := by
  rw [h]
  exact (Timely.refl s).handed i

theorem handed_handOn (i : Instr) (s : State) : Handed i s (handOn i s).1 := by
  cases i
  case defineRegion => exact (only_onDefineRegion ..).handed
  case deleteRegion => exact (only_onDeleteRegion ..).handed
  case setBase => exact (only_onSetBase ..).handed
  case setFill => exact (only_onSetFill ..).handed
  case goLive => exact Only.handed (parts := [.canvas]) (by simp [handOn, onGoLive])
  case endLive => exact only_onEndLive.handed
  case matchReset => exact (timely_onMatchReset s).handed _
  case setPortRole => exact (only_onSetPortRole ..).handed
  case setPortTimeout => exact (timely_onSetPortTimeout ..).handed _
  case setPriorityMap => exact (only_onSetPriorityMap ..).handed
  case setEngineRank => exact (only_onSetEngineRank ..).handed
  case setInput => exact (only_onSetInput ..).handed
  case setMonitor => exact (only_onSetMonitor ..).handed
  case clearFaults => exact (only_onClearFaults ..).handed
  case setLinkMode => exact (only_onSetLinkMode ..).handed
  case messageApprove => exact (only_onMessageApprove ..).handed
  case messageReject => exact (only_onMessageReject ..).handed
  case messageConfig => exact (only_onMessageConfig ..).handed
  case claim => exact (only_onClaim ..).handed
  case release => exact (only_onRelease ..).handed
  case withdraw => exact (only_onWithdraw ..).handed
  case resume => exact Only.handed (parts := []) (by simp [handOn, onResume])
  case clockStart => exact (timely_onClockStart s).handed _
  case clockStop => exact (timely_onClockStop s).handed _
  case clockSet => exact (timely_onClockSet ..).handed _
  case clockAdjust => exact handed_onClockAdjust ..
  case possessionReset => exact (timely_onPossessionReset ..).handed _
  case nextPeriod => exact (timely_onNextPeriod s).handed _
  case scoreSet => exact (timely_onScoreSet ..).handed _
  case clockConfig => exact (timely_onClockConfig ..).handed _
  case clockMark => exact handed_onClockMark ..
  case capture => exact (timely_onCapture ..).handed _
  case takeCapture => exact (timely_onTakeCapture s).handed _
  case rotationBegin => exact (only_onRotationBegin ..).handed
  case rotationContract => exact (only_onRotationContract ..).handed
  case rotationSpot => exact (only_onRotationSpot ..).handed
  case rotationCommit => exact (only_onRotationCommit ..).handed
  case rotationDiscard => exact (only_onRotationDiscard ..).handed
  case contractSuspend => exact (only_onContractSuspend ..).handed
  case uploadBegin => exact (only_onUploadBegin ..).handed
  case uploadLoad => exact (only_onUploadLoad ..).handed
  case uploadCommit => exact (only_onUploadCommit ..).handed
  case uploadFinish => exact (only_onUploadFinish ..).handed
  case uploadAbort => exact (only_onUploadAbort ..).handed
  case assetRetire => exact (only_onAssetRetire ..).handed
  case assetReclaim => exact (only_onAssetReclaim ..).handed
  case messageSubmit => exact (only_onMessageSubmit ..).handed
  case messageWithdraw => exact (only_onMessageWithdraw ..).handed
  case portReset => exact (only_onPortReset ..).handed
  case readRegion => exact handed_of_fst (onReadRegion_fst ..)
  case readLink => exact handed_of_fst (onReadLink_fst ..)
  case readClaims => exact handed_of_fst (onReadClaims_fst ..)
  case readComposition => exact handed_of_fst (onReadComposition_fst ..)
  case readExposure => exact handed_of_fst (onReadExposure_fst ..)
  all_goals exact handed_of_fst rfl

theorem recordsStay_conclude (p : PortId) (q : Byte) (code : Nat) (r : State × Ans) : RecordsStay r.1 (conclude p q code r) :=
  Only.recordsStay (parts := []) ((only_conclude p q code r).mpr only_rfl)

theorem recordsStay_frameArrives (p : PortId) (s : State) : RecordsStay s (frameArrives p s) :=
  ⟨frameArrives_clock p s, frameArrives_score p s, frameArrives_captures p s⟩

theorem recordsStay_pump (s : State) : RecordsStay s (pump s) := ⟨rfl, rfl, rfl⟩

theorem recordsStay_refl (s : State) : RecordsStay s s := ⟨rfl, rfl, rfl⟩

/-- A request from its frame to its answer (R191, R193). -/
theorem handed_receive (i : Instr) (p : PortId) (q : Byte) (code : Nat) (s : State) : Handed i s (receive p q code (handOn i) s) := by
  unfold receive taken
  simp only
  split
  · exact (recordsStay_frameArrives p s).timely.handed i
  · split
    · exact ((Timely.refl _).handed i).between (recordsStay_frameArrives p s) ⟨rfl, rfl, rfl⟩
    · exact (handed_handOn i _).between (recordsStay_frameArrives p s) (recordsStay_conclude ..)

/-! ### Received bytes (R189, R191, R193) -/

/-- The byte `b` ends, at port `p`, the frame of a request that may give a Running clock time (R83). -/
def EndsGiving (p : PortId) (u : State) (b : Byte) : Prop :=
  ∃ f, judgeBytes ((u.port p).rx ++ [b]) = .valid f ∧ f.kind = 1
    ∧ ((∃ delta, readPayload p f.seq f.code.toNat f.payload = some (.clockAdjust p f.seq delta))
      ∨ ∃ mark, readPayload p f.seq f.code.toNat f.payload = some (.clockMark p f.seq mark)
          ∧ u.clock.window < min 5999999 mark - u.clock.main)

/-- A frame that carries a request which gives time (R191). -/
def RxFrame.GivesTime (f : RxFrame) (p : PortId) (k l : Clock) : Prop :=
  f.kind = 1 ∧ ∃ i, readPayload p f.seq f.code.toNat f.payload = some i ∧ Machine.GivesTime i k l

theorem validFrame_keeps (p : PortId) (f : RxFrame) (s : State) :
    RecordsLawful s (validFrame p f s)
      ∧ (s.clock.NoGain (validFrame p f s).clock ∨ f.GivesTime p s.clock (validFrame p f s).clock) := by
  have hframe := recordsStay_frameArrives p s
  have hstays {t : State} (h : RecordsStay s t) : RecordsLawful s t ∧ (s.clock.NoGain t.clock ∨ f.GivesTime p s.clock t.clock) :=
    ⟨h.lawful, .inl h.timely.noGain⟩
  unfold validFrame takenFrame
  simp only
  split
  · exact hstays hframe
  split
  · next hkind =>
    split
    · exact hstays ⟨hframe.clock, hframe.score, hframe.captures⟩
    · exact hstays ⟨hframe.clock, hframe.score, hframe.captures⟩
    · next i _ hi =>
      have h := (handed_handOn i _).between hframe (recordsStay_conclude p f.seq f.code.toNat _)
      exact ⟨h.toRecordsLawful, h.gain.imp_right fun hg => ⟨hkind, i, hi, hg⟩⟩
  · exact hstays ⟨hframe.clock, hframe.score, hframe.captures⟩

theorem endsGiving_of {p : PortId} {u : State} {b : Byte} {f : RxFrame} {l : Clock} (hf : judgeBytes ((u.port p).rx ++ [b]) = .valid f)
    (hg : f.GivesTime p u.clock l) : EndsGiving p u b := by
  obtain ⟨hkind, i, hi, hg⟩ := hg
  obtain ⟨fields, hw⟩ := comesFrom_readPayload hi
  refine ⟨f, hf, hkind, ?_⟩
  rcases hg with ⟨p', q, delta, rfl⟩ | ⟨p', q, mark, rfl, hwin, hmark⟩
  · simp only [wireOf, Option.some.injEq, Prod.mk.injEq] at hw
    obtain ⟨rfl, rfl, -⟩ := hw
    exact .inl ⟨delta, hi⟩
  · simp only [wireOf, Option.some.injEq, Prod.mk.injEq] at hw
    obtain ⟨rfl, rfl, -⟩ := hw
    exact .inr ⟨mark, hi, by omega⟩

theorem rxByte_keeps (p : PortId) (s : State) (b : Byte) :
    RecordsLawful s (rxByte p s b) ∧ (s.clock.NoGain (rxByte p s b).clock ∨ EndsGiving p s b) := by
  have hstays {t : State} (h : RecordsStay s t) : RecordsLawful s t ∧ (s.clock.NoGain t.clock ∨ EndsGiving p s b) :=
    ⟨h.lawful, .inl h.timely.noGain⟩
  unfold rxByte
  simp only
  split
  · split
    · exact hstays ⟨rfl, rfl, rfl⟩
    · exact hstays (recordsStay_refl s)
  · split
    · exact hstays ⟨rfl, rfl, rfl⟩
    · exact hstays ⟨rfl, rfl, rfl⟩
    · next f hf =>
      obtain ⟨hlaw, hgain⟩ := validFrame_keeps p f (setRx p [] s)
      rw [setRx_clock] at hgain
      have hset : RecordsStay s (setRx p [] s) := ⟨rfl, rfl, rfl⟩
      generalize validFrame p f (setRx p [] s) = t at hlaw hgain ⊢
      rw [pump_clock]
      exact ⟨(hset.lawful.trans hlaw).trans (recordsStay_pump t).lawful, hgain.imp_right (endsGiving_of hf)⟩

theorem recordsLawful_rxBytes (p : PortId) (bytes : List Byte) (s : State) : RecordsLawful s (rxBytes p bytes s) := by
  induction bytes generalizing s with
  | nil => exact RecordsLawful.refl s
  | cons b rest ih => exact (rxByte_keeps p s b).1.trans (ih _)

/-- Where a clock that runs before and after has gained time, a byte ended the frame of a request that gives it, or after some of the bytes
the clock did not run. -/
theorem rxBytes_gains {p : PortId} {bytes : List Byte} {s : State} (hs : s.clock.state = .running)
    (ht : (rxBytes p bytes s).clock.state = .running) (hgain : s.clock.main < (rxBytes p bytes s).clock.main) :
    ∃ pre b post, bytes = pre ++ b :: post
      ∧ ((rxBytes p pre s).clock.state ≠ .running ∨ EndsGiving p (rxBytes p pre s) b) := by
  induction bytes generalizing s with
  | nil => exact absurd hgain (Nat.lt_irrefl _)
  | cons b rest ih =>
    rcases (rxByte_keeps p s b).2 with hno | hends
    · by_cases hrun : (rxByte p s b).clock.state = .running
      · obtain ⟨pre, c, post, rfl, h⟩ := ih hrun ht ((hno hs hrun).trans_lt hgain)
        exact ⟨b :: pre, c, post, rfl, h⟩
      · cases rest with
        | nil => exact absurd ht hrun
        | cons c post => exact ⟨[b], c, post, rfl, .inl hrun⟩
    · exact ⟨[], b, rest, rfl, .inr hends⟩

/-! ### Events (R48, R82 to R101) -/

theorem timely_frameTick (n : Nat) (s : State) : Timely s (frameTick n s) := by
  have hO := only_frameTick_parts n s
  have hclock : (frameTick n s).clock = s.clock := hO.2 .clock (by decide)
  have hcaptures : (frameTick n s).captures = s.captures := hO.2 .captures (by decide)
  have hscore := score_frameTick n s
  generalize frameTick n s = t at hclock hcaptures hscore ⊢
  refine ⟨⟨by rw [hclock]; exact id, fun h => ?_, by rw [hcaptures]; exact id⟩, fun _ _ => by rw [hclock]⟩
  rw [hscore]
  exact lawful_useFlash h

theorem timely_tickIf (due : Bool) (s : State) : Timely s (tickIf due s) := by
  unfold tickIf
  split
  · exact timely_frameTick ..
  · exact Timely.refl s

theorem timely_timerExpiry (n : Nat) (s : State) : Timely s (timerExpiry n s) := by
  unfold timerExpiry
  split
  · exact timely_frameTick ..
  · exact Timely.refl s

theorem timely_genlockEdge (n : Nat) (s : State) : Timely s (genlockEdge n s) := by
  unfold genlockEdge
  split
  · exact Timely.refl s
  split
  · exact (timely_frameTick n _).between (Only.recordsStay (parts := [.comp, .monitors]) (by simp)) (recordsStay_refl _)
  · exact (Only.recordsStay (parts := [.comp, .monitors]) (by simp)).timely

/-- What was overdue before a ms step touches no more of the clock than Unsupervised (R99). -/
theorem clock_settleOverdue (s : State) :
    (settleOverdue s).clock = { s.clock with unsupervised := (settleOverdue s).clock.unsupervised } := by
  have hlimit (u : State) : (timeLimit u).clock = u.clock :=
    ((only_timeLimit (parts := [.assets, .free]) (by simp)).mpr only_rfl).2 .clock (by simp)
  have hfold : ∀ (l : List PortId) (u : State), (l.foldl (fun t p => silenceExpiry p t) u).clock
      = { u.clock with unsupervised := (l.foldl (fun t p => silenceExpiry p t) u).clock.unsupervised } := by
    intro l
    induction l with
    | nil => exact fun _ => rfl
    | cons p rest ih =>
      intro u
      rw [List.foldl_cons, ih, clock_silenceExpiry]
  rw [settleOverdue, hlimit]
  exact hfold ..

/-- The clock after a ms step of the part, whatever else falls due at it. -/
theorem clock_msStep (s : State) : (msStep s).clock = (settleOverdue s).clock.stepped := by
  have h : Only [.messages] (clockStep (settleOverdue s)) (msStep s) := by simp [msStep]
  rw [h.2 .clock (by decide), clock_clockStep]

theorem timely_msStep (s : State) : Timely s (msStep s) := by
  have hover : Only [.arbiter, .monitors, .clock, .rotation, .assets, .free] s (settleOverdue s) := only_settleOverdue
  have hclock := clock_settleOverdue s
  have hrest : Only [.messages] (clockStep (settleOverdue s)) (msStep s) := by simp [msStep]
  generalize msStep s = t at hrest ⊢
  generalize settleOverdue s = u at hover hclock hrest
  have hu : RecordsLawful s u :=
    (hover.timelyClock (fun h => by rw [hclock]; exact { h with }) (fun _ _ => by rw [hclock])).toRecordsLawful
  refine ⟨(hu.trans (recordsLawful_clockStep u)).trans hrest.recordsStay.lawful, fun _ ht => ?_⟩
  rw [hrest.2 .clock (by decide)] at ht ⊢
  have hmain : u.clock.main = s.clock.main := by rw [hclock]
  exact ((onward_clockStep u ht).2).trans hmain.le

theorem timely_msIf (due : Bool) (s : State) : Timely s (msIf due s) := by
  unfold msIf
  split
  · exact timely_msStep s
  · exact Timely.refl s

/-- A whistle leaves as lawful a clock as it finds (R98). -/
theorem lawful_whistled {k : Clock} (h : k.Lawful) : k.whistled.Lawful := by
  refine { h with running := fun hr => ?_, expired := fun he => ?_ }
  · dsimp only [Clock.whistled] at hr
    split at hr
    · cases hr
    · exact h.running hr
  · dsimp only [Clock.whistled] at he
    split at he
    · cases he
    · exact h.expired he

theorem lawful_captures_whistleTaken {s : State} (h : s.captures.Lawful) : (whistleTaken s).captures.Lawful := by
  have hevent := lawful_captureEvent (s := setClock s.clock.whistled s) .whistle none h
  rw [whistleTaken_eq]
  split
  · exact hevent
  · exact hevent

theorem timely_whistleEdge (s : State) : Timely s (whistleEdge s) := by
  have hO := only_whistleEdge (s := s)
  unfold whistleEdge at hO ⊢
  split
  · exact Timely.refl s
  · next hx =>
    rw [if_neg hx] at hO
    exact
      { hO.recordsLawful (by rw [clock_whistleTaken]; exact lawful_whistled) lawful_captures_whistleTaken with
        noGain := fun _ _ => by rw [clock_whistleTaken]; exact le_rfl }

theorem timely_deviceReset (dirsel : Fin 8) (ratesel : Bool) (s : State) :
    Timely s (State.resetWith s.pending (s.free + 16) (norAtReset s) dirsel ratesel) := by
  have hk : ClockLaw .reset := by unfold ClockLaw; decide
  have hx : ScoreLaw .reset := by unfold ScoreLaw; decide
  have hc : CaptureLaw .reset := by unfold CaptureLaw; decide
  exact ⟨⟨fun _ => (clockLaw_iff _).mp hk, fun _ => (scoreLaw_iff _).mp hx, fun _ => (captureLaw_iff _).mp hc⟩, fun _ => nofun⟩

theorem timely_holdEnd (k : LinkId) (s : State) : Timely s (if (s.link k).holdEnds then slotStart k s else s) := by
  split
  · exact (only_slotStart k).recordsStay.timely
  · exact Timely.refl s

/-! ### Every command (O55) -/

/-- A step that ends by starting the free transmitters. -/
theorem timely_next {o : Host.Outcome State Fault Refusal} {s t u : State} (h : Timely s u) (ho : o = .next (pump u)) (ht : o = .next t) :
    Timely s t := by
  obtain rfl : pump u = t := Host.Outcome.next.inj (ho.symm.trans ht)
  exact h.between (recordsStay_refl s) (recordsStay_pump u)

/-- Every event but received bytes keeps the laws, and gives a Running clock no time. -/
theorem timely_event {i : Instr} (hi : wireOf i = none) (hrx : ∀ p bytes, i ≠ .rxFrame p bytes) {s t : State} (h : exec i s = .next t) :
    Timely s t := by
  cases i
  case rxFrame p bytes => exact absurd rfl (hrx p bytes)
  case deviceReset => exact timely_next (timely_deviceReset ..) rfl h
  case startupScanEnd => exact timely_next (only_scanEnd _).recordsStay.timely rfl h
  case genlockEdge => exact timely_next (timely_genlockEdge ..) rfl h
  case frameTimerExpiry => exact timely_next (timely_timerExpiry ..) rfl h
  case genlockLost => exact timely_next (only_genlockLoss _).recordsStay.timely rfl h
  case claimDurationEnd => exact timely_next (timely_tickIf ..) rfl h
  case spotComplete => exact timely_next (timely_tickIf ..) rfl h
  case passComplete => exact timely_next (timely_tickIf ..) rfl h
  case scoreFlashEnd => exact timely_next (timely_tickIf ..) rfl h
  case inputFrameArrival => exact timely_next (only_inputArrival ..).recordsStay.timely rfl h
  case inputFrameDiscarded => exact timely_next (Timely.refl s) rfl h
  case inputLost => exact timely_next (timely_tickIf ..) rfl h
  case holdLimitFallback => exact timely_next (timely_tickIf ..) rfl h
  case slotStart => exact timely_next (only_slotStart _).recordsStay.timely rfl h
  case receiverStatus => exact timely_next (only_statusTaken ..).recordsStay.timely rfl h
  case slotEndNoStatus => exact timely_next (only_slotEnd _).recordsStay.timely rfl h
  case linkHoldEnd => exact timely_next (timely_holdEnd ..) rfl h
  case frameClose => exact timely_next (only_frameClose _).recordsStay.timely rfl h
  case linkDown => exact timely_next (timely_tickIf ..) rfl h
  case msStep => exact timely_next (timely_msStep s) rfl h
  case mainExpiry => exact timely_next (timely_msIf ..) rfl h
  case possessionExpiry => exact timely_next (timely_msIf ..) rfl h
  case hornEnd => exact timely_next (timely_msIf ..) rfl h
  case whistle => exact timely_next (timely_whistleEdge s) rfl h
  case heldEntryLapse => exact timely_next (timely_msIf ..) rfl h
  case pageProgramStart => exact timely_next only_programStart.recordsStay.timely rfl h
  case pageProgramEnd => exact timely_next (only_programEnd _).recordsStay.timely rfl h
  case markProgramStart => exact timely_next only_markStart.recordsStay.timely rfl h
  case markProgramEnd => exact timely_next (only_markEnd _).recordsStay.timely rfl h
  case reclaimBlockJudge => exact timely_next only_judgeBlock.recordsStay.timely rfl h
  case blockEraseEnd => exact timely_next (only_eraseEnd _).recordsStay.timely rfl h
  case operationTimeLimit => exact timely_next (Only.recordsStay (parts := [.assets, .free]) (by simp)).timely rfl h
  case rxByteGap => exact timely_next (Only.recordsStay (parts := []) (by simp)).timely rfl h
  case silenceTimeout => exact timely_next (timely_silenceExpiry ..) rfl h
  case txFrameEnd => exact timely_next (Only.recordsStay (parts := []) (by simp)).timely rfl h
  all_goals cases hi

/-- What is said of a command that gives a clock, Running before and after, time (R83). -/
def ExplainsGain (i : Instr) (s t : State) : Prop :=
  (∃ p q delta, i = .clockAdjust p q delta) ∨ (∃ p q mark, i = .clockMark p q mark ∧ s.clock.window < t.clock.main - s.clock.main)
    ∨ ∃ p pre b post, i = .rxFrame p (pre ++ b :: post)
        ∧ ∃ u, u = rxBytes p pre s ∧ (u.clock.state ≠ .running ∨ EndsGiving p u b)

theorem exec_keepsRecords {i : Instr} {s t : State} (h : exec i s = .next t) :
    RecordsLawful s t
      ∧ (s.clock.state = .running → t.clock.state = .running → s.clock.main < t.clock.main → ExplainsGain i s t) := by
  cases hi : wireOf i with
  | some x =>
    rw [exec_of_wireOf hi] at h
    cases h
    have hh := (handed_receive i x.1 x.2.1 x.2.2.1 s).between (recordsStay_refl s) (recordsStay_pump _)
    refine ⟨hh.toRecordsLawful, fun hs ht hlt => ?_⟩
    rcases hh.gain with hno | ⟨p, q, delta, rfl⟩ | ⟨p, q, mark, rfl, hwin, -⟩
    · exact absurd (hno hs ht) (Nat.not_le.mpr hlt)
    · exact .inl ⟨p, q, delta, rfl⟩
    · exact .inr (.inl ⟨p, q, mark, rfl, hwin⟩)
  | none =>
    by_cases hrx : ∃ p bytes, i = .rxFrame p bytes
    · obtain ⟨p, bytes, rfl⟩ := hrx
      obtain rfl : pump (rxBytes p bytes s) = t := Host.Outcome.next.inj h
      refine ⟨(recordsLawful_rxBytes p bytes s).trans (recordsStay_pump _).lawful, fun hs ht hlt => ?_⟩
      rw [pump_clock] at ht hlt
      obtain ⟨pre, b, post, rfl, hb⟩ := rxBytes_gains hs ht hlt
      exact .inr (.inr ⟨p, pre, b, post, rfl, _, rfl, hb⟩)
    · have ht := timely_event hi (fun p bytes h => hrx ⟨p, bytes, h⟩) h
      exact ⟨ht.toRecordsLawful, fun hs ht' hlt => absurd (ht.noGain hs ht') (Nat.not_le.mpr hlt)⟩

/-- Settles O55: each command is a request, received bytes, or an event that gives a Running clock no time. -/
theorem clockScoreAndCapturesKeepTheirLaws : Obligations.ClockScoreAndCapturesKeepTheirLaws := by
  intro s t h
  simp only [clockLaw_iff, scoreLaw_iff, captureLaw_iff]
  unfold step at h
  split at h
  · cases h
    exact ⟨fun hk hx => ⟨hk, hx⟩, id, fun _ _ hlt => absurd hlt (Nat.lt_irrefl _)⟩
  · next i rest hpending =>
    obtain ⟨⟨hk, hx, hc⟩, hgain⟩ := exec_keepsRecords h
    exact ⟨fun hk' hx' => ⟨hk hk', hx hx'⟩, hc, fun hs ht hlt => ⟨i, rest, hpending, hgain hs ht hlt⟩⟩

end Sys2Proof.Machine
end

section
/-! SUPPORT. The answers of the Clock Unit as the statements write them: clock notices, capture events and expiries, port by port (R95, R106,
R109 to R111). -/

namespace Sys2Proof.Machine

-- The proofs are checked one after another: side by side they ask for more threads than the memory limit leaves.
set_option Elab.async false

/-! ### Captures and expiries, as the statements write them (R95, R109 to R111) -/

section Made
variable {source : CaptureSource} {port : Option PortId} {k : Clock} {s t : State} {x : Captures} {f : PortId → Port → Port}

/-- What a capture event leaves is read from the captures, the frame and the ports alone. -/
theorem captureMade_congr (hc : t.captures = s.captures) (hf : t.comp.frame = s.comp.frame)
    (hp : ∀ roles, t.portsOf roles = s.portsOf roles) (h : CaptureMade source port k s x f) : CaptureMade source port k t x f := by
  unfold CaptureMade at h ⊢
  rwa [hc, hf, hp]

/-- A capture event does what the statements say of it (R109 to R111). -/
theorem captureEvent_made (h : CaptureMade source port s.clock s x f) :
    (captureEvent source port s).captures = x ∧ ∀ n, (captureEvent source port s).port n = f n (s.port n) := by
  have hunused {n : Fin 2} (hfree : ∀ e ∈ s.captures.held, e.1 ≠ n) : slotUsed n s.captures.held = false := by
    simpa [slotUsed] using fun a b hab => hfree (a, b) hab
  rcases h with ⟨slot, hfree, hlow, rfl, rfl⟩ | ⟨h0, h1, rfl, rfl⟩
  · have hslot : freeSlot s.captures.held = some slot :=
      freeSlot_some_iff.mpr ⟨hunused hfree, fun h1 => slotUsed_iff.mpr (hlow h1)⟩
    refine ⟨?_, fun n => ?_⟩
    · rw [captures_captureEvent, Captures.after, hslot]
      rfl
    · simp only [captureEvent, hslot]
      rw [port_notifyAll _ (portsOf_nodup ..)]
      simp only [List.length_append, List.length_singleton]
      rfl
  · have hfull : freeSlot s.captures.held = none := freeSlot_none_iff.mpr ⟨slotUsed_iff.mpr h0, slotUsed_iff.mpr h1⟩
    refine ⟨?_, fun n => ?_⟩
    · rw [captures_captureEvent, Captures.after, hfull]
      rfl
    · simp only [captureEvent, hfull]
      rfl

theorem portsOf_captureEvent (source : CaptureSource) (port : Option PortId) (s : State) (roles : List Role) :
    (captureEvent source port s).portsOf roles = s.portsOf roles := by
  have hO : Only [.captures] s (captureEvent source port s) := by simp
  exact portsOf_congr (hO.2 .straps (by decide)).1 (fun n => ((portsTold_captureEvent source port s).sound.port n).role) roles

theorem comp_captureEvent (source : CaptureSource) (port : Option PortId) (s : State) : (captureEvent source port s).comp = s.comp :=
  Only.comp (parts := [.captures]) (by simp)

theorem mainExpiry_eq (s : State) :
    mainExpiry s = tellClock .expired [] (captureEvent .expiry none (setClock (expiredClock s.clock) s)) := by
  rw [← sound_expired]
  rfl

/-- A main expiry does what the statements say of it: its capture, and then its notice (R95, R106). -/
theorem mainExpiry_made (h : CaptureMade .expiry none (expiredClock s.clock) s x f) :
    (mainExpiry s).captures = x
      ∧ ∀ n, (mainExpiry s).port n
          = thenPorts f (noted (s.portsOf [.scoring]) (clockNoticeOf .expired s.comp.frame (expiredClock s.clock) [])) n (s.port n) := by
  obtain ⟨hcaptures, hports⟩ := captureEvent_made (s := setClock (expiredClock s.clock) s) h
  rw [mainExpiry_eq]
  refine ⟨hcaptures, fun n => ?_⟩
  rw [port_tellClock, hports, portsOf_captureEvent, comp_captureEvent, clock_captureEvent]
  rfl

end Made

/-! ### What is read of a part in which a frame was heard, or a mark has cleared Unsupervised (R99, R191) -/

theorem captureMade_frameArrives {source : CaptureSource} {port : Option PortId} {k : Clock} {s : State} {x : Captures} {f : PortId → Port → Port}
    (p : PortId) (h : CaptureMade source port k s x f) : CaptureMade source port k (frameArrives p s) x f :=
  captureMade_congr (frameArrives_captures p s) (by rw [frameArrives_comp]) (fun _ => frameArrives_portsOf ..) h

end Sys2Proof.Machine
end

section
/-! PROOF. ClockSet, ClockAdjust and PossessionReset (O16). -/

namespace Sys2Proof.Machine

-- The proofs are checked one after another: side by side they ask for more threads than the memory limit leaves.
set_option Elab.async false

section Requests
variable {p : PortId} {s : State}

/-- A request that stores a clock record, and tells nobody. -/
theorem answers_setClock {i : Instr} {q : Byte} {code : Nat} {r : Reply} {act : State → State × Ans} {k : Clock} (hT : Taken p code s)
    (h58 : code ≠ 58) (h59 : code ≠ 59) (hx : exec i s = .next (pump (receive p q code act s)))
    (ha : act (frameArrives p s) = (setClock k (frameArrives p s), .reply r)) :
    Answers i p q code r [.clock] untouched s (fun t => t.clock = k) :=
  answers_of hT h58 h59 hx ha (by simp) (fun _ => rfl) rfl

/-- A ClockSet that gives a time is not Malformed (R88). -/
theorem given_of_isSome {main possession : Option Nat} (h : main.isSome = true ∨ possession.isSome = true) :
    (main.isNone && possession.isNone) = false := by
  cases main <;> cases possession <;> simp_all

theorem answers_clockSet (hT : Taken p 29 s) {main possession : Option Nat} (hgiven : main.isSome = true ∨ possession.isSome = true)
    (hstands : s.clock.state ≠ .running) (q : Byte) :
    Answers (.clockSet p q main possession) p q 29
      (doneIf (decide (5999999 < main.getD 0 ∨ 99999 < possession.getD 0))
        [nat (stored 0 5999999 s.clock.main main), nat (stored 0 99999 s.clock.possession possession)]) [.clock] untouched s
      (fun t => t.clock = { s.clock with
          main := stored 0 5999999 s.clock.main main
          possession := stored 0 99999 s.clock.possession possession
          correction := 0
          state := if s.clock.state = .expired ∧ 0 < stored 0 5999999 s.clock.main main then .stopped else s.clock.state }) := by
  refine answers_setClock hT (by decide) (by decide) rfl ?_
  simp [onClockSet, given_of_isSome hgiven, State.running, hstands, revive_eq, clampOr_eq_stored, clampHitsOpt_zero, mainMax, possessionMax,
    Ans.doneAdjusted, doneIf]

theorem answers_clockSet_running (hT : Taken p 29 s) {main possession : Option Nat} (hgiven : main.isSome = true ∨ possession.isSome = true)
    (hr : s.clock.state = .running) (q : Byte) :
    Answers (.clockSet p q main possession) p q 29 (refusal .clockRunning) [] untouched s (fun _ => True) := by
  refine answers_unmoved hT (by decide) (by decide) rfl ?_
  simp [onClockSet, given_of_isSome hgiven, State.running, hr, Ans.refuse, refusal]

/-- How much a ClockAdjust asks for, as the statement writes it (R89). -/
theorem clampInt_delta (delta : Int) :
    clampInt (-600000) 600000 delta = if delta < -600000 then -600000 else if 600000 < delta then 600000 else delta :=
  clampInt_eq (by decide) delta

/-- R after a ClockAdjust, as the statement writes it (R89). -/
theorem adjustedMain_eq {delta d : Int} {k : Clock} (hd : d = clampInt (-600000) 600000 delta) :
    adjustedMain delta k
      = if (k.main : Int) + d < 0 then 0 else if 5999999 < (k.main : Int) + d then 5999999 else (k.main : Int) + d := by
  rw [adjustedMain, ← hd]
  exact clampInt_eq (by decide) _

theorem adjustAnswer_eq {delta d r : Int} {k : Clock} (hd : d = clampInt (-600000) 600000 delta) (hr : r = adjustedMain delta k) :
    adjustAnswer delta k = .reply (doneIf (decide (d ≠ delta ∨ r ≠ (k.main : Int) + d)) [.num r]) := by
  have hrange := adjustedMain_range delta k
  have hnat : nat (adjustedMain delta k).toNat = .num r := by
    rw [nat, hr, Int.toNat_of_nonneg hrange.1]
  rw [adjustAnswer, hnat, hr, hd, Bool.decide_or]
  rfl

theorem answers_clockAdjust (hT : Taken p 30 s) {delta d r : Int} (hd : d = clampInt (-600000) 600000 delta)
    (hr : r = adjustedMain delta s.clock) (hstays : ¬(s.clock.state = .running ∧ r = 0)) (q : Byte) :
    Answers (.clockAdjust p q delta) p q 30 (doneIf (decide (d ≠ delta ∨ r ≠ (s.clock.main : Int) + d)) [.num r]) [.clock] untouched s
      (fun t => t.clock = { s.clock with
          main := r.toNat, state := if s.clock.state = .expired ∧ 0 < r then .stopped else s.clock.state }) := by
  refine answers_setClock hT (by decide) (by decide) rfl ?_
  have hpos : 0 < r.toNat ↔ 0 < r := by omega
  rw [onClockAdjust_stores (by rw [frameArrives_clock, ← hr]; exact hstays), frameArrives_clock, adjustAnswer_eq hd hr, ← hr, revive_eq]
  simp only [hpos]

theorem answers_clockAdjust_expires (hT : Taken p 30 s) {delta d : Int} (hd : d = clampInt (-600000) 600000 delta)
    (hz : adjustedMain delta s.clock = 0) (hrun : s.clock.state = .running) {k : Clock} {x : Captures} {f : PortId → Port → Port}
    (hk : k = expiredClock { s.clock with main := 0 }) (hmade : CaptureMade .expiry none k s x f) (q : Byte) :
    Answers (.clockAdjust p q delta) p q 30 (doneIf (decide (d ≠ delta ∨ (s.clock.main : Int) + d ≠ 0)) [nat 0]) [.clock, .captures]
      (thenPorts f (noted (s.portsOf [.scoring]) (clockNoticeOf .expired s.comp.frame k []))) s
      (fun t => t.clock = k ∧ t.captures = x) := by
  have hclock : (setClock { s.clock with main := 0 } (frameArrives p s)).clock = { s.clock with main := 0 } := rfl
  have hat : CaptureMade .expiry none (expiredClock (setClock { s.clock with main := 0 } (frameArrives p s)).clock)
      (setClock { s.clock with main := 0 } (frameArrives p s)) x f := by
    rw [hclock, ← hk]
    exact captureMade_frameArrives p hmade
  obtain ⟨hcaptures, hports⟩ := mainExpiry_made hat
  have ha : onClockAdjust delta (frameArrives p s)
      = (mainExpiry (setClock { s.clock with main := 0 } (frameArrives p s)),
          .reply (doneIf (decide (d ≠ delta ∨ (s.clock.main : Int) + d ≠ 0)) [nat 0])) := by
    rw [onClockAdjust_expires (by rw [frameArrives_clock]; exact hrun) (by rw [frameArrives_clock]; exact hz), frameArrives_clock,
      adjustAnswer_eq hd hz.symm]
    simp only [ne_comm (a := (0 : Int))]
    rfl
  refine answers_of hT (by decide) (by decide) rfl ha (by simp) (fun n => ?_) ⟨?_, ?_⟩
  · have hroles : (setClock { s.clock with main := 0 } (frameArrives p s)).portsOf [.scoring] = s.portsOf [.scoring] := frameArrives_portsOf ..
    rw [hports, hclock, ← hk, hroles, setClock_comp, frameArrives_comp]
    rfl
  · rw [pump_clock, sendAnswer_clock, clock_mainExpiry, hclock, hk]
  · rw [pump_captures, sendAnswer_captures, hcaptures]

theorem answers_possessionReset (hT : Taken p 31 s) (value : Option Nat) (q : Byte) :
    Answers (.possessionReset p q value) p q 31
      (doneIf (decide (99999 < value.getD 0)) [nat (stored 0 99999 s.clock.possessionReset value)]) [.clock] untouched s
      (fun t => t.clock = { s.clock with possession := stored 0 99999 s.clock.possessionReset value }) := by
  refine answers_setClock hT (by decide) (by decide) rfl ?_
  simp [onPossessionReset, clampOr_eq_stored, clampHitsOpt_zero, possessionMax, Ans.doneAdjusted, doneIf]

end Requests

/-- Settles O16: each request stores one clock record, but for the ClockAdjust that expires the clock. -/
theorem clockTimesAreSet : Obligations.ClockTimesAreSet := by
  refine ⟨fun p q main possession s hT hgiven => ⟨fun hr => answers_clockSet hT hgiven hr q,
      fun hr => answers_clockSet_running hT hgiven hr q⟩,
    fun p q s hT => answers_unmoved hT (by decide) (by decide) rfl rfl, fun p q delta d r s hT hd hr => ?_,
    fun p q value s hT => answers_possessionReset hT value q⟩
  rw [← clampInt_delta] at hd
  rw [← adjustedMain_eq hd] at hr
  refine ⟨fun hstays => answers_clockAdjust hT hd hr hstays q, fun k x f hrun h0 hk hmade => ?_⟩
  exact answers_clockAdjust_expires hT hd (hr.symm.trans h0) hrun hk hmade q

end Sys2Proof.Machine
end

section
/-! PROOF. ClockMark (O17). -/

namespace Sys2Proof.Machine

-- The proofs are checked one after another: side by side they ask for more threads than the memory limit leaves.
set_option Elab.async false

section Mark
variable {p : PortId} {mark m : Nat} {e : Int} {s : State}

/-- The Unsupervised condition is clear once a mark has come (R99). -/
theorem condition_superviseClock (s : State) : ((superviseClock s).monitor monUnsupervised).condition = false := by
  rw [superviseClock, condition_lower, if_pos rfl]

theorem condition_cleared {s t : State} (h : t.monitors = (superviseClock s).monitors) : (t.monitor monUnsupervised).condition = false := by
  rw [State.monitor, h]
  exact condition_superviseClock s

theorem monitors_resynced (m : Nat) (e : Int) (s : State) : (resynced m e s).monitors = (superviseClock s).monitors := rfl

theorem clock_resynced (m : Nat) (e : Int) (s : State) : (resynced m e s).clock = s.clock.marked m := rfl

theorem only_resynced (m : Nat) (e : Int) (s : State) : Only [.clock, .monitors] s (resynced m e s) := by simp [resynced]

/-- The Resync of a mark goes to the ports of R106. -/
theorem port_resynced (m : Nat) (e : Int) (s : State) (n : PortId) :
    (resynced m e s).port n
      = noted (s.portsOf [.scoring]) (clockNoticeOf .resync s.comp.frame (s.clock.marked m) [.num e]) n (s.port n) := port_tellClock ..

theorem portsOf_resynced (m : Nat) (e : Int) (s : State) (roles : List Role) : (resynced m e s).portsOf roles = s.portsOf roles :=
  portsOf_congr (s := s) (t := resynced m e s) rfl (fun n => by rw [port_resynced, noted_role]) roles

theorem expiredClock_marked (k : Clock) : expiredClock (k.marked 0) = expiredClock { k with main := 0, unsupervised := false } := rfl

/-- A step to 0 expires the clock after its Resync (R93, R95). -/
theorem answers_clockMark_expires (hT : Taken p 36 s)
    (hmark : onClockMark mark (frameArrives p s)
      = (mainExpiry (resynced 0 e (frameArrives p s)), .doneAdjusted (decide (5999999 < mark)) [markStep, .num e]))
    {k : Clock} {x : Captures} {f : PortId → Port → Port} (hk : k = expiredClock { s.clock with main := 0, unsupervised := false })
    (hmade : CaptureMade .expiry none k s x f) (q : Byte) :
    Answers (.clockMark p q mark) p q 36 (doneIf (decide (5999999 < mark)) [.named 1, .num e]) [.clock, .captures, .monitors]
      (thenPorts (noted (s.portsOf [.scoring]) (clockNoticeOf .resync s.comp.frame { s.clock with main := 0 } [.num e]))
        (thenPorts f (noted (s.portsOf [.scoring]) (clockNoticeOf .expired s.comp.frame k [])))) s
      (fun t => t.clock = k ∧ t.captures = x ∧ (t.monitor monUnsupervised).condition = false) := by
  have hexpired : k = expiredClock (resynced 0 e (frameArrives p s)).clock := by rw [clock_resynced, frameArrives_clock, hk, expiredClock_marked]
  have hat : CaptureMade .expiry none (expiredClock (resynced 0 e (frameArrives p s)).clock) (resynced 0 e (frameArrives p s)) x f := by
    rw [← hexpired]
    exact captureMade_congr (s := frameArrives p s) ((only_resynced ..).2 .captures (by decide)) (by rw [(only_resynced ..).comp])
      (portsOf_resynced 0 e _) (captureMade_frameArrives p hmade)
  obtain ⟨hcaptures, hports⟩ := mainExpiry_made hat
  have hO : Only [.clock, .captures] (resynced 0 e (frameArrives p s)) (mainExpiry (resynced 0 e (frameArrives p s))) := by simp
  refine answers_of hT (by decide) (by decide) rfl hmark (((only_resynced ..).mono (by simp)).trans (hO.mono (by simp))) (fun n => ?_)
    ⟨?_, ?_, ?_⟩
  · rw [hports, ← hexpired, port_resynced, portsOf_resynced, (only_resynced ..).comp, frameArrives_portsOf, frameArrives_comp, frameArrives_clock]
    rfl
  · rw [pump_clock, sendAnswer_clock, clock_mainExpiry, ← hexpired]
  · rw [pump_captures, sendAnswer_captures, hcaptures]
  · exact condition_cleared (s := frameArrives p s) (by rw [pump_monitors, sendAnswer_monitors]; exact hO.2 .monitors (by decide))

end Mark

/-- Settles O17: each of the mark's cases is one of `onClockMark_eq`. -/
theorem clockMarkFollowsTheConsole : Obligations.ClockMarkFollowsTheConsole := by
  intro p q mark m e s hT hm he
  have hmark := onClockMark_eq (s := frameArrives p s) (e := e) hm (by rw [frameArrives_clock]; exact he)
  rw [frameArrives_clock] at hmark
  refine ⟨fun hr hw => ?_, fun hr hw h0 => ?_, fun k x f hr hw h0 hk hmade => ?_, fun hr hy => ?_, fun hr hy => ?_⟩
  · rw [if_pos hr, if_pos hw] at hmark
    exact answers_of hT (by decide) (by decide) rfl hmark (by simp) (fun _ => rfl)
      ⟨rfl, condition_cleared (s := frameArrives p s) (by simp)⟩
  · rw [if_pos hr, if_neg (Nat.not_le.mpr hw), if_neg h0.ne'] at hmark
    refine answers_of hT (by decide) (by decide) rfl hmark (only_resynced ..) (fun n => ?_)
      ⟨?_, condition_cleared (s := frameArrives p s) (by simp [monitors_resynced])⟩
    · rw [port_resynced, frameArrives_portsOf, frameArrives_comp, frameArrives_clock]
      rfl
    · rw [pump_clock, sendAnswer_clock, clock_resynced, frameArrives_clock]
      rfl
  · rw [if_pos hr, if_neg (Nat.not_le.mpr hw), if_pos h0, h0] at hmark
    exact answers_clockMark_expires hT hmark hk hmade q
  · rw [if_neg hr, if_pos hy] at hmark
    refine answers_of hT (by decide) (by decide) rfl hmark (by simp) (fun _ => rfl)
      ⟨?_, condition_cleared (s := frameArrives p s) (by simp)⟩
    rw [pump_clock, sendAnswer_clock, clock_superviseClock, frameArrives_clock]
  · rw [if_neg hr, if_neg (Nat.not_le.mpr hy)] at hmark
    refine answers_of hT (by decide) (by decide) rfl hmark (by simp) (fun _ => rfl)
      ⟨?_, condition_cleared (s := frameArrives p s) (by simp)⟩
    rw [pump_clock, sendAnswer_clock, revive_eq]
    rfl

end Sys2Proof.Machine
end

section
/-! PROOF. ScoreSet and ClockConfig (O18). -/

namespace Sys2Proof.Machine

-- The proofs are checked one after another: side by side they ask for more threads than the memory limit leaves.
set_option Elab.async false

/-- The score record that ScoreSet stores, as the statement writes it (R100, R101). -/
theorem storeScore_eq (f : ScoreFields) (a : Arrow) (x : Score) :
    storeScore f a x = { x with
      home := stored 0 999 x.home f.home, away := stored 0 999 x.away f.away
      homeFouls := stored 0 99 x.homeFouls f.homeFouls, awayFouls := stored 0 99 x.awayFouls f.awayFouls
      homeTimeouts := stored 0 9 x.homeTimeouts f.homeTimeouts, awayTimeouts := stored 0 9 x.awayTimeouts f.awayTimeouts
      arrow := a
      flashLeft := if stored 0 999 x.home f.home = x.home ∧ stored 0 999 x.away f.away = x.away then x.flashLeft else x.flashLength
      flashUsed := if stored 0 999 x.home f.home = x.home ∧ stored 0 999 x.away f.away = x.away then x.flashUsed else 0 } := by
  simp only [storeScore, clampOr_eq_stored (Nat.zero_le _), ne_eq, ← not_and_or, ite_not]
  split <;> rfl

theorem scoreSet_given_iff (f : ScoreFields) : ScoreSet.given f = true ↔ f ≠ ⟨none, none, none, none, none, none, none⟩ := by
  obtain ⟨_, _, _, _, _, _, _⟩ := f
  simp only [ScoreSet.given, Bool.or_eq_true, ne_eq, ScoreFields.mk.injEq]
  simp only [Option.isSome_iff_ne_none]
  tauto

theorem scoreSet_hits_eq (f : ScoreFields) :
    ScoreSet.hits f = decide (999 < f.home.getD 0 ∨ 999 < f.away.getD 0 ∨ 99 < f.homeFouls.getD 0 ∨ 99 < f.awayFouls.getD 0
      ∨ 9 < f.homeTimeouts.getD 0 ∨ 9 < f.awayTimeouts.getD 0) := by
  simp only [ScoreSet.hits, clampHitsOpt_zero, Bool.decide_or, Bool.or_assoc]

/-- Clamping changes a field that lies outside its range, and no other (R197). -/
theorem clampHitsOpt_iff {lo hi : Nat} (h : lo ≤ hi) (n : Option Nat) : clampHitsOpt lo hi n = true ↔ outside lo hi n := by
  cases n with
  | none => simp [clampHitsOpt, outside]
  | some n =>
    rw [clampHitsOpt, clampHits, decide_eq_true_eq, clamp, outside]
    omega

theorem configHits_iff (f : ClockFields) :
    configHits f = true ↔ outside 1000 5999999 f.length ∨ outside 1000 99999 f.possessionReset ∨ outside 0 2000 f.window
      ∨ outside 0 500 f.hysteresis ∨ outside 200 5000 f.hornLength ∨ outside 0 120 f.flashLength := by
  simp only [configHits, Bool.or_eq_true, or_assoc, clampHitsOpt_iff (show 1000 ≤ mainMax by decide),
    clampHitsOpt_iff (show 1000 ≤ possessionMax by decide), clampHitsOpt_iff (show 0 ≤ 2000 by decide),
    clampHitsOpt_iff (show 0 ≤ 500 by decide), clampHitsOpt_iff (show 200 ≤ 5000 by decide), clampHitsOpt_iff (show 0 ≤ 120 by decide)]
  rfl

/-- Settles O18: the records stored are those the statement writes, field by field. -/
theorem scoreAndClockSettingsAreStored : Obligations.ScoreAndClockSettingsAreStored := by
  refine ⟨fun p q f arrow x s hT hgiven harrow hx => ?_, fun p q f k s hT hstands hk => ⟨configHits f, configHits_iff f, ?_⟩⟩
  · have hstore : x = storeScore f arrow s.score := hx.trans (storeScore_eq ..).symm
    have ha : onScoreSet f (frameArrives p s)
        = ({ frameArrives p s with score := x }, .doneAdjusted (ScoreSet.hits f) (scoreAtoms x)) := by
      rw [onScoreSet, (scoreSet_given_iff f).mpr hgiven, frameArrives_score, harrow, hstore]
      rfl
    rw [scoreSet_hits_eq] at ha
    exact answers_of hT (by decide) (by decide) rfl ha (by simp [only_iff]) (fun _ => rfl) rfl
  · have hno : (f.length.isSome && (frameArrives p s).running) = false := by
      rw [frameArrives_running]
      cases hl : f.length.isSome with
      | false => rfl
      | true => simpa [State.running] using hstands hl
    have ha : onClockConfig f (frameArrives p s)
        = ({ frameArrives p s with
              clock := k, score := { s.score with flashLength := stored 0 120 s.score.flashLength f.flashLength } },
            .doneAdjusted (configHits f) (settingAtoms k { s.score with flashLength := stored 0 120 s.score.flashLength f.flashLength })) := by
      rw [onClockConfig, hno, hk]
      simp only [frameArrives_clock, frameArrives_score, clampOr_eq_stored (show 1000 ≤ mainMax by decide),
        clampOr_eq_stored (show 1000 ≤ possessionMax by decide), clampOr_eq_stored (show 0 ≤ 2000 by decide),
        clampOr_eq_stored (show 0 ≤ 500 by decide), clampOr_eq_stored (show 200 ≤ 5000 by decide),
        clampOr_eq_stored (show 0 ≤ 120 by decide)]
      rfl
    exact answers_of hT (by decide) (by decide) rfl ha (by simp [only_iff]) (fun _ => rfl) ⟨rfl, rfl⟩

end Sys2Proof.Machine
end

section
/-! PROOF. MatchReset (O6). -/

namespace Sys2Proof.Machine

-- The proofs are checked one after another: side by side they ask for more threads than the memory limit leaves.
set_option Elab.async false

/-! ### The Message Engine starts again (R168) -/

/-- The message queue emptied, before the engine settles. -/
def State.emptied (s : State) : State :=
  { s with messages := { s.messages with held := [], approved := [], passes := Vector.replicate 33 none } }

theorem pass_emptied (s : State) (r : RegionId) : s.emptied.pass r = none := by
  simp [State.pass, State.emptied, Vector.get_eq_getElem]

theorem interest_emptied (s : State) (r : RegionId) : s.emptied.interest .message r = false := by
  have happroved : s.emptied.messages.approved = [] := rfl
  show messageInterest s.emptied r = false
  unfold messageInterest
  split
  · simp [pass_emptied, happroved]
  · rfl

/-- With nothing left to show, the engine only lets go of its claims (R160, R168). -/
theorem released_resetMessages (s : State) : Released s.emptied (resetMessages s) :=
  released_settleAll fun r hi => absurd (interest_emptied s r) (by rw [hi]; decide)

/-! ### What a MatchReset makes of the part (R108, R116, R137, R150, R168) -/

theorem monitor_lower (m n : MonitorId) (s : State) :
    (lower m s).monitor n = if n = m then { s.monitor m with condition := false } else s.monitor n := monitor_setMonitor ..

/-- A heard frame clears no more than the Silent condition of its port (R199). -/
theorem monitor_frameArrives {p : PortId} {m : MonitorId} (hm : m ≠ monSilent p) (s : State) :
    (frameArrives p s).monitor m = s.monitor m := by
  unfold frameArrives
  simp only
  split
  · rw [monitor_lower, if_neg hm]
    rfl
  · rfl

/-- The part after a MatchReset taken in Setup. -/
structure Restarts (s t : State) : Prop where
  only : Only [.clock, .score, .captures, .rotation, .messages, .monitors, .arbiter] s t
  ports : t.ports = s.ports
  clock : t.clock = s.clock.matchReset
  score : t.score = s.score.matchReset
  captures : t.captures = Captures.reset
  rotation : t.rotation = { s.rotation with pointer := 0, contracts := s.rotation.contracts.map Contract.matchReset }
  messages : t.messages = { s.emptied.messages with offering := t.messages.offering }
  monitor : ∀ m, t.monitor m = if m = monUnsupervised then { s.monitor monUnsupervised with condition := false } else s.monitor m

theorem restarts_resetMessages (s : State) : Restarts s (resetMessages (lower monUnsupervised s.restarted)) := by
  have hfree := released_resetMessages (lower monUnsupervised s.restarted)
  have hrest : Only [.arbiter, .messages] (lower monUnsupervised s.restarted) (resetMessages (lower monUnsupervised s.restarted)) :=
    ((only_messages (by decide) _).mpr only_rfl).trans hfree.only
  have hbase : Only [.clock, .score, .captures, .rotation] s s.restarted := by simp [State.restarted, only_iff]
  have hlower : Only [.monitors] s.restarted (lower monUnsupervised s.restarted) := by simp
  exact
    { only := ((hbase.mono (by simp)).trans (hlower.mono (by simp))).trans (hrest.mono (by simp))
      ports := hfree.quiet.ports
      clock := (hrest.2 .clock (by decide)).trans (hlower.2 .clock (by decide))
      score := (hrest.2 .score (by decide)).trans (hlower.2 .score (by decide))
      captures := (hrest.2 .captures (by decide)).trans (hlower.2 .captures (by decide))
      rotation := hfree.rotation
      messages := hfree.quiet.messages
      monitor := fun m => by
        rw [State.monitor, hrest.2 .monitors (by decide)]
        exact monitor_lower .. }

/-- Settles O6: the records start again, and the Message Engine, with nothing left to show, only releases its claims. -/
theorem matchResetStartsTheMatchAgain : Obligations.MatchResetStartsTheMatchAgain := by
  intro p q s hT hm
  have hreset := onMatchReset_setup (s := frameArrives p s) (by rw [frameArrives_live]; exact live_of_setup hm)
  have h := restarts_resetMessages (frameArrives p s)
  generalize resetMessages (lower monUnsupervised (frameArrives p s).restarted) = u at hreset h
  have hsilent : monUnsupervised ≠ monSilent p := fun h => nomatch cause_monitor_injective (c := .unsupervised) (d := .silent p) h
  refine answers_of hT (by decide) (by decide) rfl hreset h.only (fun n => ?_) ?_
  · rw [State.port, h.ports]
    rfl
  · simp only [pump_clock, sendAnswer_clock, pump_score, sendAnswer_score, pump_captures, sendAnswer_captures, pump_rotation,
      sendAnswer_rotation, pump_messages, sendAnswer_messages, pass_pump, monitor_pump, h.clock, h.score, h.captures, h.rotation]
    rw [frameArrives_clock, frameArrives_score, frameArrives_rotation]
    refine ⟨rfl, rfl, rfl, rfl, ?_, ?_, fun r => ?_, ?_, ?_, fun m hne => ?_⟩
    · rw [h.messages]
      rfl
    · rw [h.messages]
      rfl
    · rw [State.pass, sendAnswer_messages, h.messages]
      exact pass_emptied (frameArrives p s) r
    · rw [h.messages, ← frameArrives_messages p s]
      rfl
    · rw [State.monitor, sendAnswer_monitors]
      exact (h.monitor _).trans ((if_pos rfl).trans (by rw [monitor_frameArrives hsilent]))
    · rw [State.monitor, sendAnswer_monitors]
      exact (h.monitor m).trans (if_neg hne)

end Sys2Proof.Machine
end

section
/-! SUPPORT. The ms step of the part: what is due at it, and what it leaves where nothing is (R82, R84, R95 to R98, R158, R198). -/

namespace Sys2Proof.Machine

-- The proofs are checked one after another: side by side they ask for more threads than the memory limit leaves.
set_option Elab.async false

/-! ### What is due at a ms step (R84, R95, R96) -/

section Due
variable {k : Clock}

theorem mainDue_iff : k.mainDue = true ↔ k.state = .running ∧ k.count.main = 0 := by simp [Clock.mainDue]

/-- Away from R = 0 no main expiry is due, whatever the slew (R84, R85). -/
theorem mainDue_false (h : k.state ≠ .running ∨ 2 < k.main) : k.mainDue = false := by
  rw [Bool.eq_false_iff, ne_eq, mainDue_iff]
  rintro ⟨hr, h0⟩
  rw [count_running hr] at h0
  have hm := h.resolve_left (not_not.mpr hr)
  dsimp only at h0
  split_ifs at h0 <;> omega

theorem possessionDue_false (h : k.state ≠ .running ∨ k.possession ≠ 1) : k.possessionDue = false := by
  unfold Clock.possessionDue
  rcases h with h | h
  · simp [h]
  · simp [h]

theorem possessionDue_true (hr : k.state = .running) (hp : k.possession = 1) : k.possessionDue = true := by simp [Clock.possessionDue, hr, hp]

/-- Away from a 100 ms boundary the last ms of R goes by (R84). -/
theorem count_main_last (hr : k.state = .running) (hm : k.main = 1) (hb : (k.now + 1).toNat % 100 ≠ 0) : k.count.main = 0 := by
  rw [count_running hr]
  dsimp only
  rw [if_neg fun h => hb h.1, if_neg fun h => hb h.1, hm]

theorem horn_count (k : Clock) : k.count.horn = k.horn := by
  by_cases hr : k.state = .running
  · rw [count_running hr]
  · rw [count_standing hr]

theorem hornLength_count (k : Clock) : k.count.hornLength = k.hornLength := by
  by_cases hr : k.state = .running
  · rw [count_running hr]
  · rw [count_standing hr]

theorem period_count (k : Clock) : k.count.period = k.period := by
  by_cases hr : k.state = .running
  · rw [count_running hr]
  · rw [count_standing hr]

/-- With no horn sounding its test changes nothing (R97). -/
theorem testHorn_silent (h : k.horn = none) : k.testHorn = k := by
  unfold Clock.testHorn
  rw [h]

/-- The end of a horn pulse of a lawful length, requested now, is not reached now (R82, R97). -/
theorem msReached_ahead (n : Ms) {length : Nat} (h0 : 0 < length) (h : length ≤ 5000) : msReached n (n + BitVec.ofNat 64 length) = false := by
  unfold msReached msSince
  rw [decide_eq_false_iff_not]
  bv_omega

/-- A horn that has just been asked for sounds on (R97). -/
theorem testHorn_ahead {length : Nat} (h0 : 0 < length) (h : length ≤ 5000) (hk : k.horn = some (k.now + BitVec.ofNat 64 length)) :
    k.testHorn = k := by
  unfold Clock.testHorn
  rw [hk]
  simp only [msReached_ahead k.now h0 h]
  rfl

theorem testHorn_reached (h : k.horn = some k.now) : k.testHorn = { k with horn := none } := by
  unfold Clock.testHorn
  rw [h]
  simp [msReached, msSince]

end Due

/-! ### Captures of an event, told by what stands before it (R109, R110) -/

theorem counter_after (x : Captures) (c : Capture) : (x.after c).counter = c.number := by
  unfold Captures.after
  split <;> rfl

theorem held_after {x : Captures} (h : x.held = []) (c : Capture) : (x.after c).held = [(0, c)] := by
  rw [Captures.after, h]
  rfl

theorem captures_mainExpiry (s : State) :
    (mainExpiry s).captures
      = s.captures.after (captureNow .expiry none (nextCaptureNumber s.captures.counter) (setClock (expiredClock s.clock) s)) := by
  rw [mainExpiry_eq]
  exact captures_captureEvent ..

theorem captures_possessionExpiry (s : State) :
    (possessionExpiry s).captures
      = s.captures.after (captureNow .possessionExpiry none (nextCaptureNumber s.captures.counter) (setClock s.clock.sound s)) :=
  captures_captureEvent (s := setClock s.clock.sound s) ..

/-- A whistle's capture records the clock after the stop (R98). -/
theorem captures_whistleTaken (s : State) :
    (whistleTaken s).captures
      = s.captures.after (captureNow .whistle none (nextCaptureNumber s.captures.counter) (setClock s.clock.whistled s)) := by
  have hevent := captures_captureEvent .whistle none (setClock s.clock.whistled s)
  rw [whistleTaken_eq]
  split
  · exact hevent
  · exact hevent

/-! ### The clock's step, case by case (R84, R95 to R97) -/

section Step
variable {s : State}

/-- No expiry is due: the clock counts, and the horn's end is tested. -/
theorem clockStep_counts (hp : s.clock.possessionDue = false) (hm : s.clock.mainDue = false) :
    clockStep s = setClock s.clock.count.testHorn s := by
  simp only [clockStep, hp, hm]
  rfl

theorem captures_clockStep_main (hp : s.clock.possessionDue = false) (hm : s.clock.mainDue = true) :
    (clockStep s).captures
      = s.captures.after (captureNow .expiry none (nextCaptureNumber s.captures.counter) (setClock (expiredClock s.clock.count) s)) := by
  simp only [clockStep, hp, hm]
  exact captures_mainExpiry (setClock s.clock.count s)

theorem captures_clockStep_possession (hp : s.clock.possessionDue = true) (hm : s.clock.mainDue = false) :
    (clockStep s).captures
      = s.captures.after (captureNow .possessionExpiry none (nextCaptureNumber s.captures.counter) (setClock s.clock.count.sound s)) := by
  simp only [clockStep, hp, hm]
  exact captures_possessionExpiry (setClock s.clock.count s)

end Step

/-! ### The rest of a ms step (R158, R198) -/

/-- With no operation in flight and no silence due, nothing is overdue (R174, R198). -/
theorem settleOverdue_nothing {s : State} (hop : s.assets.op = none) (hdue : ∀ p, (s.port p).silenceDue = false) : settleOverdue s = s := by
  have hfold (l : List PortId) : l.foldl (fun t p => silenceExpiry p t) s = s := by
    induction l with
    | nil => rfl
    | cons p rest ih => rw [List.foldl_cons, silenceExpiry, hdue, if_neg Bool.false_ne_true, ih]
  rw [settleOverdue, hfold, timeLimit, Assets.overdue, hop]
  rfl

/-- With no Held entry at its limit, none lapses (R158). -/
theorem lapseHeld_nothing {s : State} (h : ∀ e ∈ s.messages.held, e.lapses s.messages.settings.holdLimit s.clock.now = false) :
    lapseHeld s = s := by
  have hgone : s.messages.held.filter (Entry.lapses s.messages.settings.holdLimit s.clock.now) = [] :=
    List.filter_eq_nil_iff.mpr fun e he => by rw [h e he]; exact Bool.false_ne_true
  have hkept : s.messages.held.filter (fun e => !e.lapses s.messages.settings.holdLimit s.clock.now) = s.messages.held :=
    List.filter_eq_self.mpr fun e he => by rw [h e he]; rfl
  rw [lapseHeld, hgone, hkept]
  rfl

theorem port_countSilence (s : State) (n : PortId) : (countSilence s).port n = (s.port n).countMs := by
  refine (get_foldl_updatePort (fun _ => Port.countMs) allPorts allPorts_nodup s.ports n).trans ?_
  rw [if_pos (mem_allPorts n)]
  rfl

theorem captures_msStep (s : State) : (msStep s).captures = (clockStep (settleOverdue s)).captures := by
  have h : Only [.messages] (clockStep (settleOverdue s)) (msStep s) := by simp [msStep]
  exact h.2 .captures (by decide)

theorem captures_settleOverdue (s : State) : (settleOverdue s).captures = s.captures := only_settleOverdue.2 .captures (by decide)

end Sys2Proof.Machine
end

section
/-! PROOF. The ms step and what falls due at it (O44, O45). -/

namespace Sys2Proof.Machine

-- The proofs are checked one after another: side by side they ask for more threads than the memory limit leaves.
set_option Elab.async false

/-! ### A ms step at which nothing falls due (R82, R84, R85, R198) -/

/-- With nothing overdue, no expiry due and no horn sounding, a ms step counts the clock and the silence timers. -/
theorem msStep_counts {s : State} (hover : settleOverdue s = s) (hlimit : ∀ e ∈ s.messages.held, s.messages.settings.holdLimit = 0)
    (hhorn : s.clock.horn = none) (hp : s.clock.possessionDue = false) (hm : s.clock.mainDue = false) :
    msStep s = countSilence (setClock s.clock.count s) := by
  have hlapse : lapseHeld (setClock s.clock.count s) = setClock s.clock.count s :=
    lapseHeld_nothing fun e he => by
      show e.lapses s.messages.settings.holdLimit _ = false
      rw [hlimit e he]
      rfl
  rw [msStep, hover, clockStep_counts hp hm, testHorn_silent ((horn_count _).trans hhorn), hlapse]

/-- A ms step that only counts leads to the counted clock, and counts every silence timer. -/
theorem leads_msStep {s : State} {P : State → Prop} (h : msStep s = countSilence (setClock s.clock.count s))
    (hP : ∀ t : State, t.clock = s.clock.count → P t) :
    Leads .msStep s s [.clock] (fun _ x => { x with silentTimer := x.silentTimer + 1 }) P := by
  refine ⟨pump (msStep s), rfl, ?_, ?_, fun n => ?_⟩
  · rw [h]
    exact hP _ rfl
  · rw [h]
    simp
  · rw [h, port_pump, port_countSilence]
    rfl

/-- Settles O44: with nothing overdue the step is the clock's count, Running or standing. -/
theorem msStepCountsTheClocks : Obligations.MsStepCountsTheClocks := by
  intro s _ hhorn hop hlimit hports
  have hover : settleOverdue s = s := settleOverdue_nothing hop fun p => by
    rw [Port.silenceDue]
    rcases hports p with h | h | h
    · simp [h]
    · simp [h]
    · simp [Nat.not_le.mpr h]
  refine ⟨fun hs => ?_, fun hr h2 h1 => ?_⟩
  · refine leads_msStep (msStep_counts hover hlimit hhorn (possessionDue_false (.inl hs)) (mainDue_false (.inl hs))) fun t ht => ?_
    exact ht.trans (count_standing hs)
  · refine leads_msStep (msStep_counts hover hlimit hhorn (possessionDue_false (.inr h1)) (mainDue_false (.inr h2))) fun t ht => ?_
    exact ht.trans (count_running hr)

/-! ### The clock record at an expiry and at the horn's end (R84, R95 to R97) -/

section Stepped
variable {k : Clock}

/-- A main expiry with no horn sounding: the clock expires, and its horn pulse runs past this ms (R95, R97). -/
theorem stepped_main (hp : k.possessionDue = false) (hm : k.mainDue = true) (hhorn : k.horn = none) (h0 : 0 < k.hornLength)
    (h : k.hornLength ≤ 5000) : k.stepped = expiredClock k.count := by
  have hnone : k.count.horn = none := (horn_count k).trans hhorn
  have hlength := hornLength_count k
  have hahead : (expiredClock k.count).testHorn = expiredClock k.count :=
    testHorn_ahead (length := k.count.hornLength) (by omega) (by omega) (by simp [expiredClock, hnone])
  unfold Clock.stepped
  rw [hp, hm]
  exact hahead

/-- A possession expiry with no horn sounding starts a horn pulse that runs past this ms (R96, R97). -/
theorem stepped_possession (hp : k.possessionDue = true) (hm : k.mainDue = false) (hhorn : k.horn = none) (h0 : 0 < k.hornLength)
    (h : k.hornLength ≤ 5000) : k.stepped = k.count.sound := by
  have hnone : k.count.horn = none := (horn_count k).trans hhorn
  have hlength := hornLength_count k
  have hahead : k.count.sound.testHorn = k.count.sound :=
    testHorn_ahead (length := k.count.hornLength) (by omega) (by omega) (by simp [Clock.sound, hnone])
  unfold Clock.stepped
  rw [hp, hm]
  exact hahead

theorem stepped_counts (hp : k.possessionDue = false) (hm : k.mainDue = false) : k.stepped = k.count.testHorn := by
  simp only [Clock.stepped, hp, hm]
  rfl

theorem state_count (k : Clock) : k.count.state = k.state := by
  by_cases hr : k.state = .running
  · rw [count_running hr]
  · rw [count_standing hr]

theorem possession_count (hr : k.state = .running) : k.count.possession = k.possession - 1 := by rw [count_running hr]

theorem mainDue_last (hr : k.state = .running) (hm : k.main = 1) (hb : (k.now + 1).toNat % 100 ≠ 0) : k.mainDue = true :=
  mainDue_iff.mpr ⟨hr, count_main_last hr hm hb⟩

/-- Where no main expiry is due, a Running clock has time left after the step (R84). -/
theorem main_count_pos (hr : k.state = .running) (hm : k.mainDue = false) : 0 < k.count.main :=
  Nat.pos_of_ne_zero fun h0 => Bool.false_ne_true (hm.symm.trans (mainDue_iff.mpr ⟨hr, h0⟩))

/-- The horn pulse that starts where none sounds ends a horn length after the step (R95, R97). -/
theorem horn_expired (hhorn : k.horn = none) : (expiredClock k.count).horn = some (k.now + 1 + BitVec.ofNat 64 k.hornLength) := by
  simp [expiredClock, horn_count, now_count, hornLength_count, hhorn]

theorem horn_sound (hhorn : k.horn = none) : k.count.sound.horn = some (k.now + 1 + BitVec.ofNat 64 k.hornLength) := by
  simp [Clock.sound, horn_count, now_count, hornLength_count, hhorn]

end Stepped

/-! ### What was overdue before a ms step leaves the clock's times (R99, R198) -/

section Overdue
variable (s : State)

@[simp] theorem settleOverdue_state : (settleOverdue s).clock.state = s.clock.state := by rw [clock_settleOverdue]
@[simp] theorem settleOverdue_main : (settleOverdue s).clock.main = s.clock.main := by rw [clock_settleOverdue]
@[simp] theorem settleOverdue_possession : (settleOverdue s).clock.possession = s.clock.possession := by rw [clock_settleOverdue]
@[simp] theorem settleOverdue_now : (settleOverdue s).clock.now = s.clock.now := by rw [clock_settleOverdue]
@[simp] theorem settleOverdue_horn : (settleOverdue s).clock.horn = s.clock.horn := by rw [clock_settleOverdue]
@[simp] theorem settleOverdue_hornLength : (settleOverdue s).clock.hornLength = s.clock.hornLength := by rw [clock_settleOverdue]
@[simp] theorem settleOverdue_period : (settleOverdue s).clock.period = s.clock.period := by rw [clock_settleOverdue]

end Overdue

/-! ### The ms step of an expiry, and that of the horn's end (R84, R95 to R97) -/

section Expiries
variable {s : State}

theorem msStep_mainExpiry (hlaw : ClockLaw s) (hr : s.clock.state = .running) (h1 : s.clock.main = 1)
    (hb : (s.clock.now + 1).toNat % 100 ≠ 0) (hp : s.clock.possession ≠ 1) (hhorn : s.clock.horn = none) :
    (msStep s).clock = expiredClock (settleOverdue s).clock.count
    ∧ (msStep s).captures = s.captures.after (captureNow .expiry none (nextCaptureNumber s.captures.counter)
        (setClock (expiredClock (settleOverdue s).clock.count) (settleOverdue s))) := by
  obtain ⟨-, -, -, -, -, -, -, -, -, -, -, -, hlow, hhigh, -, -⟩ := hlaw
  have hpossession : (settleOverdue s).clock.possessionDue = false := possessionDue_false (.inr (by simpa using hp))
  have hmain : (settleOverdue s).clock.mainDue = true := mainDue_last (by simpa using hr) (by simpa using h1) (by simpa using hb)
  refine ⟨?_, ?_⟩
  · rw [clock_msStep]
    exact stepped_main hpossession hmain (by simpa using hhorn) (by simpa using Nat.lt_of_lt_of_le (by decide) hlow) (by simpa using hhigh)
  · rw [captures_msStep, captures_clockStep_main hpossession hmain, captures_settleOverdue]

theorem msStep_possessionExpiry (hlaw : ClockLaw s) (hr : s.clock.state = .running) (h1 : s.clock.possession = 1)
    (h2 : 2 < s.clock.main) (hhorn : s.clock.horn = none) :
    (msStep s).clock = (settleOverdue s).clock.count.sound
    ∧ (msStep s).captures = s.captures.after (captureNow .possessionExpiry none (nextCaptureNumber s.captures.counter)
        (setClock (settleOverdue s).clock.count.sound (settleOverdue s))) := by
  obtain ⟨-, -, -, -, -, -, -, -, -, -, -, -, hlow, hhigh, -, -⟩ := hlaw
  have hpossession : (settleOverdue s).clock.possessionDue = true := possessionDue_true (by simpa using hr) (by simpa using h1)
  have hmain : (settleOverdue s).clock.mainDue = false := mainDue_false (.inr (by simpa using h2))
  refine ⟨?_, ?_⟩
  · rw [clock_msStep]
    exact stepped_possession hpossession hmain (by simpa using hhorn) (by simpa using Nat.lt_of_lt_of_le (by decide) hlow)
      (by simpa using hhigh)
  · rw [captures_msStep, captures_clockStep_possession hpossession hmain, captures_settleOverdue]

theorem msStep_hornEnd (he : s.clock.horn = some (s.clock.now + 1))
    (hs : s.clock.state ≠ .running ∨ 2 < s.clock.main ∧ s.clock.possession ≠ 1) :
    (msStep s).clock = { (settleOverdue s).clock.count with horn := none } ∧ (msStep s).captures = s.captures := by
  have hpossession : (settleOverdue s).clock.possessionDue = false := possessionDue_false (by simpa using hs.imp_right And.right)
  have hmain : (settleOverdue s).clock.mainDue = false := mainDue_false (by simpa using hs.imp_right And.left)
  refine ⟨?_, ?_⟩
  · rw [clock_msStep, stepped_counts hpossession hmain]
    exact testHorn_reached (by simpa [horn_count, now_count] using he)
  · rw [captures_msStep, clockStep_counts hpossession hmain, setClock_captures, captures_settleOverdue]

end Expiries

/-! ### The four commands (R84, R95 to R98) -/

/-- An event that is due is taken with its ms step. -/
theorem exec_msStep {i : Instr} {s : State} {due : Bool} (hi : exec i s = .next (pump (msIf due s))) (hdue : due = true) :
    exec i s = .next (pump (msStep s)) := by
  rw [hi, hdue]
  rfl

theorem hornDue_reached {k : Clock} (he : k.horn = some (k.now + 1)) (hp : k.possessionDue = false) (hm : k.mainDue = false) :
    k.hornDue = true := by
  simp [Clock.hornDue, he, hp, hm, msReached, msSince]

/-- A whistle edge at least 20 ms after the last one taken is taken (R98). -/
theorem whistleIgnored_false {k : Clock} (h : ∀ w, k.lastWhistle = some w → 20 ≤ (k.now - w).toNat) : whistleIgnored k = false := by
  unfold whistleIgnored
  split
  · rfl
  · next w hw => exact decide_eq_false (Nat.not_lt.mpr (h w hw))

theorem whistleIgnored_true {k : Clock} {w : Ms} (hw : k.lastWhistle = some w) (h : (k.now - w).toNat < 20) : whistleIgnored k = true := by
  unfold whistleIgnored
  rw [hw]
  exact decide_eq_true h

/-- Settles O45: each event is taken with its ms step, and a whistle edge at once. -/
theorem expiriesAndWhistlesAct : Obligations.ExpiriesAndWhistlesAct := by
  refine ⟨fun s hlaw => ⟨fun hr h1 hb hp hhorn => ?main, fun hr h1 h2 hhorn => ?possession, fun he hs => ?horn⟩,
    fun s => ⟨fun hlate => ?whistle, fun w hw hearly => ?ignored⟩⟩
  case main =>
    obtain ⟨hk, hx⟩ := msStep_mainExpiry hlaw hr h1 hb hp hhorn
    have hzero : (settleOverdue s).clock.count.main = 0 := count_main_last (by simpa using hr) (by simpa using h1) (by simpa using hb)
    have hperiod : (settleOverdue s).clock.count.period = s.clock.period := by rw [period_count, settleOverdue_period]
    have hpulse := horn_expired (k := (settleOverdue s).clock) (by simpa using hhorn)
    rw [settleOverdue_now, settleOverdue_hornLength] at hpulse
    refine ⟨pump (msStep s), exec_msStep rfl (mainDue_last hr h1 hb), ?_⟩
    rw [pump_clock, pump_captures, hk, hx]
    generalize (settleOverdue s).clock.count = k at hzero hperiod hpulse ⊢
    exact ⟨rfl, hzero, rfl, hperiod, hpulse, counter_after .., fun hheld => ⟨_, held_after hheld _, rfl, rfl, rfl, hzero⟩⟩
  case possession =>
    obtain ⟨hk, hx⟩ := msStep_possessionExpiry hlaw hr h1 h2 hhorn
    have hzero : (settleOverdue s).clock.count.possession = 0 := by rw [possession_count (by simpa using hr), settleOverdue_possession, h1]
    have hstate : (settleOverdue s).clock.count.state = .running := by rw [state_count, settleOverdue_state, hr]
    have hleft : 0 < (settleOverdue s).clock.count.main := main_count_pos (by simpa using hr) (mainDue_false (.inr (by simpa using h2)))
    have hpulse := horn_sound (k := (settleOverdue s).clock) (by simpa using hhorn)
    rw [settleOverdue_now, settleOverdue_hornLength] at hpulse
    refine ⟨pump (msStep s), exec_msStep rfl (possessionDue_true hr h1), ?_⟩
    rw [pump_clock, pump_captures, hk, hx]
    generalize (settleOverdue s).clock.count = k at hzero hstate hleft hpulse ⊢
    exact ⟨hstate, hzero, hleft, hpulse, counter_after .., fun hheld => ⟨_, held_after hheld _, rfl, hzero⟩⟩
  case horn =>
    obtain ⟨hk, hx⟩ := msStep_hornEnd he hs
    have hdue := hornDue_reached he (possessionDue_false (hs.imp_right And.right)) (mainDue_false (hs.imp_right And.left))
    refine ⟨pump (msStep s), exec_msStep rfl hdue, ?_⟩
    have hstate : (settleOverdue s).clock.count.state = s.clock.state := by rw [state_count, settleOverdue_state]
    rw [pump_clock, pump_captures, hk, hx]
    generalize (settleOverdue s).clock.count = k at hstate ⊢
    exact ⟨rfl, hstate, rfl⟩
  case whistle =>
    have htaken : whistleEdge s = whistleTaken s := by rw [whistleEdge, whistleIgnored_false hlate, if_neg Bool.false_ne_true]
    have hO : Only [.clock, .captures] s (pump (whistleEdge s)) := by simpa using only_whistleEdge
    refine ⟨pump (whistleEdge s), rfl, ?_, ?_, fun hheld => ?_, hO⟩
    · rw [pump_clock, htaken, clock_whistleTaken]
      rfl
    · rw [pump_captures, htaken, captures_whistleTaken]
      exact counter_after ..
    · rw [pump_clock, pump_captures, htaken, clock_whistleTaken, captures_whistleTaken, counter_after, held_after hheld]
      rfl
  case ignored =>
    have hsame : whistleEdge s = s := by rw [whistleEdge, whistleIgnored_true hw hearly, if_pos rfl]
    refine ⟨pump (whistleEdge s), rfl, trivial, ?_, fun n => ?_⟩
    · rw [hsame]
      simp
    · rw [hsame, port_pump]
      rfl

end Sys2Proof.Machine
end
